-- ==== Sys2Proof/Word.lean ====
section
/-! DEFINITION. The word types and the two pockets.

Bytes and 16-bit words are bit vectors: the spec shows them to the host and to the retention array as bits
(00_scope.md 3.4: "Values of more than one byte are little-endian"). Counts, seconds and levels are natural
numbers, temperatures are integers. -/

namespace Sys2Proof

/-- One byte of the link or of the retention array. -/
abbrev Byte := BitVec 8

/-- A 16-bit word: a sequence number, a parameter word. -/
abbrev Word := BitVec 16

/-- The pockets, "A and B. On the link they are indexed 0 and 1" (00_scope.md 3.2). -/
inductive Pocket where
  | a
  | b
deriving DecidableEq, Repr

/-- The pocket that is not this one. -/
def Pocket.other : Pocket → Pocket
  | .a => .b
  | .b => .a

/-- One item for each pocket. -/
structure Per (α : Type) where
  a : α
  b : α
deriving DecidableEq, Repr

/-- The item of one pocket. -/
def Per.get {α : Type} (x : Per α) : Pocket → α
  | .a => x.a
  | .b => x.b

/-- The same item for both pockets. -/
def Per.both {α : Type} (v : α) : Per α := ⟨v, v⟩

/-- Replace the item of one pocket. -/
def Per.set {α : Type} (x : Per α) (p : Pocket) (v : α) : Per α :=
  match p with
  | .a => ⟨v, x.b⟩
  | .b => ⟨x.a, v⟩

/-- Change the item of one pocket. -/
def Per.modify {α : Type} (x : Per α) (p : Pocket) (f : α → α) : Per α := x.set p (f (x.get p))

end Sys2Proof
end

