-- ==== Sys2Proof/Syntax.lean ====
section
/-! DEFINITION. The commands of the TC-22: one constructor for each row of spec/opcode_table.json.

The table gives no row operands of its own. An operand here is what the step takes in from outside the part:
the level of a pin, a conversion result, the payload bytes of a request frame, or what the retention array did
physically (log entry 2). `Host.Cell` lists of the array steps are (offset in the page, byte) pairs. -/

namespace Sys2Proof

/-- The commands, in the table's order. -/
inductive Instr where
  /-- ZERO_CROSS_EDGE (R4): an edge on ZC. -/
  | zeroCrossEdge
  /-- DIP_ENTRY (R2): in PRESENT the absence time reaches the dip gap. -/
  | dipEntry
  /-- QUALIFY_ABORT (R4): in QUALIFYING the absence time reaches the dip gap. -/
  | qualifyAbort
  /-- LOSS_DECLARATION (R15): in DIP the absence time reaches the latched ride-through length. -/
  | lossDeclaration
  /-- MAINS_RETURN (R4): the qualification time reaches 1000 ms. -/
  | mainsReturn
  /-- SETTLE_END (R6): the settle timer reaches 3000 ms. -/
  | settleEnd
  /-- CONFIDENCE_RISE (R7): the confidence interval counter has reached 600 s. -/
  | confidenceRise
  /-- RESERVE_CONVERSION_DUE (R9): a reserve conversion starts on the ADC. -/
  | reserveConversionDue
  /-- RESERVE_RESULT (R10): a reserve conversion ends with this level, in 10 mV. -/
  | reserveResult (level : Nat)
  /-- BACKUP_POWER_UP (R20): the backup supply has risen to V_BACKUP_MIN. -/
  | backupPowerUp
  /-- BACKUP_COLLAPSE (R21): the capacitor falls below V_BACKUP_MIN. Of an operation in flight, `reached` bytes
  had been written, and at the offsets `kept` the erase had not yet reached the byte. -/
  | backupCollapse (reached : Nat) (kept : List Nat)
  /-- BACKUP_TICK (R23): the 1 s tick. -/
  | backupTick
  /-- DOOR_SAMPLE_MARK (R28): the 250 ms sample mark. -/
  | doorSampleMark
  /-- DOOR_INPUT_CHANGE (R156): DOOR_x changes to this level, open or closed. -/
  | doorInputChange (pocket : Pocket) (isOpen : Bool)
  /-- DOOR_DEBOUNCE (R47): the raw level of DOOR_x has held for 50 ms. -/
  | doorDebounce (pocket : Pocket)
  /-- NRESET_ASSERT (R19): nRESET goes low. -/
  | nresetAssert
  /-- NRESET_RELEASE (R19): nRESET returns high. -/
  | nresetRelease
  /-- PARAMETER_LOAD (R175): the read of page 32 completes; `misread` lists bytes read other than stored. -/
  | parameterLoad (misread : List Host.Cell)
  /-- SCAN_PAGE_READ (R106): a scanner read completes; `misread` lists bytes read other than stored. -/
  | scanPageRead (misread : List Host.Cell)
  /-- ROUTINE_SAMPLE_DUE (R75): the routine sample of this pocket falls due. -/
  | routineSampleDue (pocket : Pocket)
  /-- ROUTINE_SAMPLE_DONE (R77): a routine sample completes with these four codes. -/
  | routineSampleDone (pocket : Pocket) (c0 c1 c2 c3 : Nat)
  /-- RESTORE_SAMPLE_DONE (R77): a restore sample completes with these four codes. -/
  | restoreSampleDone (pocket : Pocket) (c0 c1 c2 c3 : Nat)
  /-- MERGE_WINDOW_EXPIRY (R65): the merge window has reached its length. -/
  | mergeWindowExpiry (pocket : Pocket)
  /-- WRITE_VERIFY_DONE (R89): a WRITE+VERIFY ends; `damage` lists bytes that came out other than written. -/
  | writeVerifyDone (damage : List Host.Cell)
  /-- ERASE_DONE (R91): an ERASE ends; `residue` lists bytes that came out other than erased. -/
  | eraseDone (residue : List Host.Cell)
  /-- PARAM_OPERATION_DONE (R97): a PARAM operation ends; `damage` as for a write. -/
  | paramOperationDone (damage : List Host.Cell)
  /-- HEATER_GRANT (R143): the RSA grants heater return to the queue head. -/
  | heaterGrant
  /-- BURST_END (R155): the period position has reached on. -/
  | burstEnd (pocket : Pocket)
  /-- PERIOD_BOUNDARY (R154): in REST the position has reached the period. -/
  | periodBoundary (pocket : Pocket)
  /-- FRAME_DISCARD (R163): these bytes arrive in IN_FRAME, the last without a valid stop bit when `badStop` is set. They
  spoil the frame, or, where they do not, do what R163 says of each. -/
  | frameDiscard (bytes : List Byte) (badStop : Bool)
  /-- RX_GAP_TIMEOUT (R163): more than 5 ms pass between bytes of a frame. -/
  | rxGapTimeout
  /-- UNKNOWN_REQUEST_TYPE (R164): a completed frame whose type is not a request type. -/
  | unknownRequestType (type : Byte) (payload : List Byte)
  /-- STATUS (R168): a completed STATUS frame with this payload. -/
  | status (payload : List Byte)
  /-- START (R33). -/
  | start (payload : List Byte)
  /-- REPORT (R61). -/
  | report (payload : List Byte)
  /-- CHECKPOINT (R72). -/
  | checkpoint (payload : List Byte)
  /-- END (R37). -/
  | endCycle (payload : List Byte)
  /-- PLAN (R138). -/
  | plan (payload : List Byte)
  /-- RESUME with choice ACCEPT (R133). -/
  | resumeAccept (payload : List Byte)
  /-- RESUME naming REHEAT (R134). -/
  | resumeReheat (payload : List Byte)
  /-- RESUME naming COOL (R135). -/
  | resumeCool (payload : List Byte)
  /-- RESUME naming GUARD (R136). -/
  | resumeGuard (payload : List Byte)
  /-- RESUME naming CLOSE (R136). -/
  | resumeClose (payload : List Byte)
  /-- GUARD (R157). -/
  | guard (payload : List Byte)
  /-- CLEAR of all advisory faults (R54). -/
  | clearAllAdvisory (payload : List Byte)
  /-- CLEAR naming one advisory fault (R54). -/
  | clearAdvisoryFault (payload : List Byte)
  /-- CLEAR naming a blocking fault (R55). -/
  | clearBlockingFault (payload : List Byte)
  /-- HISTORY (R117). -/
  | history (payload : List Byte)
  /-- FORMAT (R99). -/
  | format (payload : List Byte)
  /-- PARAM_READ (R174). -/
  | paramRead (payload : List Byte)
  /-- PARAM_WRITE (R174). -/
  | paramWrite (payload : List Byte)
  /-- PARAM_STORE (R97). -/
  | paramStore (payload : List Byte)
  /-- REPLY_SENT (R166): the last byte of the reply in transmission leaves TXD. -/
  | replySent
  /-- SYNC_BYTE (R163): a byte of value 0xC5 arrives in HUNTING. -/
  | syncByte
deriving DecidableEq, Repr

end Sys2Proof
end

