-- ==== Sys2Proof/Decode.lean ====
section
/-! DEFINITION. The command that a word of the opcode table spells. -/

namespace Sys2Proof

/-- The command a table word spells. The rows of spec/opcode_table.json carry no bits ("n_rows_with_fixed": 0 in
spec/98_reader.md), so no word spells a command (log entry 11). The bytes of a link frame are read by the receiver of
R163, in Machine/LinkPort.lean. -/
def decodeTableWord (_nbits _w : Nat) : Option Instr := none

end Sys2Proof
end

