-- ==== Sys2Proof/Config.lean ====
section
/-! DEFINITION. The free values: what the spec leaves open where the part nevertheless goes on.

None of these constants has a body, so nothing in Lean can evaluate one and a statement that meets one holds
whatever it is. Each is named in an assumption log entry. -/

namespace Sys2Proof

/-- The dip gap the monitor compares against while no parameters are in force (in BACKUP, and in STARTUP
before the parameter load). R5 says "the dip gap in force"; R162 and R175 keep the parameters in the main
domain, which is then dark or not yet loaded. Applied to the running count of such uses. Log entry 5. -/
opaque Config.openDipGap : Nat → Nat

/-- The phase that a phase byte other than 1, 2 and 3 stands for, in a slot record whose check word is right
(R106 does not test body fields, and Table 11-2 gives no such code). Log entry 6. -/
opaque Config.openPhaseCode : Byte → Fin 3

/-- The number of bursts a stall has used up under a recorded guard period of 0. R125 says the period is at
least 7 s, and R106 takes a record as written. Log entry 6. -/
opaque Config.openBurstsUsed : Nat → Nat

/-- A temperature read where the spec says one is always present (START with no in-range sample since the
start, a plan past the gates without T_now) and gives no value for its absence. Log entry 7. -/
opaque Config.openTemperature : Nat → Int

/-- A sequence number the spec states no value for: the one a CHECKPOINT of a clean image reports for a pocket without
a completed record (R72 says "the pocket's newest completed record", which a clean image always has), and the STATUS
field of a pocket whose newest completed sequence is none (Table 11-6). Log entry 7. -/
opaque Config.openSequence : Nat → Word

/-- What a written byte becomes when another value is written over it. R79 says only that it does not return to the
erased value; a page called blank by a misread (R106) can be written over. Log entry 39. -/
opaque Config.openOverwrite : BitVec 8 → BitVec 8 → BitVec 8

end Sys2Proof
end

