-- ==== Sys2Proof/Machine/State.lean ====
section
/-! DEFINITION. The state of the TC-22 as plain data, what can stop it, and the state after reset.

`State` is the queue of waiting commands, the retention array and the part (`Dev`): its pins, its backup domain
and its main domain. The outputs (HEAT_PERMIT_x, MOTOR_RUN_x, MOTOR_REV_x, ATTN, TXD) follow the state "at once"
(R50, R156, R166, R167), so they are functions of it, in Machine/Flags.lean, and are stored nowhere. -/

namespace Sys2Proof.Machine

/-! ### What can stop a step -/

/-- Why a step faults. -/
inductive Fault where
  /-- An access to the retention array beyond its 33 pages of 128 bytes (R79). Raised by `arrayByte` only: no
  command carries an array address, and every page a rule names exists. Safe: the model stops where the spec
  gives no byte. -/
  | noSuchArrayByte (address : Nat)
deriving DecidableEq, Repr

/-- Why a command is refused by the model. -/
inductive Refusal where
  /-- The command has no meaning in the model yet. Raised by `exec` only. Safe: the model stops. -/
  | notModelled (mnemonic : String)
deriving DecidableEq, Repr

/-! ### Names the spec fixes (Table 11-1 and Table 11-2 give their codes) -/

/-- The mains monitor states (R1). -/
inductive MainsState where
  | present
  | dip
  | absent
  | qualifying
deriving DecidableEq, Repr

/-- The device run states (Table 1-5). -/
inductive RunState where
  | startup
  | run
  | lossCommit
  | backup
deriving DecidableEq, Repr

/-- The pocket states (Table 3-1). -/
inductive PocketState where
  | vacant
  | drying
  | cooling
  | anticrease
  | suspended
  | planned
  | waitstart
deriving DecidableEq, Repr

/-- The phases of a cycle (Table 4-1). -/
inductive Phase where
  | drying
  | cooling
  | anticrease
deriving DecidableEq, Repr

/-- The record kinds (R67, Table 11-2). -/
inductive Kind where
  | start
  | progress
  | phase
  | suspend
  | resume
  | close
deriving DecidableEq, Repr

/-- The close reasons (Table 3-3); `ended` is END. -/
inductive CloseReason where
  | ended
  | door
  | guardDone
  | expired
  | discarded
deriving DecidableEq, Repr

/-- The resume outcomes (3.7, Table 7-3). -/
inductive ResumeOutcome where
  | reheat
  | cool
  | guard
  | close
  | hold
deriving DecidableEq, Repr

/-- The plan reasons (Table 7-1). -/
inductive PlanReason where
  | normal
  | noBackup
  | mismatch
  | blocked
  | strict
  | door
  | expired
  | longStall
  | outageLimit
  | coldLoad
deriving DecidableEq, Repr

/-- The start kind a pocket sequencer records for the planner (R32). -/
inductive StartKind where
  | cold
  | warm
deriving DecidableEq, Repr

/-- The tumble timer states (R151). -/
inductive TimerState where
  | idle
  | burst
  | rest
  | paused
deriving DecidableEq, Repr

/-- The phase of a period that a paused timer was in (R151). -/
inductive TumblePhase where
  | burst
  | rest
deriving DecidableEq, Repr

/-- The direction of tumbling (R151). -/
inductive Direction where
  | forward
  | reverse
deriving DecidableEq, Repr

/-- The scan states (R104). -/
inductive ScanState where
  | idle
  | scanning
  | done
deriving DecidableEq, Repr

/-- The result codes of replies (Table 11-1). -/
inductive Result where
  | ok
  | clamped
  | state
  | order
  | busy
  | faulted
  | unknown
  | length
  | pocket
deriving DecidableEq, Repr

/-- The request types (Table 11-1). -/
inductive Request where
  | status
  | start
  | report
  | checkpoint
  | endCycle
  | plan
  | resume
  | guard
  | clear
  | history
  | format
  | paramRead
  | paramWrite
  | paramStore
deriving DecidableEq, Repr

/-- The pocket faults (Table 3-5): the first three advisory, the others blocking. -/
inductive PocketFault where
  | tornTail
  | staleBasis
  | writeRetry
  | journalFail
  | ringCorrupt
  | thermal
  | sensor
deriving DecidableEq, Repr

/-- The device faults (R56). -/
inductive DeviceFault where
  | paramDefault
  | reserveLow
  | coldStart
deriving DecidableEq, Repr

/-- The attention causes (R167). -/
inductive Cause where
  | planReady
  | closed
  | fault
  | supply
deriving DecidableEq, Repr

/-! ### Pins -/

/-- The levels of the digital inputs that a rule reads as a level: DOOR_x (open at the high level, R179) and
nRESET (taken on its low level, R19). ZC, VRES, THERM_x and RXD act through the commands they bring. -/
structure Pins where
  doorOpen : Per Bool
  nresetLow : Bool
deriving DecidableEq, Repr

/-! ### The backup domain (R1, R7, R20, R23 to R29) -/

/-- The mains monitor (R1). -/
structure Monitor where
  state : MainsState
  /-- Whole milliseconds since the most recent zero-cross edge. -/
  absence : Nat
  /-- Whole milliseconds since QUALIFYING was last entered; before the first entry, since power-up (log entry 37). -/
  qualification : Nat
  /-- The latched ride-through length, 200 or 80 ms. -/
  rideThrough : Nat
deriving DecidableEq, Repr

/-- The backup facts of one pocket (Table 2-2). -/
structure Facts where
  suspended : Bool
  stallRunning : Bool
  /-- The stall counter, whole seconds. -/
  stall : Nat
  /-- Milliseconds since the stall counter's last full second: its own phase (R25, "its starting instant"). -/
  stallMs : Nat
  /-- The losses-since-commit counter L. -/
  losses : Nat
  /-- The door latch D. -/
  latch : Bool
deriving DecidableEq, Repr

/-- The backup domain. While `powered` is false its items are lost, and hold their power-up values (log entry 4). -/
@[ext] structure Backup where
  powered : Bool
  continuity : Bool
  /-- The timebase phase: milliseconds since the last 1 s tick (R23). -/
  tickMs : Nat
  /-- The supply confidence score (R7). -/
  confidence : Nat
  /-- The confidence interval counter, seconds (R7). -/
  interval : Nat
  monitor : Monitor
  facts : Per Facts
deriving DecidableEq, Repr

/-! ### The main domain -/

/-- The heater settle interval (R6). -/
structure Settle where
  flag : Bool
  ms : Nat
deriving DecidableEq, Repr

/-- The reserve monitor (R10). -/
structure Reserve where
  level : Nat
  ready : Bool
deriving DecidableEq, Repr

/-- What the one ADC converts (R9): VRES, or the thermistor input of a pocket. -/
inductive Conversion where
  | reserve
  | thermistor (pocket : Pocket)
deriving DecidableEq, Repr

/-- The ADC and its schedule (R9, R75). It runs one conversion at a time; one that falls due meanwhile waits. -/
@[ext] structure Adc where
  running : Option Conversion
  /-- A reserve conversion waits for the ADC. -/
  reserveWaits : Bool
  /-- A thermistor conversion of the pocket waits for the ADC. -/
  thermistorWaits : Per Bool
  /-- How many conversions of the pocket's sample under way have started. -/
  started : Per Nat
  /-- Milliseconds since the latest of them started, or, before the first, since the sample began. -/
  sinceMs : Per Nat
  /-- Milliseconds since a reserve conversion last fell due, or, before the first, since the main domain started. -/
  reserveMs : Nat
deriving DecidableEq, Repr

/-- The device fault set (R56). -/
structure DeviceFaults where
  paramDefault : Bool
  reserveLow : Bool
  coldStart : Bool
deriving DecidableEq, Repr

/-- What the sensing sequencer is sampling for a pocket (R75). -/
inductive Sampling where
  | none
  | routine
  | restore
deriving DecidableEq, Repr

/-- The sensing sequencer's items of one pocket (R73). -/
structure Sensor where
  /-- The published exhaust temperature, or absent. -/
  published : Option Int
  /-- The mean code of the latest completed sample and whether it was in range. -/
  recent : Option (Nat × Bool)
  /-- The sensor-fault streak. -/
  streak : Nat
  /-- The converted value of the most recent in-range sample (R73, last paragraph). -/
  lastInRange : Option Int
  sampling : Sampling
deriving DecidableEq, Repr

/-- A guard program (R152). -/
structure GuardProgram where
  on : Nat
  period : Nat
  bursts : Nat
  reverse : Nat
deriving DecidableEq, Repr

/-- The advisory fault set of a pocket (R51). -/
structure Advisory where
  tornTail : Bool
  staleBasis : Bool
  writeRetry : Bool
deriving DecidableEq, Repr

/-- The blocking fault set of a pocket (R51). -/
structure Blocking where
  journalFail : Bool
  ringCorrupt : Bool
  thermal : Bool
  sensor : Bool
deriving DecidableEq, Repr

/-- A resume choice other than none (R32). -/
structure Choice where
  outcome : ResumeOutcome
  heat : Nat
  cool : Nat
  bursts : Nat
  guard : GuardProgram
deriving DecidableEq, Repr

/-- A pocket sequencer (R32). -/
structure Sequencer where
  state : PocketState
  mark : Option CloseReason
  startKind : StartKind
  choice : Option Choice
  strict : Bool
  /-- The debounced door reading, true for OPEN. -/
  doorOpen : Bool
  /-- Milliseconds for which the raw door input has held its level (R47). -/
  doorHoldMs : Nat
  advisory : Advisory
  blocking : Blocking
deriving DecidableEq, Repr

/-- The body fields of a working image (Table 4-1). -/
structure Body where
  phase : Phase
  program : Nat
  heat : Nat
  cool : Nat
  stage : Nat
  moisture : Nat
  energy : Nat
  runTime : Nat
  exhaustLast : Int
  exhaustPeak : Int
  outages : Nat
  guard : GuardProgram
  burstsLeft : Nat
deriving DecidableEq, Repr

/-- The commit status of an image (R57). -/
inductive CommitStatus where
  | none
  | queued (kind : Kind)
  | inFlight (kind : Kind)
deriving DecidableEq, Repr

/-- The resume block held with an image (R145). -/
structure ResumeBlock where
  outcome : ResumeOutcome
  reason : PlanReason
  basisSeq : Word
  stall : Nat
  temperature : Option Int
deriving DecidableEq, Repr

/-- A present working image (R57). -/
structure Image where
  body : Body
  cycle : Nat
  pending : Nat
  dirty : Bool
  /-- The merge window timer: stopped, or running with an elapsed count of seconds. -/
  window : Option Nat
  commit : CommitStatus
  recommit : Option Kind
  closeReason : Option CloseReason
  exhaustRef : Int
  resume : Option ResumeBlock
deriving DecidableEq, Repr

/-- What the engine writes for a commit: the snapshot of R68. -/
structure Snapshot where
  body : Body
  cycle : Nat
  kind : Kind
  closeReason : Option CloseReason
  resume : Option ResumeBlock
deriving DecidableEq, Repr

/-- What an ERASE is run for (R84). -/
inductive ErasePurpose where
  | entry
  | format
  | target
deriving DecidableEq, Repr

/-- The operation in flight (R82). `beforeLoss` marks a write that was in flight at the loss declaration (R27,
R96). A PARAM operation keeps its entry's age and whether this is its second try (R98). -/
inductive Operation where
  | write (pocket : Pocket) (slot : Fin 16) (snapshot : Snapshot) (seq : Word) (beforeLoss : Bool)
  | erase (pocket : Pocket) (slot : Fin 16) (purpose : ErasePurpose)
  | param (words : List Word) (secondTry : Bool) (age : Nat)
deriving DecidableEq, Repr

/-- The commit in service (R82). The snapshot is present once its first write has started. -/
structure Service where
  pocket : Pocket
  snapshot : Option Snapshot
deriving DecidableEq, Repr

/-- The work of a queue entry (Table 5-2). The kind and the close reason of a COMMIT entry are those of the
pocket's image (R67): stored once, there. -/
inductive Work where
  | commit (pocket : Pocket)
  | erase (pocket : Pocket) (slot : Fin 16)
  | param (secondTry : Bool)
  | format (pocket : Pocket) (next : Fin 16) (failed : Bool)
deriving DecidableEq, Repr

/-- A queue entry with its place in age order (R82). -/
structure Entry where
  age : Nat
  work : Work
deriving DecidableEq, Repr

/-- The slot operation engine (R82). `completions` numbers completed commits, so that a pocket's completion age
can be compared (log entry 12). -/
@[ext] structure Engine where
  inFlight : Option Operation
  service : Option Service
  queue : List Entry
  nextAge : Nat
  completions : Nat
deriving DecidableEq, Repr

/-- The engine's items of one pocket (R82, R103). -/
@[ext] structure Ring where
  writePos : Fin 16
  blank : Vector Bool 16
  lastSeq : Word
  newest : Option Word
  failures : Nat
  completionAge : Option Nat
  lastCycle : Nat
deriving DecidableEq, Repr

/-- A slot record as bytes: parts 2 to 4 or 5 of Table 5-1 (header, body, block), offsets 2 up to the check word. -/
structure Record where
  bytes : List Byte
deriving DecidableEq, Repr

/-- The class of a scanned slot (Table 6-1). A VALID slot keeps its record as read, header included. -/
inductive SlotClass where
  | blank
  | torn
  | foreign
  | valid (record : Record)
deriving DecidableEq, Repr

/-- The basis of a pocket (R108): one VALID record with its slot. -/
structure Basis where
  slot : Fin 16
  record : Record
deriving DecidableEq, Repr

/-- The journal scanner's items of one pocket (R104): the scan map as far as the scan has come, the basis and
the history list, newest first. -/
structure Journal where
  map : List SlotClass
  basis : Option Basis
  history : List Record
deriving DecidableEq, Repr

/-- The journal scanner: its scan state and the bad reads so far of the page being classed (R106). -/
structure Scanner where
  state : ScanState
  badReads : Nat
deriving DecidableEq, Repr

/-- A plan record (Table 7-1). -/
structure Plan where
  outcome : ResumeOutcome
  reason : PlanReason
  basisSeq : Word
  basisPhase : Phase
  stall : Nat
  latch : Bool
  outages : Nat
  tNow : Option Int
  tLast : Int
  heat : Nat
  cool : Nat
  bursts : Nat
  guard : GuardProgram
  stale : Bool
deriving DecidableEq, Repr

/-- The restart arbiter (R140). -/
structure Arbiter where
  queue : List Pocket
  stagger : Nat
deriving DecidableEq, Repr

/-- A tumble timer (R151). -/
structure Tumbler where
  state : TimerState
  active : Option GuardProgram
  staged : Option GuardProgram
  burstsLeft : Nat
  position : Nat
  interrupted : Option TumblePhase
  direction : Direction
deriving DecidableEq, Repr

/-- A frame being received: the length and the type once they have arrived, the payload so far and the running
sum (R162). -/
structure RxFrame where
  length : Option Byte
  type : Option Byte
  payload : List Byte
  sum : Byte
deriving DecidableEq, Repr

/-- The receiver state with its buffer (R162). -/
inductive Receiver where
  | hunting
  | inFrame (buffer : RxFrame)
deriving DecidableEq, Repr

/-- A deferred table entry (R162). `clamped` is the result an accepted START will carry (R34); `after` is how
many completions of the pocket a CHECKPOINT lets pass before the one that answers it (R72). -/
structure Deferred where
  request : Request
  pocket : Option Pocket
  clamped : Bool
  after : Nat
deriving DecidableEq, Repr

/-- A reply ready to be sent: its type byte and its payload. -/
structure Reply where
  type : Byte
  payload : List Byte
deriving DecidableEq, Repr

/-- The set of attention causes (R162). -/
structure Attention where
  planReady : Bool
  closed : Bool
  fault : Bool
  supply : Bool
deriving DecidableEq, Repr

/-- The link port (R162) with the 40 parameter words in force (10.7) and whether STARTUP has loaded them. -/
@[ext] structure Link where
  receiver : Receiver
  gapMs : Nat
  deferred : List Deferred
  transmit : List Reply
  attention : Attention
  resetHold : Bool
  params : Vector Word 40
  loaded : Bool
deriving DecidableEq, Repr

/-- The part. While `run` is BACKUP the main domain is unpowered; its items are lost, and hold the values of
`Dev.mainOff` (log entry 4). -/
@[ext] structure Dev where
  pins : Pins
  bkd : Backup
  run : RunState
  settle : Settle
  reserve : Reserve
  adc : Adc
  faults : DeviceFaults
  sns : Per Sensor
  psq : Per Sequencer
  image : Per (Option Image)
  engine : Engine
  ring : Per Ring
  scan : Scanner
  journal : Per Journal
  plan : Per (Option Plan)
  arbiter : Arbiter
  tmb : Per Tumbler
  link : Link
  /-- The model's own: how many free values have been drawn (log entry 5). -/
  freeCount : Nat
deriving DecidableEq, Repr

/-- The retention array as (address, byte) pairs, addresses strictly rising, no entry equal to the erased value
that an unlisted address reads as (R79: erased bytes read all ones). Page n is addresses 128 n to 128 n + 127. -/
abbrev Memory := List Host.Cell

/-- The state: the commands waiting, first in first out; the retention array; the part. -/
@[ext]
structure State where
  pending : List Instr
  array : Memory
  dev : Dev
deriving DecidableEq, Repr

/-! ### Named updates of the part -/

def Dev.setPins (v : Pins) (d : Dev) : Dev := { d with pins := v }
def Dev.setBkd (v : Backup) (d : Dev) : Dev := { d with bkd := v }
def Dev.setRun (v : RunState) (d : Dev) : Dev := { d with run := v }
def Dev.setSettle (v : Settle) (d : Dev) : Dev := { d with settle := v }
def Dev.setReserve (v : Reserve) (d : Dev) : Dev := { d with reserve := v }
def Dev.setAdc (v : Adc) (d : Dev) : Dev := { d with adc := v }
def Dev.setFaults (v : DeviceFaults) (d : Dev) : Dev := { d with faults := v }
def Dev.setEngine (v : Engine) (d : Dev) : Dev := { d with engine := v }
def Dev.setScan (v : Scanner) (d : Dev) : Dev := { d with scan := v }
def Dev.setArbiter (v : Arbiter) (d : Dev) : Dev := { d with arbiter := v }
def Dev.setLink (v : Link) (d : Dev) : Dev := { d with link := v }
def Dev.setFreeCount (v : Nat) (d : Dev) : Dev := { d with freeCount := v }
def Dev.setSns (p : Pocket) (v : Sensor) (d : Dev) : Dev := { d with sns := d.sns.set p v }
def Dev.setPsq (p : Pocket) (v : Sequencer) (d : Dev) : Dev := { d with psq := d.psq.set p v }
def Dev.setImage (p : Pocket) (v : Option Image) (d : Dev) : Dev := { d with image := d.image.set p v }
def Dev.setRing (p : Pocket) (v : Ring) (d : Dev) : Dev := { d with ring := d.ring.set p v }
def Dev.setJournal (p : Pocket) (v : Journal) (d : Dev) : Dev := { d with journal := d.journal.set p v }
def Dev.setPlan (p : Pocket) (v : Option Plan) (d : Dev) : Dev := { d with plan := d.plan.set p v }
def Dev.setTmb (p : Pocket) (v : Tumbler) (d : Dev) : Dev := { d with tmb := d.tmb.set p v }

/-- Replace the backup facts of one pocket. -/
def Dev.setFacts (p : Pocket) (v : Facts) (d : Dev) : Dev :=
  d.setBkd { d.bkd with facts := d.bkd.facts.set p v }

/-- Replace the mains monitor. -/
def Dev.setMonitor (v : Monitor) (d : Dev) : Dev := d.setBkd { d.bkd with monitor := v }

/-! ### Values at a start, at power-up and at reset -/

/-- The mains monitor at backup power-up (Table 2-1). -/
def Monitor.powerUp : Monitor := ⟨.absent, 0, 0, 200⟩

/-- The backup facts when clear (Table 2-1, R22, R29). -/
def Facts.clear : Facts := ⟨false, false, 0, 0, 0, false⟩

/-- The backup domain at power-up (Table 2-1). -/
def Backup.powerUp : Backup := ⟨true, false, 0, 8, 0, .powerUp, .both .clear⟩

/-- The backup domain collapsed: every item lost (R20). -/
def Backup.collapsed : Backup := { Backup.powerUp with powered := false }

/-- The ADC with no conversion running, waiting or begun: as a start of the main domain leaves it. -/
def Adc.idle : Adc := ⟨none, false, .both false, .both 0, .both 0, 0⟩

/-- A sensing sequencer at a start (R73). -/
def Sensor.start : Sensor := ⟨none, none, 0, none, .none⟩

/-- Empty fault sets (R32). -/
def Advisory.empty : Advisory := ⟨false, false, false⟩
def Blocking.empty : Blocking := ⟨false, false, false, false⟩
def DeviceFaults.empty : DeviceFaults := ⟨false, false, false⟩
def Attention.empty : Attention := ⟨false, false, false, false⟩

/-- A pocket sequencer at a start (R32); the strict copy waits for the parameter load. -/
def Sequencer.start (kind : StartKind) (doorOpen : Bool) : Sequencer :=
  ⟨.vacant, none, kind, none, false, doorOpen, 0, .empty, .empty⟩

/-- The engine at a start (R82). -/
def Engine.start : Engine := ⟨none, none, [], 0, 0⟩

/-- The engine's pocket items before the scan sets them (R82 "unset"). -/
def Ring.unset : Ring := ⟨0, Vector.replicate 16 false, 0, none, 0, none, 0⟩

/-- The scanner and its pocket items at a start (R104). -/
def Scanner.start : Scanner := ⟨.idle, 0⟩
def Journal.start : Journal := ⟨[], none, []⟩

/-- A tumble timer at a start, or stopped (R151, R160), with this many bursts left in its count. -/
def Tumbler.idle (burstsLeft : Nat) : Tumbler := ⟨.idle, none, none, burstsLeft, 0, none, .forward⟩

/-- The mask default of each parameter index (Table 11-8, Table 11-9). -/
def maskDefaults : Vector Word 40 :=
  #v[7200, 96, 1800, 3, 35, 60, 100, 3, 10, 120, 60, 1,
     0, 0, 0, 0, 0, 0, 0, 0, 0, 30,
     400, 150, 700, 120, 1100, 95, 1600, 72, 2100, 55, 2600, 40, 3100, 27, 3600, 14, 3950, 0]

/-- The link port at a start (R162). No parameters are in force until the load; the words are unread until then. -/
def Link.start (resetHold : Bool) : Link := ⟨.hunting, 0, [], [], .empty, resetHold, maskDefaults, false⟩

/-- The main domain initialised, with this run state, start kind, reset hold and door readings: each block's
items at "every start of the main domain" (R6, R10, R12, R32, R56, R58, R73, R82, R104, R118, R140, R151, R162). -/
def Dev.mainInit (runState : RunState) (kind : StartKind) (resetHold : Bool) (doors : Per Bool) (d : Dev) : Dev where
  pins := d.pins
  bkd := d.bkd
  run := runState
  settle := ⟨false, 0⟩
  reserve := ⟨0, false⟩
  adc := .idle
  faults := .empty
  sns := .both .start
  psq := ⟨.start kind doors.a, .start kind doors.b⟩
  image := .both none
  engine := .start
  ring := .both .unset
  scan := .start
  journal := .both .start
  plan := .both none
  arbiter := ⟨[], 0⟩
  tmb := .both (.idle 0)
  link := .start resetHold
  freeCount := d.freeCount

/-- The main domain unpowered (R17): every item lost. -/
def Dev.mainOff (d : Dev) : Dev := d.mainInit .backup .warm false (.both false)

/-- The part when it is first supplied (R20): "in BACKUP, with the main domain unpowered", the backup items at
their power-up values. The pin levels are the model's (log entry 3): doors closed, nRESET high. -/
def Dev.firstSupply : Dev where
  pins := ⟨.both false, false⟩
  bkd := .powerUp
  run := .backup
  settle := ⟨false, 0⟩
  reserve := ⟨0, false⟩
  adc := .idle
  faults := .empty
  sns := .both .start
  psq := .both (.start .warm false)
  image := .both none
  engine := .start
  ring := .both .unset
  scan := .start
  journal := .both .start
  plan := .both none
  arbiter := ⟨[], 0⟩
  tmb := .both (.idle 0)
  link := .start false
  freeCount := 0

/-- The machine right after reset: no command waiting, every page erased (R79), the part first supplied. -/
def State.reset : State := ⟨[], [], .firstSupply⟩

end Sys2Proof.Machine
end

