-- ==== Sys2Proof/Machine/Adc.lean ====
section
/-! DEFINITION. The one ADC and its schedule: which conversion runs, which wait, and the four conversions of a sample
(R9, R75). A reserve conversion ends with its result and a sample with its last conversion, which are commands; every
other thermistor conversion is over when a millisecond has passed ("well within 1 ms", R9; log entry 13). -/

namespace Sys2Proof.Machine

/-- A thermistor conversion of a pocket starts. -/
def Adc.begin (p : Pocket) (a : Adc) : Adc :=
  { a with
    running := some (.thermistor p)
    thermistorWaits := a.thermistorWaits.set p false
    started := a.started.set p (a.started.get p + 1)
    sinceMs := a.sinceMs.set p 0 }

/-- The conversion that ran has ended: a waiting reserve conversion starts first (R9), then pocket A's thermistor
conversion, then pocket B's. -/
def Adc.handOn (a : Adc) : Adc :=
  if a.reserveWaits then { a with running := some .reserve, reserveWaits := false }
  else if a.thermistorWaits.a then a.begin .a
  else if a.thermistorWaits.b then a.begin .b
  else { a with running := none }

/-- The time between two reserve conversions in STARTUP and RUN (R9), ms. -/
def reservePeriod : Nat := 20

/-- A reserve conversion falls due in this millisecond, and its command has not come yet (log entry 14). In LOSS_COMMIT,
where the time is 5 ms, no thermistor conversion falls due beside it (R9). -/
def Adc.reserveDue (a : Adc) : Bool := a.reserveMs == reservePeriod

/-- A reserve conversion falls due: it starts on a free ADC, and otherwise "when that conversion ends" (R9). -/
def Adc.requestReserve (a : Adc) : Adc :=
  match a.running with
  | none => { a with running := some .reserve, reserveMs := 0 }
  | some _ => { a with reserveWaits := true, reserveMs := 0 }

/-- A thermistor conversion falls due: it starts on a free ADC, and otherwise "when the ADC is free" (R75). Where a reserve
conversion falls due together with it, "the SNS takes the reserve conversion first" (R9). -/
def Adc.requestThermistor (p : Pocket) (a : Adc) : Adc :=
  if a.running = none ∧ a.reserveDue = false then a.begin p
  else { a with thermistorWaits := a.thermistorWaits.set p true }

/-- A reserve conversion runs, or waits for the one that runs to end. -/
def Adc.reserveUnderWay (a : Adc) : Bool := a.running == some .reserve || a.reserveWaits

/-- A reserve conversion ends with its result: the one that runs, or, where another ran, the one that waited for it and
has run since. -/
def Adc.endReserve (a : Adc) : Adc :=
  match a.running with
  | some .reserve => a.handOn
  | some (.thermistor _) => Adc.handOn { a with reserveWaits := false }
  | none => Adc.handOn { a with reserveWaits := false }

/-- A pocket has no sample under way any more; a conversion of it that runs goes on to its end. -/
def Adc.dropSample (p : Pocket) (a : Adc) : Adc :=
  { a with
    thermistorWaits := a.thermistorWaits.set p false
    started := a.started.set p 0
    sinceMs := a.sinceMs.set p 0 }

/-- A pocket's sample completes, its fourth conversion having ended (R75). -/
def Adc.endSample (p : Pocket) (a : Adc) : Adc :=
  if a.running = some (.thermistor p) then (a.dropSample p).handOn else a.dropSample p

/-- The milliseconds after which the next conversion of a sample falls due, if one is left to fall due by the passing
of time: 2 ms (routine) or 100 ms (restore) from the start of the one before, and 50 ms to the first of a restore sample
that did not begin at once, pocket B's (R75). -/
def conversionDue (started : Nat) : Sampling → Option Nat
  | .none => none
  | .routine => if started = 0 ∨ 4 ≤ started then none else some 2
  | .restore => if started = 0 then some 50 else if 4 ≤ started then none else some 100

/-- One millisecond of a pocket's sample. -/
def Adc.elapseSample (p : Pocket) (sampling : Sampling) (a : Adc) : Adc :=
  match conversionDue (a.started.get p) sampling, a.thermistorWaits.get p with
  | some due, false =>
    let a1 : Adc := { a with sinceMs := a.sinceMs.set p (a.sinceMs.get p + 1) }
    if due ≤ a.sinceMs.get p + 1 then a1.requestThermistor p else a1
  | some _, true => a
  | none, _ => a

/-- One millisecond of the ADC: a thermistor conversion that ran has ended, a free ADC goes to one that waits, and the
samples under way go on. -/
def Adc.elapse (a b : Sampling) (adc : Adc) : Adc :=
  let adc1 := { adc with reserveMs := adc.reserveMs + 1 }
  let adc2 := match adc1.running with
    | some (.thermistor _) => adc1.handOn
    | some .reserve => adc1
    | none => adc1.handOn
  (adc2.elapseSample .a a).elapseSample .b b

/-- A pocket's routine sample falls due, and its first conversion with it (R75). -/
def Dev.beginSample (p : Pocket) (d : Dev) : Dev :=
  (d.setSns p { d.sns.get p with sampling := .routine }).setAdc ((d.adc.dropSample p).requestThermistor p)

end Sys2Proof.Machine
end

