-- ==== Sys2Proof/Machine/Codes.lean ====
section
/-! DEFINITION. The codes of the enumerated values (Table 11-1 and Table 11-2) and the ranks of kinds and
outcomes. -/

namespace Sys2Proof.Machine

/-- Run state codes. BACKUP has none: the link is then down. -/
def RunState.code : RunState → Nat
  | .startup => 0
  | .run => 1
  | .lossCommit => 2
  | .backup => 3

def MainsState.code : MainsState → Nat
  | .present => 0
  | .dip => 1
  | .absent => 2
  | .qualifying => 3

def PocketState.code : PocketState → Nat
  | .vacant => 0
  | .drying => 1
  | .cooling => 2
  | .anticrease => 3
  | .suspended => 4
  | .planned => 5
  | .waitstart => 6

def Phase.code : Phase → Nat
  | .drying => 1
  | .cooling => 2
  | .anticrease => 3

/-- The pocket state of a cycle in this phase. -/
def Phase.pocketState : Phase → PocketState
  | .drying => .drying
  | .cooling => .cooling
  | .anticrease => .anticrease

def Kind.code : Kind → Nat
  | .start => 1
  | .progress => 2
  | .phase => 3
  | .suspend => 4
  | .resume => 5
  | .close => 6

/-- The record kind of a header byte, none where it is not one of the six (R106, step 3). -/
def Kind.ofCode (n : Nat) : Option Kind :=
  match n with
  | 1 => some .start
  | 2 => some .progress
  | 3 => some .phase
  | 4 => some .suspend
  | 5 => some .resume
  | 6 => some .close
  | _ => none

/-- The precedence of R67, a higher rank for a higher precedence. -/
def Kind.rank : Kind → Nat
  | .close => 6
  | .suspend => 5
  | .resume => 4
  | .start => 3
  | .phase => 2
  | .progress => 1

/-- "Upgrades": the higher-ranked of the two kinds (R67). -/
def Kind.upgrade (held trigger : Kind) : Kind := if held.rank < trigger.rank then trigger else held

def CloseReason.code : CloseReason → Nat
  | .ended => 1
  | .door => 2
  | .guardDone => 3
  | .expired => 4
  | .discarded => 5

/-- The code of a closing mark, 0 for none. -/
def markCode : Option CloseReason → Nat
  | none => 0
  | some r => r.code

/-- The reasons whose closure raises CLOSED (R39). -/
def CloseReason.announced : CloseReason → Bool
  | .door => true
  | .guardDone => true
  | .expired => true
  | .ended => false
  | .discarded => false

/-- Outcome codes, which also rank REHEAT to CLOSE from least to most conservative (3.7). -/
def ResumeOutcome.code : ResumeOutcome → Nat
  | .reheat => 1
  | .cool => 2
  | .guard => 3
  | .close => 4
  | .hold => 5

def PlanReason.code : PlanReason → Nat
  | .normal => 0
  | .noBackup => 1
  | .mismatch => 2
  | .blocked => 3
  | .strict => 4
  | .door => 5
  | .expired => 6
  | .longStall => 7
  | .outageLimit => 8
  | .coldLoad => 9

def TimerState.code : TimerState → Nat
  | .idle => 0
  | .burst => 1
  | .rest => 2
  | .paused => 3

def Result.code : Result → Nat
  | .ok => 0
  | .clamped => 1
  | .state => 2
  | .order => 3
  | .busy => 4
  | .faulted => 5
  | .unknown => 6
  | .length => 7
  | .pocket => 8

/-- The result byte of a reply. -/
def Result.byte (r : Result) : Byte := BitVec.ofNat 8 r.code

def Request.code : Request → Nat
  | .status => 0x01
  | .start => 0x02
  | .report => 0x03
  | .checkpoint => 0x04
  | .endCycle => 0x05
  | .plan => 0x06
  | .resume => 0x07
  | .guard => 0x08
  | .clear => 0x09
  | .history => 0x0A
  | .format => 0x0B
  | .paramRead => 0x0C
  | .paramWrite => 0x0D
  | .paramStore => 0x0E

/-- The type byte of the reply to a request type: "the request's type plus 0x80, modulo 256" (R165). -/
def replyType (type : Byte) : Byte := type + 0x80

/-- The type byte of a request. -/
def Request.typeByte (r : Request) : Byte := BitVec.ofNat 8 r.code

/-- The type byte of the replies to a request. -/
def Request.replyType (r : Request) : Byte := Machine.replyType r.typeByte

/-- The request of a type byte, none for a byte that is no request type (R164, check 3). -/
def Request.ofType (type : Byte) : Option Request :=
  match type.toNat with
  | 0x01 => some .status
  | 0x02 => some .start
  | 0x03 => some .report
  | 0x04 => some .checkpoint
  | 0x05 => some .endCycle
  | 0x06 => some .plan
  | 0x07 => some .resume
  | 0x08 => some .guard
  | 0x09 => some .clear
  | 0x0A => some .history
  | 0x0B => some .format
  | 0x0C => some .paramRead
  | 0x0D => some .paramWrite
  | 0x0E => some .paramStore
  | _ => none

/-- Whether a type byte is a request type (Table 11-1: 0x01 to 0x0E). -/
def isRequestType (type : Byte) : Bool := 1 ≤ type.toNat && type.toNat ≤ 14

/-- Pocket index (3.2). -/
def pocketIndex : Pocket → Nat
  | .a => 0
  | .b => 1

/-- The pocket of an index, none above 1 (R164, check 5). -/
def pocketOfIndex (n : Nat) : Option Pocket :=
  match n with
  | 0 => some .a
  | 1 => some .b
  | _ => none

/-- The pocket fault a CLEAR target code names (Table 11-2). -/
def PocketFault.ofCode (n : Nat) : Option PocketFault :=
  match n with
  | 1 => some .tornTail
  | 2 => some .staleBasis
  | 3 => some .writeRetry
  | 4 => some .journalFail
  | 5 => some .ringCorrupt
  | 6 => some .thermal
  | 7 => some .sensor
  | _ => none

/-- The CLEAR target code of all advisory faults (Table 11-2). -/
def clearAllCode : Nat := 0x10

end Sys2Proof.Machine
end

