-- ==== Sys2Proof/Machine/Operands.lean ====
section
/-! DEFINITION. Operand forms: little-endian fields, frames, rounding and clamping, guard programs, request payloads. -/

namespace Sys2Proof.Machine

/-! ### Fields (00_scope.md 3.4, 11_formats…: "Multi-byte fields are little-endian") -/

/-- A number as `n` little-endian bytes, modulo 256^n. -/
def leBytes : Nat → Nat → List Byte
  | 0, _ => []
  | n + 1, v => BitVec.ofNat 8 v :: leBytes n (v / 256)

/-- The number that little-endian bytes spell. -/
def leValue : List Byte → Nat
  | [] => 0
  | b :: bs => b.toNat + 256 * leValue bs

/-- One byte of a number. -/
def byte1 (v : Nat) : List Byte := leBytes 1 v

/-- A temperature as a signed 16-bit field (11.1). -/
def tempBytes (t : Int) : List Byte := leBytes 2 (BitVec.ofInt 16 t).toNat

/-- A temperature, or the marker 0x8000 for absent (11.1). -/
def tempOrAbsentBytes : Option Int → List Byte
  | none => leBytes 2 0x8000
  | some t => tempBytes t

/-- A word as two bytes. -/
def wordBytes (w : Word) : List Byte := leBytes 2 w.toNat

/-- A flag as a number. -/
def bit (b : Bool) : Nat := if b then 1 else 0

/-- `n` bytes of a list from an offset. -/
def field (bs : List Byte) (offset n : Nat) : List Byte := (bs.drop offset).take n

/-- The number at an offset. -/
def fieldValue (bs : List Byte) (offset n : Nat) : Nat := leValue (field bs offset n)

/-- The signed 16-bit number at an offset. -/
def fieldInt (bs : List Byte) (offset : Nat) : Int := (BitVec.ofNat 16 (fieldValue bs offset 2)).toInt

/-! ### The bytes of a frame (R163, R165, Table 11-3) -/

/-- The sync byte, which is also the only byte that HUNTING heeds (R163). -/
def syncValue : Byte := 0xC5

/-- The checksum byte: the sum of length, type, payload and checksum is 0 modulo 256. -/
def checksumByte (bytes : List Byte) : Byte := 0 - bytes.foldl (· + ·) 0

/-- A reply as TXD carries it: "a frame of the same form as a request" (R165). -/
def Reply.frame (r : Reply) : List Byte :=
  let covered := BitVec.ofNat 8 r.payload.length :: r.type :: r.payload
  syncValue :: covered ++ [checksumByte covered]

/-! ### Arithmetic (00_scope.md 3.6) -/

/-- Clamp (x, lo, hi). -/
def clampNat (x lo hi : Nat) : Nat := if x < lo then lo else if hi < x then hi else x

/-- Clamp (x, lo, hi) on signed numbers. -/
def clampInt (x lo hi : Int) : Int := if x < lo then lo else if hi < x then hi else x

/-- A saturating add: it stops at the maximum of the field. -/
def satAdd (x y top : Nat) : Nat := min top (x + y)

/-- Ceil of a quotient of natural numbers. -/
def ceilDiv (n d : Nat) : Nat := (n + (d - 1)) / d

/-- Round of the quotient n / d, "halves rounded away from zero", for d > 0. -/
def roundDiv (n : Int) (d : Nat) : Int :=
  if n < 0 then -(((2 * n.natAbs + d) / (2 * d) : Nat) : Int) else ((2 * n.natAbs + d) / (2 * d) : Nat)

/-! ### Sequence and cycle numbers (00_scope.md 3.5) -/

/-- The serial distance from b up to a: (a − b) mod 65536 (R102). -/
def serialDistance (a b : Word) : Nat := (a - b).toNat

/-- "Sequence a is newer than sequence b when (a − b) mod 65536 lies in the range 1 to 32767." -/
def newer (a b : Word) : Bool := 1 ≤ serialDistance a b && serialDistance a b ≤ 32767

/-- The cycle number after this one: 1 when it is 0 or 65535 (R103). -/
def nextCycle (n : Nat) : Nat := if n = 0 ∨ 65535 ≤ n then 1 else n + 1

/-! ### Guard programs (R152) -/

/-- R152: on, then period against the clamped on, then bursts, then reverse. -/
def clampGuard (g : GuardProgram) : GuardProgram :=
  let on := clampNat g.on 2 60
  ⟨on, clampNat g.period (on + 5) 600, clampNat g.bursts 1 255, if g.reverse = 0 then 0 else 1⟩

/-- A guard program as a request carries it at an offset (Table 11-4): on (1), period (2), bursts (1), reverse (1). -/
def guardOfBytes (bs : List Byte) (offset : Nat) : GuardProgram :=
  ⟨fieldValue bs offset 1, fieldValue bs (offset + 1) 2, fieldValue bs (offset + 3) 1, fieldValue bs (offset + 4) 1⟩

/-- A guard program as five bytes. -/
def guardBytes (g : GuardProgram) : List Byte := byte1 g.on ++ leBytes 2 g.period ++ byte1 g.bursts ++ byte1 g.reverse

/-! ### Request payloads (R164, R176, Table 11-4) -/

/-- Whether a mask names a field: its bit is set. -/
def maskBit (mask : Byte) (i : Nat) : Bool := mask.getLsbD i

/-- The lengths of the REPORT fields in bit order; bit 7 names no field (R176). -/
def reportFieldLength : Nat → Nat
  | 0 => 1
  | 1 => 2
  | 2 => 2
  | 3 => 1
  | 4 => 1
  | 5 => 2
  | 6 => 2
  | _ => 0

/-- The offset in a REPORT payload of field i, where the mask names it: "the fields follow in bit order". -/
def reportOffset (mask : Byte) : Nat → Nat
  | 0 => 2
  | i + 1 => reportOffset mask i + if maskBit mask i then reportFieldLength i else 0

/-- The value of REPORT field i, or none where the mask does not name it. -/
def reportField (payload : List Byte) (i : Nat) : Option Nat :=
  let mask := payload.getD 1 0
  if maskBit mask i then some (fieldValue payload (reportOffset mask i) (reportFieldLength i)) else none

/-- Check 4 of R164: the payload lengths of Table 11-4. -/
def Request.lengthOk : Request → List Byte → Bool
  | .status, p => p.length == 0
  | .paramStore, p => p.length == 0
  | .checkpoint, p => p.length == 1
  | .endCycle, p => p.length == 1
  | .plan, p => p.length == 1
  | .format, p => p.length == 1
  | .start, p => p.length == 6 || p.length == 11
  | .report, p => 2 ≤ p.length && p.length == reportOffset (p.getD 1 0) 7
  | .resume, p => p.length == 2
  | .guard, p => p.length == 6
  | .clear, p => p.length == 2
  | .history, p => p.length == 2
  | .paramRead, p => p.length == 1
  | .paramWrite, p => p.length == 3

/-- Whether a request names a pocket (Table 10-1). -/
def Request.namesPocket : Request → Bool
  | .status => false
  | .paramRead => false
  | .paramWrite => false
  | .paramStore => false
  | .start => true
  | .report => true
  | .checkpoint => true
  | .endCycle => true
  | .plan => true
  | .resume => true
  | .guard => true
  | .clear => true
  | .history => true
  | .format => true

/-- The pocket byte of a payload. -/
def pocketByte (payload : List Byte) : Byte := payload.getD 0 0

/-- The pocket a payload names. -/
def pocketOf (payload : List Byte) : Option Pocket := pocketOfIndex (pocketByte payload).toNat

/-- The second payload byte, where CLEAR, RESUME and HISTORY carry their target, choice and k. -/
def secondByte (payload : List Byte) : Nat := (payload.getD 1 0).toNat

/-- The phase codes of a REPORT (Table 11-2). -/
def phaseOfCode (n : Nat) : Option Phase :=
  match n with
  | 1 => some .drying
  | 2 => some .cooling
  | 3 => some .anticrease
  | _ => none

/-- Check 6 of R164: the enumerated fields hold defined codes. -/
def Request.enumsOk : Request → List Byte → Bool
  | .report, p =>
    match reportField p 0 with
    | none => true
    | some n => (phaseOfCode n).isSome
  | .resume, p => secondByte p ≤ 4
  | .clear, p => secondByte p == clearAllCode || (PocketFault.ofCode (secondByte p)).isSome
  | .paramRead, p => (pocketByte p).toNat ≤ 39
  | .paramWrite, p => (pocketByte p).toNat ≤ 39
  | .status, _ => true
  | .start, _ => true
  | .checkpoint, _ => true
  | .endCycle, _ => true
  | .plan, _ => true
  | .guard, _ => true
  | .history, _ => true
  | .format, _ => true
  | .paramStore, _ => true

/-- The request types that have at most one deferred table entry (R164, check 8). -/
def Request.deferrable : Request → Bool
  | .start => true
  | .endCycle => true
  | .checkpoint => true
  | .format => true
  | .paramStore => true
  | .status => false
  | .report => false
  | .plan => false
  | .resume => false
  | .guard => false
  | .clear => false
  | .history => false
  | .paramRead => false
  | .paramWrite => false

end Sys2Proof.Machine
end

