-- ==== Sys2Proof/Machine/Parameters.lean ====
section
/-! DEFINITION. The parameters: names, ranges, clamping, the conversion table and the parameter page
(R76, R97, R173 to R175, R178). -/

namespace Sys2Proof.Machine

/-- The 40 parameter words in force (10.7). -/
abbrev Params := Vector Word 40

/-- The word at an index, read as an unsigned number. -/
def Params.nat (p : Params) (i : Fin 40) : Nat := p[i].toNat

/-- The word at an index, read as a signed number: "signed where the unit is °C" (R178). -/
def Params.int (p : Params) (i : Fin 40) : Int := p[i].toInt

def Params.sMaxHeat (p : Params) : Nat := p.nat 0
def Params.kReheat (p : Params) : Nat := p.nat 1
def Params.eMax (p : Params) : Nat := p.nat 2
def Params.nMax (p : Params) : Nat := p.nat 3
def Params.tCd (p : Params) : Int := p.int 4
def Params.cMin (p : Params) : Nat := p.nat 5
def Params.tLimit (p : Params) : Int := p.int 6
def Params.dirtyDelta (p : Params) : Int := p.int 7
def Params.defaultGuard (p : Params) : GuardProgram := ⟨p.nat 8, p.nat 9, p.nat 10, p.nat 11⟩
def Params.dipGap (p : Params) : Nat := p.nat 21

/-- The bit of parameter 20 for a pocket (R53). -/
def Params.strict (p : Params) (q : Pocket) : Bool := p[(20 : Fin 40)].getLsbD (pocketIndex q)

/-- The index of code_k, 22 + 2k. -/
def codeIndex (k : Fin 9) : Fin 40 := ⟨22 + 2 * k.val, by omega⟩

/-- The index of temp_k, 23 + 2k. -/
def tempIndex (k : Fin 9) : Fin 40 := ⟨23 + 2 * k.val, by omega⟩

def Params.code (p : Params) (k : Fin 9) : Nat := p.nat (codeIndex k)
def Params.temp (p : Params) (k : Fin 9) : Int := p.int (tempIndex k)

/-! ### Ranges and clamping (Table 11-8) -/

/-- The range of a parameter: whether it is signed (unit °C), its least and its greatest value. -/
def paramRange (i : Fin 40) : Bool × Int × Int :=
  match i.val with
  | 0 => (false, 0, 65535)
  | 1 => (false, 0, 1023)
  | 2 => (false, 0, 14400)
  | 3 => (false, 1, 255)
  | 4 => (true, -20, 150)
  | 5 => (false, 0, 3600)
  | 6 => (true, 60, 150)
  | 7 => (true, 1, 20)
  | 8 => (false, 2, 60)
  | 9 => (false, 7, 600)
  | 10 => (false, 1, 255)
  | 11 => (false, 0, 1)
  | 20 => (false, 0, 3)
  | 21 => (false, 10, 60)
  | n =>
    if n < 22 then (false, 0, 65535)
    else if n % 2 = 0 then (false, ((n - 22) / 2 : Nat), (4087 + (n - 22) / 2 : Nat))
    else (true, -20, 150)

/-- A value clamped to the range of its index (R174, step 1; R178). -/
def clampWord (i : Fin 40) (w : Word) : Word :=
  let r := paramRange i
  let v : Int := if r.1 then w.toInt else (w.toNat : Int)
  BitVec.ofInt 16 (clampInt v r.2.1 r.2.2)

/-- The breakpoints after the first, in order. -/
def laterBreakpoints : List (Fin 9) := [1, 2, 3, 4, 5, 6, 7, 8]

/-- The breakpoint before a later one. -/
def prevBreakpoint (k : Fin 9) : Fin 9 := ⟨k.val - 1, by omega⟩

/-- Raise code_k to the code before it plus 1, when it is not above it (R76). -/
def raiseCode (p : Params) (k : Fin 9) : Params :=
  if p.code k ≤ p.code (prevBreakpoint k) then
    p.set (codeIndex k) (BitVec.ofNat 16 (p.code (prevBreakpoint k) + 1))
  else p

/-- R76: "It then passes through code_1 to code_8 in order". -/
def raiseCodes (p : Params) : Params := laterBreakpoints.foldl raiseCode p

/-- Whether an index is that of a table code. -/
def isCodeIndex (i : Fin 40) : Bool := 22 ≤ i.val && i.val % 2 == 0

/-- A taken PARAM_WRITE (R174, steps 1 to 3): the new words. -/
def Params.write (p : Params) (i : Fin 40) (w : Word) : Params :=
  let q := p.set i (clampWord i w)
  if isCodeIndex i then raiseCodes q else q

/-- Whether step 1 or step 2 of R174 changed any word: the words in force differ from the value asked for. -/
def Params.writeClamped (p : Params) (i : Fin 40) (w : Word) : Bool := p.write i w != p.set i w

/-! ### The parameter page (R97, R175, R178) -/

/-- The sum of words, modulo 65536. -/
def wordSum (ws : List Word) : Word := ws.foldl (· + ·) 0

/-- The parameter image: the 40 words in force and a 41st that makes the sum 0 (R97). -/
def Params.image (p : Params) : List Word := p.toList ++ [0 - wordSum p.toList]

/-- The 41 words of a page, "word i at offset 2i" (R178). -/
def pageWords (page : List Byte) : List Word :=
  (List.range 41).map fun i => BitVec.ofNat 16 (fieldValue page (2 * i) 2)

/-- R175: with a sum of 0, the first 40 words, each clamped and the table codes brought into ascending order;
none for any other sum. -/
def Params.ofPage (page : List Byte) : Option Params :=
  let ws := pageWords page
  if wordSum ws = 0 then
    some (raiseCodes (Vector.ofFn fun i : Fin 40 => clampWord i (ws.getD i.val 0)))
  else none

/-! ### Conversion of a mean code (R75, R76) -/

/-- The truncated mean of four conversions (R75). -/
def meanCode (c0 c1 c2 c3 : Nat) : Nat := (c0 + c1 + c2 + c3) / 4

/-- In range: at or above code_0 and at or below code_8 (R76). -/
def Params.codeInRange (p : Params) (code : Nat) : Bool := p.code 0 ≤ code && code ≤ p.code 8

/-- The temperature of an in-range code in the segment that ends at breakpoint k, clamped to −20 to 150 (R76). -/
def Params.segment (p : Params) (k : Fin 9) (code : Nat) : Int :=
  let j := prevBreakpoint k
  let n := ((code : Int) - p.code j) * (p.temp k - p.temp j)
  clampInt (p.temp j + roundDiv n (p.code k - p.code j)) (-20) 150

/-- The first segment whose upper breakpoint is at or above the code. A code at a breakpoint "that lies in two
segments gives the same T from either" (R76). -/
def Params.convert (p : Params) (code : Nat) : Int :=
  match laterBreakpoints.find? (fun k => code ≤ p.code k) with
  | some k => p.segment k code
  | none => p.segment 8 code

end Sys2Proof.Machine
end

