-- ==== Sys2Proof/Machine/Flags.lean ====
section
/-! DEFINITION. Flags and levels computed from the state: supply mode, fault membership, the conditions several
rules share, and the output pins. -/

namespace Sys2Proof.Machine

/-! ### The supply (R1, R8, R10) -/

/-- STEADY while the confidence score is 8 or more, WARY while it is 7 or less (R8). -/
def Dev.steady (d : Dev) : Bool := 8 ≤ d.bkd.confidence

/-- The ride-through window of the mode in force, ms (Table 1-3). -/
def Dev.rideThroughLength (d : Dev) : Nat := if d.steady then 200 else 80

/-- The merge window of the mode in force, s (Table 1-3). -/
def Dev.mergeLength (d : Dev) : Nat := if d.steady then 30 else 10

/-- The stagger interval of the mode in force, s (Table 1-3). -/
def Dev.staggerLength (d : Dev) : Nat := if d.steady then 20 else 45

/-- Mains PRESENT: "the states DIP, ABSENT and QUALIFYING all count as not PRESENT" (R1). -/
def Dev.mainsPresent (d : Dev) : Bool := d.bkd.monitor.state == .present

/-- The ready hysteresis of R10: set at 460 or more, cleared below 440. -/
def nextReady (ready : Bool) (level : Nat) : Bool :=
  if ready then 440 ≤ level else 460 ≤ level

/-- V_WRITE (R11). -/
def vWrite : Nat := 360

/-- The main domain is powered. -/
def Dev.powered (d : Dev) : Bool := d.run != .backup

/-- RUN, with no nRESET request awaiting its effect (R19, R50, R143, R156). -/
def Dev.runningFree (d : Dev) : Bool := d.run == .run && !d.link.resetHold

/-- The main domain is held by nRESET (R19): its run state is STARTUP and the reset hold is set. -/
def Dev.held (d : Dev) : Bool := d.run == .startup && d.link.resetHold

/-! ### Fault sets (R51, R56) -/

/-- Whether a fault is in its set. -/
def Sequencer.has (q : Sequencer) : PocketFault → Bool
  | .tornTail => q.advisory.tornTail
  | .staleBasis => q.advisory.staleBasis
  | .writeRetry => q.advisory.writeRetry
  | .journalFail => q.blocking.journalFail
  | .ringCorrupt => q.blocking.ringCorrupt
  | .thermal => q.blocking.thermal
  | .sensor => q.blocking.sensor

/-- Add a fault to its set, or remove it. -/
def Sequencer.put (q : Sequencer) (f : PocketFault) (v : Bool) : Sequencer :=
  match f with
  | .tornTail => { q with advisory := { q.advisory with tornTail := v } }
  | .staleBasis => { q with advisory := { q.advisory with staleBasis := v } }
  | .writeRetry => { q with advisory := { q.advisory with writeRetry := v } }
  | .journalFail => { q with blocking := { q.blocking with journalFail := v } }
  | .ringCorrupt => { q with blocking := { q.blocking with ringCorrupt := v } }
  | .thermal => { q with blocking := { q.blocking with thermal := v } }
  | .sensor => { q with blocking := { q.blocking with sensor := v } }

/-- The blocking set is not empty. -/
def Sequencer.blocked (q : Sequencer) : Bool := q.blocking != .empty

/-- The advisory set is not empty. -/
def Sequencer.advised (q : Sequencer) : Bool := q.advisory != .empty

/-- The three advisory faults (Table 3-5). -/
def PocketFault.isAdvisory : PocketFault → Bool
  | .tornTail => true
  | .staleBasis => true
  | .writeRetry => true
  | .journalFail => false
  | .ringCorrupt => false
  | .thermal => false
  | .sensor => false

/-- Whether a device fault is in the set. -/
def DeviceFaults.has (s : DeviceFaults) : DeviceFault → Bool
  | .paramDefault => s.paramDefault
  | .reserveLow => s.reserveLow
  | .coldStart => s.coldStart

/-- Add a device fault, or remove it. -/
def DeviceFaults.put (s : DeviceFaults) (f : DeviceFault) (v : Bool) : DeviceFaults :=
  match f with
  | .paramDefault => { s with paramDefault := v }
  | .reserveLow => { s with reserveLow := v }
  | .coldStart => { s with coldStart := v }

/-- Add an attention cause. -/
def Attention.add (s : Attention) : Cause → Attention
  | .planReady => { s with planReady := true }
  | .closed => { s with closed := true }
  | .fault => { s with fault := true }
  | .supply => { s with supply := true }

/-! ### Pocket states -/

/-- DRYING, COOLING or ANTICREASE. -/
def PocketState.active : PocketState → Bool
  | .drying => true
  | .cooling => true
  | .anticrease => true
  | .vacant => false
  | .suspended => false
  | .planned => false
  | .waitstart => false

/-- PLANNED or WAITSTART. -/
def PocketState.waiting : PocketState → Bool
  | .planned => true
  | .waitstart => true
  | .vacant => false
  | .drying => false
  | .cooling => false
  | .anticrease => false
  | .suspended => false

/-- The pocket is DRYING, COOLING or ANTICREASE with no closing mark. -/
def Sequencer.open (q : Sequencer) : Bool := q.state.active && q.mark.isNone

/-! ### Output pins (R12, R50, R156, R166, R167, R179) -/

/-- The level of an output: driven high or low, or high-impedance. -/
inductive Level where
  | high
  | low
  | released
deriving DecidableEq, Repr

/-- An output driven by a condition while the main domain is powered, high-impedance in BACKUP (R179). -/
def Dev.driven (d : Dev) (active : Bool) : Level :=
  if d.powered then if active then .high else .low else .released

/-- The heater permit of a pocket: the six conditions of R50. -/
def Dev.heatPermit (d : Dev) (p : Pocket) : Bool :=
  d.run == .run &&
  ((d.psq.get p).state == .drying && (d.psq.get p).mark.isNone) &&
  (d.mainsPresent && !d.settle.flag) &&
  d.reserve.ready &&
  !(d.psq.get p).blocked &&
  !d.link.resetHold

/-- The motor request of a pocket: the five conditions of R156. -/
def Dev.motorRun (d : Dev) (p : Pocket) : Bool :=
  d.runningFree &&
  ((d.psq.get p).state == .anticrease && (d.psq.get p).mark.isNone) &&
  (d.tmb.get p).state == .burst &&
  d.mainsPresent &&
  !(d.pins.doorOpen.get p)

/-- MOTOR_REV_x: the timer's direction is REVERSE and the timer is not IDLE (R156). -/
def Dev.motorRev (d : Dev) (p : Pocket) : Bool :=
  (d.tmb.get p).direction == .reverse && (d.tmb.get p).state != .idle

/-- ATTN is asserted while the causes are not empty, but neither in BACKUP nor while the main domain is held (R167). -/
def Dev.attention (d : Dev) : Bool := d.powered && !d.held && d.link.attention != .empty

/-- HEAT_PERMIT_x. -/
def Dev.heatPermitPin (d : Dev) (p : Pocket) : Level := d.driven (d.heatPermit p)

/-- MOTOR_RUN_x. -/
def Dev.motorRunPin (d : Dev) (p : Pocket) : Level := d.driven (d.motorRun p)

/-- MOTOR_REV_x, "high for REVERSE" (R179). -/
def Dev.motorRevPin (d : Dev) (p : Pocket) : Level := d.driven (d.motorRev p)

/-- ATTN: "open-drain, pulled low while causes are pending, and released otherwise" (R179). -/
def Dev.attnPin (d : Dev) : Level := if d.attention then .low else .released

/-- What TXD does: it stands at a level, or carries the bytes of a frame one after another without gaps (R166). The bit
times of a byte are left out (log entry 14). -/
inductive TxdLine where
  | steady (level : Level)
  | sending (frame : List Byte)
deriving DecidableEq, Repr

/-- TXD: released in BACKUP (R12); otherwise it sends the first reply of the transmit list (R166), and with none it
"idles high" (R179). -/
def Dev.txdPin (d : Dev) : TxdLine :=
  if d.powered then
    match d.link.transmit with
    | [] => .steady .high
    | r :: _ => .sending r.frame
  else .steady .released

end Sys2Proof.Machine
end

