-- ==== Sys2Proof/Machine/Records.lean ====
section
/-! DEFINITION. Slot records: their bytes, check word and marks (R80, R177), and the class of a page read
(R106). -/

namespace Sys2Proof.Machine

/-! ### CRC-16 (R80) -/

/-- One bit of the CRC of polynomial x^16 + x^12 + x^5 + 1, not reflected. -/
def crcBit (c : Word) : Word := if c.getLsbD 15 then (c <<< 1) ^^^ 0x1021 else c <<< 1

/-- One byte of the CRC. -/
def crcByte (c : Word) (b : Byte) : Word :=
  let x := c ^^^ ((b.setWidth 16) <<< 8)
  crcBit (crcBit (crcBit (crcBit (crcBit (crcBit (crcBit (crcBit x)))))))

/-- The CRC of a byte string: initial value all ones, no final XOR. -/
def crc16 (bs : List Byte) : Word := bs.foldl crcByte 0xFFFF

/-! ### The bytes of a record (Table 5-1, Table 11-7) -/

def openingMark : List Byte := [0xA5, 0x3C]
def closingMark : List Byte := [0x3C, 0x5A]

/-- Offset 8 to 30: the body. -/
def bodyBytes (b : Body) : List Byte :=
  byte1 b.phase.code ++ byte1 b.program ++ leBytes 2 b.heat ++ leBytes 2 b.cool ++ byte1 b.stage ++
  byte1 b.moisture ++ leBytes 2 b.energy ++ leBytes 2 b.runTime ++ tempBytes b.exhaustLast ++
  tempBytes b.exhaustPeak ++ byte1 b.outages ++ guardBytes b.guard ++ byte1 b.burstsLeft

/-- The plan block: outcome, reason, basis sequence, stall, measured temperature. -/
def resumeBytes (r : ResumeBlock) : List Byte :=
  byte1 r.outcome.code ++ byte1 r.reason.code ++ wordBytes r.basisSeq ++ leBytes 3 r.stall ++
  tempOrAbsentBytes r.temperature

/-- The block a kind carries: the plan block for RESUME, the close reason for CLOSE (R80). -/
def blockBytes (s : Snapshot) : List Byte :=
  match s.kind, s.resume, s.closeReason with
  | .resume, some r, _ => resumeBytes r
  | .close, _, some c => byte1 c.code
  | _, _, _ => []

/-- Parts 2 to 5 of a record, from a snapshot and its sequence number. -/
def Snapshot.record (s : Snapshot) (p : Pocket) (seq : Word) : Record :=
  ⟨byte1 (pocketIndex p) ++ byte1 s.kind.code ++ leBytes 2 s.cycle ++ wordBytes seq ++ bodyBytes s.body ++ blockBytes s⟩

/-- A whole record in write order: opening mark, record, check word, closing mark (R80). -/
def Record.written (r : Record) : List Byte := openingMark ++ r.bytes ++ wordBytes (crc16 r.bytes) ++ closingMark

/-! ### Fields of a record (offsets of Table 11-7 less the opening mark's 2) -/

def Record.pocket (r : Record) : Nat := fieldValue r.bytes 0 1
def Record.kindCode (r : Record) : Nat := fieldValue r.bytes 1 1
def Record.cycle (r : Record) : Nat := fieldValue r.bytes 2 2
def Record.seq (r : Record) : Word := BitVec.ofNat 16 (fieldValue r.bytes 4 2)

/-- The record kind; a VALID record's header names one of the six (R106). -/
def Record.kind (r : Record) : Option Kind := Kind.ofCode r.kindCode

/-- The phase a phase byte stands for; an undefined code is open (log entry 6). -/
def phaseOfByte (b : Byte) : Phase :=
  match phaseOfCode b.toNat with
  | some p => p
  | none =>
    match Config.openPhaseCode b with
    | 0 => .drying
    | 1 => .cooling
    | 2 => .anticrease

/-- The body of a record, "taken as written" (R106). -/
def Record.body (r : Record) : Body where
  phase := phaseOfByte (r.bytes.getD 6 0)
  program := fieldValue r.bytes 7 1
  heat := fieldValue r.bytes 8 2
  cool := fieldValue r.bytes 10 2
  stage := fieldValue r.bytes 12 1
  moisture := fieldValue r.bytes 13 1
  energy := fieldValue r.bytes 14 2
  runTime := fieldValue r.bytes 16 2
  exhaustLast := fieldInt r.bytes 18
  exhaustPeak := fieldInt r.bytes 20
  outages := fieldValue r.bytes 22 1
  guard := guardOfBytes r.bytes 23
  burstsLeft := fieldValue r.bytes 28 1

/-- A basis is live when its record kind is other than CLOSE (R108). -/
def Record.live (r : Record) : Bool := r.kind != some .close

/-! ### Pages -/

/-- Bytes in a page (R79). -/
def pageSize : Nat := 128

/-- A page that starts with these bytes and stays erased after them. -/
def pageOf (bs : List Byte) : List Byte := (List.range pageSize).map fun i => bs.getD i 0xFF

/-- The byte at an offset with the listed exceptions taken: the first pair for that offset, or the byte itself. -/
def overriding (cells : List Host.Cell) (i : Nat) (b : Byte) : Byte :=
  match cells.find? (fun c => c.1 == i) with
  | some c => c.2
  | none => b

/-- A page with the listed offsets holding other bytes. -/
def overlay (page : List Byte) (cells : List Host.Cell) : List Byte :=
  page.mapIdx fun i b => overriding cells i b

/-- Every byte erased. -/
def erasedPage (page : List Byte) : Bool := page.all fun b => b == 0xFF

/-! ### The class of one read (R106) -/

/-- The length of parts 2 to 5 by kind: the check word then lies at offset 31, 40 or 32 (R177). -/
def recordLength : Kind → Nat
  | .resume => 38
  | .close => 30
  | .start => 29
  | .progress => 29
  | .phase => 29
  | .suspend => 29

/-- What one read of a page gives: a class, or a bad read. -/
inductive PageRead where
  | bad
  | good (c : SlotClass)
deriving DecidableEq, Repr

/-- Steps 1 to 6 of R106 for one read of a page of this pocket's ring. -/
def classify (p : Pocket) (page : List Byte) : PageRead :=
  if erasedPage page then .good .blank
  else if field page 0 2 ≠ openingMark then .good .torn
  else
    match pocketOfIndex (fieldValue page 2 1), Kind.ofCode (fieldValue page 3 1) with
    | some q, some k =>
      if fieldValue page 4 2 = 0 then .good .torn
      else
        let n := recordLength k
        if field page (4 + n) 2 ≠ closingMark then .good .torn
        else
          let r : Record := ⟨field page 2 n⟩
          if field page (2 + n) 2 ≠ wordBytes (crc16 r.bytes) then .bad
          else if q ≠ p then .good .foreign
          else .good (.valid r)
    | _, _ => .good .torn

end Sys2Proof.Machine
end

