-- ==== Sys2Proof/Machine/Ops.lean ====
section
/-! DEFINITION. Shared operations over the part: faults and causes, replies, the slot operation queue, commit
triggers, rebuilds, release, closure, the tumble timer, power and starts. -/

namespace Sys2Proof.Machine

/-! ### Faults and attention (R51, R56, R167) -/

/-- Raise an attention cause: "Raising a cause that is already in the set changes nothing" (R167). -/
def Dev.raiseCause (c : Cause) (d : Dev) : Dev :=
  d.setLink { d.link with attention := d.link.attention.add c }

/-- Raise a pocket fault: absent, it is added and raises FAULT; present, nothing changes (R51). -/
def Dev.raiseFault (p : Pocket) (f : PocketFault) (d : Dev) : Dev :=
  if (d.psq.get p).has f then d
  else (d.setPsq p ((d.psq.get p).put f true)).raiseCause .fault

/-- Raise a device fault, which raises FAULT when it was absent (R56). -/
def Dev.raiseDevice (f : DeviceFault) (d : Dev) : Dev :=
  if d.faults.has f then d else (d.setFaults (d.faults.put f true)).raiseCause .fault

/-- Clear a device fault. -/
def Dev.clearDevice (f : DeviceFault) (d : Dev) : Dev := d.setFaults (d.faults.put f false)

/-- The pocket's blocking set holds JOURNAL_FAIL. -/
def Dev.journalFailed (d : Dev) (p : Pocket) : Bool := (d.psq.get p).blocking.journalFail

/-! ### Replies (R165, R176) -/

/-- A reply enters the transmit list. -/
def Dev.send (r : Reply) (d : Dev) : Dev := d.setLink { d.link with transmit := d.link.transmit ++ [r] }

/-- A reply to a request with this payload. -/
def Dev.reply (q : Request) (payload : List Byte) (d : Dev) : Dev := d.send ⟨q.replyType, payload⟩

/-- The pocket index as a byte. -/
def pocketIndexByte (p : Pocket) : Byte := BitVec.ofNat 8 (pocketIndex p)

/-- The payload of a pocket-naming reply: result, pocket, figures. -/
def pocketReply (r : Result) (p : Pocket) (figures : List Byte) : List Byte :=
  r.byte :: pocketIndexByte p :: figures

/-- A deferred reply is owed. -/
def Dev.defer (e : Deferred) (d : Dev) : Dev := d.setLink { d.link with deferred := d.link.deferred ++ [e] }

/-- Whether an entry is the one for this request and pocket. -/
def Deferred.isFor (q : Request) (p : Option Pocket) (e : Deferred) : Bool := e.request == q && e.pocket == p

/-- The deferred entry of a request and pocket, if one is owed. -/
def Dev.owed (d : Dev) (q : Request) (p : Option Pocket) : Option Deferred :=
  d.link.deferred.find? (Deferred.isFor q p)

/-- Take the entry out of the deferred table. -/
def Dev.undefer (q : Request) (p : Option Pocket) (d : Dev) : Dev :=
  d.setLink { d.link with deferred := d.link.deferred.filter fun e => !(Deferred.isFor q p e) }

/-- Release a deferred reply with this payload; nothing where none is owed (R165, R166). -/
def Dev.release (q : Request) (p : Option Pocket) (payload : List Byte) (d : Dev) : Dev :=
  match d.owed q p with
  | none => d
  | some _ => (d.undefer q p).reply q payload

/-! ### The slot operation queue (R83) -/

/-- Queue an entry at the tail of the age order. -/
def Dev.enqueue (w : Work) (d : Dev) : Dev :=
  d.setEngine { d.engine with queue := d.engine.queue ++ [⟨d.engine.nextAge, w⟩], nextAge := d.engine.nextAge + 1 }

/-- Keep only the entries whose work passes a test. -/
def Dev.keepEntries (keep : Work → Bool) (d : Dev) : Dev :=
  d.setEngine { d.engine with queue := d.engine.queue.filter fun e => keep e.work }

/-- An ERASE entry. -/
def Work.isErase : Work → Bool
  | .erase _ _ => true
  | .commit _ => false
  | .param _ => false
  | .format _ _ _ => false

/-- An ERASE entry of one pocket. -/
def Work.isEraseOf (p : Pocket) : Work → Bool
  | .erase q _ => q == p
  | .commit _ => false
  | .param _ => false
  | .format _ _ _ => false

/-- A COMMIT entry. -/
def Work.isCommit : Work → Bool
  | .commit _ => true
  | .erase _ _ => false
  | .param _ => false
  | .format _ _ _ => false

/-- A FORMAT entry. -/
def Work.isFormat : Work → Bool
  | .format _ _ _ => true
  | .commit _ => false
  | .erase _ _ => false
  | .param _ => false

/-- A FORMAT entry of one pocket. -/
def Work.isFormatOf (p : Pocket) : Work → Bool
  | .format q _ _ => q == p
  | .commit _ => false
  | .erase _ _ => false
  | .param _ => false

/-- A PARAM entry. -/
def Work.isParam : Work → Bool
  | .param _ => true
  | .commit _ => false
  | .erase _ _ => false
  | .format _ _ _ => false

/-- How many queued entries pass a test. -/
def Dev.countEntries (d : Dev) (f : Work → Bool) : Nat := d.engine.queue.countP fun e => f e.work

/-- Whether some queued entry passes a test. -/
def Dev.anyEntry (d : Dev) (f : Work → Bool) : Bool := d.engine.queue.any fun e => f e.work

/-- Ask for an ERASE (R83): it joins when the slot is marked not blank, no entry for it is queued and fewer than
4 ERASE entries are queued; otherwise it is dropped. -/
def Dev.askErase (p : Pocket) (slot : Fin 16) (d : Dev) : Dev :=
  if (d.ring.get p).blank[slot] then d
  else if d.anyEntry (fun w => w == .erase p slot) then d
  else if 4 ≤ d.countEntries Work.isErase then d
  else d.enqueue (.erase p slot)

/-- Set or clear a slot's mark in the blank map (R82). -/
def Dev.markBlank (p : Pocket) (slot : Fin 16) (v : Bool) (d : Dev) : Dev :=
  d.setRing p { d.ring.get p with blank := (d.ring.get p).blank.set slot v }

/-! ### The working image (R57 to R70) -/

/-- Change a present image. -/
def Dev.modImage (p : Pocket) (f : Image → Image) (d : Dev) : Dev := d.setImage p ((d.image.get p).map f)

/-- Set dirty: the merge window starts when the flag goes from clear to set, except under JOURNAL_FAIL (R65). -/
def Image.soil (journalFailed : Bool) (im : Image) : Image :=
  if im.dirty then im
  else { im with dirty := true, window := if journalFailed then none else some 0 }

/-- Write body fields and set dirty (R63, R64). -/
def Dev.writeBody (p : Pocket) (f : Body → Body) (d : Dev) : Dev :=
  d.modImage p fun im => Image.soil (d.journalFailed p) { im with body := f im.body }

/-- The close reason after a trigger: once held it is not changed; it comes with a CLOSE trigger (R67). -/
def keepReason (held trigger : Option CloseReason) : Option CloseReason :=
  match held with
  | some r => some r
  | none => trigger

/-- A commit trigger (R66, R67): discarded under JOURNAL_FAIL; not given where the image is absent; otherwise it
queues an entry, is absorbed into the queued one, or sets the recommit request. -/
def Dev.trigger (p : Pocket) (kind : Kind) (reason : Option CloseReason) (d : Dev) : Dev :=
  if d.journalFailed p then d
  else
    match d.image.get p with
    | none => d
    | some im =>
      let held := keepReason im.closeReason reason
      match im.commit with
      | .none => (d.setImage p (some { im with commit := .queued kind, closeReason := held })).enqueue (.commit p)
      | .queued k => d.setImage p (some { im with commit := .queued (k.upgrade kind), closeReason := held })
      | .inFlight _ =>
        match im.recommit with
        | none => d.setImage p (some { im with recommit := some kind, closeReason := held })
        | some k => d.setImage p (some { im with recommit := some (k.upgrade kind), closeReason := held })

/-- The image a rebuild makes from the basis and L, before it completes by its kind (R59). -/
def rebuiltImage (journalFailed : Bool) (r : Record) (losses : Nat) : Image where
  body := { r.body with outages := satAdd r.body.outages losses 255 }
  cycle := r.cycle
  pending := 0
  dirty := true
  window := if journalFailed then none else some 0
  commit := .none
  recommit := none
  closeReason := none
  exhaustRef := r.body.exhaustLast
  resume := none

/-- A rebuild for a closure (R59). -/
def Dev.rebuildForClosure (p : Pocket) (d : Dev) : Dev :=
  match (d.journal.get p).basis with
  | none => d
  | some b => d.setImage p (some (rebuiltImage (d.journalFailed p) b.record (d.bkd.facts.get p).losses))

/-- The figures a resume choice installs (Table 4-2). -/
def installFigures (c : Choice) (b : Body) : Body :=
  match c.outcome with
  | .reheat => { b with phase := .drying, heat := c.heat, cool := c.cool }
  | .cool => { b with phase := .cooling, cool := c.cool }
  | .guard => { b with phase := .anticrease, guard := c.guard, burstsLeft := c.bursts }
  | .close => b
  | .hold => b

/-- The resume block: the choice's outcome, the rest from the plan record (Table 8-1). -/
def resumeBlock (c : Choice) (pl : Plan) : ResumeBlock :=
  ⟨c.outcome, pl.reason, pl.basisSeq, pl.stall, pl.tNow⟩

/-- A rebuild for resumption with the figures of the choice and the resume block (R59, R145). -/
def Dev.rebuildForResumption (p : Pocket) (c : Choice) (d : Dev) : Dev :=
  match (d.journal.get p).basis with
  | none => d
  | some b =>
    let im := rebuiltImage (d.journalFailed p) b.record (d.bkd.facts.get p).losses
    d.setImage p (some { im with body := installFigures c im.body, resume := (d.plan.get p).map (resumeBlock c) })

/-! ### Backup facts (R25, R29) -/

/-- Release: the four backup facts of a pocket are cleared together (R29). -/
def Dev.releaseFacts (p : Pocket) (d : Dev) : Dev := d.setFacts p .clear

/-- Start a stopped stall counter; "a start request for a counter that is already running leaves it" (R25). -/
def Facts.startStall (f : Facts) : Facts :=
  if f.stallRunning then f else { f with stallRunning := true, stall := 0, stallMs := 0 }

/-- The greatest stall (R25). -/
def stallTop : Nat := 16777215

/-- Let this many milliseconds pass for a running stall counter: it advances by 1 at each full second after its
starting instant, up to its greatest value (R25). -/
def Facts.elapse (ms : Nat) (f : Facts) : Facts :=
  if f.stallRunning then
    { f with stall := min stallTop (f.stall + (f.stallMs + ms) / 1000), stallMs := (f.stallMs + ms) % 1000 }
  else f

/-! ### The tumble timer (R153, R159, R160) -/

/-- Stop the timer: IDLE, position 0, FORWARD, both programs none; its count is frozen (R160). A timer that is
IDLE has nothing to stop. -/
def Dev.stopTumbler (p : Pocket) (d : Dev) : Dev := d.setTmb p (.idle (d.tmb.get p).burstsLeft)

/-- A course starts with this program and count: the first burst at once when mains is PRESENT, else PAUSED with
interrupted phase BURST (R153). -/
def Dev.startTumbler (p : Pocket) (g : GuardProgram) (bursts : Nat) (d : Dev) : Dev :=
  d.setTmb p
    (if d.mainsPresent then ⟨.burst, some g, none, bursts, 0, none, .forward⟩
     else ⟨.paused, some g, none, bursts, 0, some .burst, .forward⟩)

/-- DIP entry pauses a timer in BURST or REST (R159). -/
def Tumbler.pause (t : Tumbler) : Tumbler :=
  match t.state with
  | .burst => { t with state := .paused, interrupted := some .burst }
  | .rest => { t with state := .paused, interrupted := some .rest }
  | .idle => t
  | .paused => t

/-- The return to PRESENT resumes a paused timer in its interrupted phase (R159). -/
def Tumbler.unpause (t : Tumbler) : Tumbler :=
  match t.state, t.interrupted with
  | .paused, some .burst => { t with state := .burst, interrupted := none }
  | .paused, some .rest => { t with state := .rest, interrupted := none }
  | _, _ => t

/-- Both timers. -/
def Dev.mapTumblers (f : Tumbler → Tumbler) (d : Dev) : Dev :=
  (d.setTmb .a (f (d.tmb.get .a))).setTmb .b (f (d.tmb.get .b))

/-- Stop both timers (R160). -/
def Dev.stopTumblers (d : Dev) : Dev := (d.stopTumbler .a).stopTumbler .b

/-! ### Closure (R37 to R39, R43) -/

/-- A closure takes effect (R39); `result` is what a pending END reply carries: OK with a record, FAULTED without. -/
def Dev.closureEffect (p : Pocket) (result : Result) (d : Dev) : Dev :=
  let q := d.psq.get p
  let d1 := (d.setPsq p { q with state := .vacant, mark := none, choice := none, startKind := .warm }).setImage p none
  let d2 := (d1.releaseFacts p).release .endCycle (some p) (pocketReply result p [])
  match q.mark with
  | some r => if r.announced then d2.raiseCause .closed else d2
  | none => d2

/-- The CLOSE commit of a closure decided at STARTUP ends: the mark and the image go, the pocket is already VACANT
and released (R43, R58). -/
def Dev.startupClosureEnds (p : Pocket) (d : Dev) : Dev :=
  (d.setPsq p { d.psq.get p with mark := none }).setImage p none

/-- The closure of a marked pocket ends, by its state (R39, R43). -/
def Dev.finishClosure (p : Pocket) (result : Result) (d : Dev) : Dev :=
  if (d.psq.get p).state == .vacant then d.startupClosureEnds p else d.closureEffect p result

/-- Take a pocket out of the grant queue (R141). -/
def Dev.leaveGrantQueue (p : Pocket) (d : Dev) : Dev :=
  d.setArbiter { d.arbiter with queue := d.arbiter.queue.filter fun q => q != p }

/-- A closure is decided (R37, R38, R40, R44, R45, R48): the timer stops, the mark is set, and a CLOSE trigger is
given; under JOURNAL_FAIL the closure takes effect at once without a record (R37, R66). -/
def Dev.decideClosure (p : Pocket) (reason : CloseReason) (d : Dev) : Dev :=
  let d1 := (d.stopTumbler p).setPsq p { d.psq.get p with mark := some reason }
  if d.journalFailed p then d1.closureEffect p .faulted else d1.trigger p .close (some reason)

/-- A closure of a pocket that waits: its choice and grant entry go and the image is rebuilt from the basis
(R37, R44, R45, R59). -/
def Dev.closeWaiting (p : Pocket) (reason : CloseReason) (d : Dev) : Dev :=
  (((d.setPsq p { d.psq.get p with choice := none }).leaveGrantQueue p).rebuildForClosure p).decideClosure p reason

/-! ### Entry to ANTICREASE and leaving WAITSTART (R36, R46, R48, R139, R153) -/

/-- Entry to ANTICREASE with this program and count: with the debounced reading OPEN the pocket is closed with
reason DOOR without a burst (R48); otherwise the timer starts (R153). -/
def Dev.enterAnticrease (p : Pocket) (g : GuardProgram) (bursts : Nat) (d : Dev) : Dev :=
  if (d.psq.get p).doorOpen then d.decideClosure p .door else d.startTumbler p g bursts

/-- A pocket leaves WAITSTART with its resume choice (R46): rebuild, RESUME trigger, release, the new phase and
its entry effects. -/
def Dev.leaveWaitstart (p : Pocket) (c : Choice) (phase : Phase) (d : Dev) : Dev :=
  let d1 := (((d.rebuildForResumption p c).trigger p .resume none).releaseFacts p)
  let d2 := d1.setPsq p { d1.psq.get p with state := phase.pocketState, startKind := .warm, choice := none }
  match phase with
  | .drying => d2
  | .cooling => d2
  | .anticrease => d2.enterAnticrease p c.guard c.bursts

/-- The start test of R139: in RUN with no reset awaiting its effect, a WAITSTART pocket whose choice is COOL or
GUARD leaves when mains is PRESENT and the reserve is ready. -/
def Dev.startTest (p : Pocket) (d : Dev) : Dev :=
  let q := d.psq.get p
  if d.runningFree && q.state == .waitstart && d.mainsPresent && d.reserve.ready then
    match q.choice with
    | none => d
    | some c =>
      match c.outcome with
      | .cool => d.leaveWaitstart p c .cooling
      | .guard => d.leaveWaitstart p c .anticrease
      | .reheat => d
      | .close => d
      | .hold => d
  else d

/-- The start tests of both pockets. -/
def Dev.startTests (d : Dev) : Dev := (d.startTest .a).startTest .b

/-! ### Power and starts (R13, R17, R19, R22) -/

/-- The main domain powers down (R17). -/
def Dev.powerDown (d : Dev) : Dev := d.mainOff

/-- What a cold start does to the backup domain (R22). -/
def Backup.coldStart (b : Backup) : Backup :=
  { b with confidence := 8, facts := .both .clear, continuity := true }

/-- A start of the main domain at mains return: cold when the continuity flag is clear, warm when it is set
(R13, R22); held while nRESET is low (R19). -/
def Dev.startMain (d : Dev) : Dev :=
  if d.bkd.continuity then d.mainInit .startup .warm d.pins.nresetLow d.pins.doorOpen
  else
    ((d.setBkd d.bkd.coldStart).mainInit .startup .cold d.pins.nresetLow d.pins.doorOpen).raiseDevice .coldStart

/-- A taken nRESET request takes effect (R19): the main domain as for a warm start, held until nRESET is high. -/
def Dev.resetEffect (d : Dev) : Dev := d.mainInit .startup .warm d.pins.nresetLow d.pins.doorOpen

end Sys2Proof.Machine
end

