-- ==== Sys2Proof/Machine/Engine.lean ====
section
/-! DEFINITION. The slot operation engine: starting operations, selection in RUN, in DIP and in LOSS_COMMIT, and
what the end of an operation sets off (R85 to R100). -/

namespace Sys2Proof.Machine

/-- Start an operation (R84). -/
def Dev.startOperation (op : Operation) (d : Dev) : Dev := d.setEngine { d.engine with inFlight := some op }

/-- Set the commit in service. -/
def Dev.setService (v : Option Service) (d : Dev) : Dev := d.setEngine { d.engine with service := v }

/-- No operation is in flight any more. -/
def Dev.endOperation (d : Dev) : Dev := d.setEngine { d.engine with inFlight := none }

/-! ### Writes (R68, R88) -/

/-- The snapshot of an image for a record of this kind (R68). -/
def Image.snapshot (im : Image) (kind : Kind) : Snapshot where
  body := im.body
  cycle := im.cycle
  kind := kind
  closeReason := if kind = .close then im.closeReason else none
  resume := if kind = .resume then im.resume else none

/-- What the snapshot does to the image (R68): IN_FLIGHT, pending count 0, dirty clear, window stopped. -/
def Image.taken (im : Image) (kind : Kind) : Image :=
  { im with commit := .inFlight kind, pending := 0, dirty := false, window := none }

/-- The number a write takes: the last assigned plus 1, modulo 65536 (R88). -/
def Ring.nextSeq (r : Ring) : Word := r.lastSeq + 1

/-- Start a write of this snapshot at the write position: a number is assigned and the slot marked not blank
(R88, steps 1, 2 and 4). -/
def Dev.writeSnapshot (p : Pocket) (snap : Snapshot) (d : Dev) : Dev :=
  let r := d.ring.get p
  ((d.setRing p { r with lastSeq := r.nextSeq, blank := r.blank.set r.writePos false }).setService
    (some ⟨p, some snap⟩)).startOperation (.write p r.writePos snap r.nextSeq false)

/-- Start the write of the commit in service: a retry writes the same snapshot (R92), a first write takes one (R88). -/
def Dev.writeStart (v : Service) (d : Dev) : Dev :=
  match v.snapshot with
  | some snap => d.writeSnapshot v.pocket snap
  | none =>
    match d.image.get v.pocket with
    | none => d.setService none
    | some im =>
      match im.commit with
      | .queued k => (d.setImage v.pocket (some (im.taken k))).writeSnapshot v.pocket (im.snapshot k)
      | .none => d.setService none
      | .inFlight _ => d.setService none

/-- The write position's slot is blank in the map. -/
def Dev.targetBlank (d : Dev) (p : Pocket) : Bool := (d.ring.get p).blank[(d.ring.get p).writePos]

/-- Serve a commit (R88): write at once into a blank target; otherwise erase the target first, which does the work
of a queued ERASE entry for that slot. -/
def Dev.serve (v : Service) (d : Dev) : Dev :=
  if d.targetBlank v.pocket then d.writeStart v
  else
    let slot := (d.ring.get v.pocket).writePos
    ((d.keepEntries fun w => w != .erase v.pocket slot).setService (some v)).startOperation (.erase v.pocket slot .target)

/-! ### FORMAT (R99, R100) -/

/-- A FORMAT entry leaves the queue: the numbering, the basis and the history list are reset and the reply is sent
(R100, R103, R114, R116). -/
def Dev.finishFormat (p : Pocket) (failed : Bool) (d : Dev) : Dev :=
  let d1 := d.keepEntries fun w => !w.isFormat
  let d2 := d1.setRing p
    { d1.ring.get p with writePos := 0, lastSeq := 0, newest := none, failures := 0, completionAge := none, lastCycle := 0 }
  let d3 := d2.setJournal p { d2.journal.get p with basis := none, history := [] }
  d3.release .format (some p) (pocketReply (if failed then .faulted else .ok) p [])

/-- Put a FORMAT entry's progress into the queue, in its place. -/
def Dev.updateFormat (p : Pocket) (next : Fin 16) (failed : Bool) (d : Dev) : Dev :=
  d.setEngine { d.engine with
    queue := d.engine.queue.map fun e => if e.work.isFormatOf p then { e with work := .format p next failed } else e }

/-- The slots from `next` on that a FORMAT entry still has to do, next first. -/
def slotsFrom (next : Fin 16) : List (Fin 16) :=
  (List.finRange 16).filter fun i => next.val ≤ i.val

/-- Serve a FORMAT entry over its remaining slots (R100): a blank slot is done at once, another is erased. A slot done
without an operation leaves the array free, and R85 names no event that brings on the selection for which the entry then
waits: the model's choice is that it follows at once, so that one selection passes every blank slot in a row, and ends an
entry that has only blank slots left (log entry 40). -/
def Dev.formatStep (p : Pocket) (failed : Bool) : List (Fin 16) → Dev → Dev
  | [], d => d.finishFormat p failed
  | i :: rest, d =>
    if (d.ring.get p).blank[i] then Dev.formatStep p failed rest d
    else (d.updateFormat p i failed).startOperation (.erase p i .format)

/-! ### Selection in RUN (R85, R86) -/

/-- The oldest entry whose work passes a test. -/
def Dev.oldest (d : Dev) (f : Work → Bool) : Option Entry := d.engine.queue.find? fun e => f e.work

/-- Take an entry out of the queue. -/
def Dev.dequeue (e : Entry) (d : Dev) : Dev := d.setEngine { d.engine with queue := d.engine.queue.erase e }

/-- The pocket of a COMMIT entry. -/
def Work.commitPocket : Work → Option Pocket
  | .commit p => some p
  | .erase _ _ => none
  | .param _ => none
  | .format _ _ _ => none

/-- Steps 3 to 5 of R85, which do not start in DIP (R86). -/
def Dev.selectBackground (d : Dev) : Dev :=
  match d.oldest Work.isParam with
  | some e =>
    match e.work with
    | .param second => (d.dequeue e).startOperation (.param (Params.image d.link.params) second e.age)
    | .commit _ => d
    | .erase _ _ => d
    | .format _ _ _ => d
  | none =>
    match d.oldest Work.isErase with
    | some e =>
      match e.work with
      | .erase p slot => (d.dequeue e).startOperation (.erase p slot .entry)
      | .commit _ => d
      | .param _ => d
      | .format _ _ _ => d
    | none =>
      match d.oldest Work.isFormat with
      | some e =>
        match e.work with
        | .format p next failed => d.formatStep p failed (slotsFrom next)
        | .commit _ => d
        | .erase _ _ => d
        | .param _ => d
      | none => d

/-- The engine selects its next operation in RUN (R85): nothing while one is in flight or a reset awaits its
effect (R87). -/
def Dev.select (d : Dev) : Dev :=
  if !d.runningFree || d.engine.inFlight.isSome then d
  else
    match d.engine.service with
    | some v => d.serve v
    | none =>
      match d.oldest Work.isCommit with
      | some e =>
        match e.work.commitPocket with
        | some p => (d.dequeue e).serve ⟨p, none⟩
        | none => d
      | none => if d.mainsPresent then d.selectBackground else d

/-! ### Selection in LOSS_COMMIT (R95, R96) -/

/-- Rank of a phase in the loss-time order: DRYING first (R95). -/
def Phase.lossRank : Phase → Nat
  | .drying => 0
  | .cooling => 1
  | .anticrease => 2

/-- The loss-time rank of a pocket: the phase of its image, and its completion age, none counting as oldest. -/
def Dev.lossKey (d : Dev) (p : Pocket) : Nat × Nat :=
  let phase := match d.image.get p with
    | some im => im.body.phase.lossRank
    | none => 3
  let age := match (d.ring.get p).completionAge with
    | none => 0
    | some n => n + 1
  (phase, age)

/-- Pocket B goes before pocket A: only by its phase, or by an older completion in the same phase (R95). -/
def Dev.bBeforeA (d : Dev) : Bool :=
  let a := d.lossKey .a
  let b := d.lossKey .b
  b.1 < a.1 || (b.1 == a.1 && b.2 < a.2)

/-- A pocket holds a queued COMMIT entry. -/
def Dev.hasCommit (d : Dev) (p : Pocket) : Bool := d.anyEntry fun w => w == .commit p

/-- The pocket whose queued SUSPEND commit goes next (R95). -/
def Dev.lossNext (d : Dev) : Option Pocket :=
  match d.hasCommit .a, d.hasCommit .b with
  | true, true => some (if d.bBeforeA then .b else .a)
  | true, false => some .a
  | false, true => some .b
  | false, false => none

/-- Skip a pocket's SUSPEND commit (R96): it leaves the queue and ends its service, and the commit status is NONE. -/
def Dev.skipCommit (p : Pocket) (d : Dev) : Dev :=
  let d1 := d.keepEntries fun w => w != .commit p
  let d2 := d1.setService none
  (d2.setRing p { d2.ring.get p with failures := 0 }).modImage p fun im => { im with commit := .none }

/-- Skip every SUSPEND commit left: one of them met a reserve below V_WRITE (R16, R96). -/
def Dev.skipAll (d : Dev) : Dev :=
  let d1 := match d.engine.service with
    | some v => d.skipCommit v.pocket
    | none => d
  let d2 := if d1.hasCommit .a then d1.skipCommit .a else d1
  if d2.hasCommit .b then d2.skipCommit .b else d2

/-- The engine works in LOSS_COMMIT (R96): the retry in service, then the queued commits in the loss-time order.
The count bounds how many commits it may look at: one in service and one of each pocket. -/
def Dev.lossSelect : Nat → Dev → Dev
  | 0, d => d
  | n + 1, d =>
    if d.engine.inFlight.isSome then d
    else
      match d.engine.service with
      | some v =>
        if d.reserve.level < vWrite then d.skipAll
        else if d.targetBlank v.pocket then d.writeStart v
        else Dev.lossSelect n (d.skipCommit v.pocket)
      | none =>
        match d.lossNext with
        | none => d
        | some p =>
          if d.reserve.level < vWrite then d.skipAll
          else if d.targetBlank p then (d.keepEntries fun w => w != .commit p).writeStart ⟨p, none⟩
          else Dev.lossSelect n (d.skipCommit p)

/-- In LOSS_COMMIT with no operation in flight: the engine works, and where it starts nothing LOSS_COMMIT ends
(R16, R17). -/
def Dev.lossWork (d : Dev) : Dev :=
  if d.engine.inFlight.isSome then d
  else
    let d1 := d.lossSelect 3
    if d1.engine.inFlight.isSome then d1 else d1.powerDown

/-- After an operation has ended and its outcome is reported: a waiting reset takes effect (R19); otherwise the
engine selects again (R85, R96). -/
def Dev.afterOperation (d : Dev) : Dev :=
  match d.run with
  | .run => if d.link.resetHold then d.resetEffect else d.select
  | .lossCommit => d.lossWork
  | .startup => d
  | .backup => d

/-! ### Completion and failure of a commit (R69, R70, R89 to R93) -/

/-- The reply a completion releases to START (R34, R169). -/
def Dev.answerStart (p : Pocket) (cycle : Nat) (seq : Word) (d : Dev) : Dev :=
  match d.owed .start (some p) with
  | none => d
  | some e =>
    d.release .start (some p)
      (pocketReply (if e.clamped then .clamped else .ok) p (leBytes 2 cycle ++ wordBytes seq))

/-- The CHECKPOINT reply a completion releases, or one completion fewer to wait for (R72). -/
def Dev.answerCheckpoint (p : Pocket) (seq : Word) (d : Dev) : Dev :=
  match d.owed .checkpoint (some p) with
  | none => d
  | some e =>
    match e.after with
    | 0 => d.release .checkpoint (some p) (pocketReply .ok p (wordBytes seq))
    | n + 1 => (d.undefer .checkpoint (some p)).defer { e with after := n }

/-- The commit status becomes NONE; a recommit request queues its entry, or a dirty image gives a PROGRESS
trigger (R69, steps 2 to 5). -/
def Dev.recommit (p : Pocket) (d : Dev) : Dev :=
  match d.image.get p with
  | none => d
  | some im =>
    match im.recommit with
    | some k => (d.setImage p (some { im with commit := .queued k, recommit := none })).enqueue (.commit p)
    | none =>
      let d1 := d.setImage p (some { im with commit := .none })
      if im.dirty then d1.trigger p .progress none else d1

/-- What the PMU does at a completion of a record other than CLOSE (R69): the exhaust reference, the resume block
(R145), the recommit. -/
def Dev.imageCompleted (p : Pocket) (snap : Snapshot) (d : Dev) : Dev :=
  (d.modImage p fun im => { im with exhaustRef := snap.body.exhaustLast, resume := none }).recommit p

/-- A record joins the front of the history list, the 17th leaving it (R116). -/
def Dev.addHistory (p : Pocket) (r : Record) (d : Dev) : Dev :=
  let j := d.journal.get p
  d.setJournal p { j with history := (r :: j.history).take 16 }

/-- A completed commit (R89): the ring, the history list, L (R27), the deferred replies, the closure or the PMU, and
erase-ahead (R90). -/
def Dev.commitCompleted (p : Pocket) (slot : Fin 16) (snap : Snapshot) (seq : Word) (beforeLoss : Bool) (d : Dev) : Dev :=
  let d1 := (d.setRing p { d.ring.get p with
      newest := some seq, writePos := slot + 1, failures := 0, completionAge := some d.engine.completions }).setEngine
    { d.engine with service := none, completions := d.engine.completions + 1 }
  let d2 := d1.addHistory p (snap.record p seq)
  let d3 := if beforeLoss then d2 else d2.setFacts p { d2.bkd.facts.get p with losses := 0 }
  let d4 := (d3.answerStart p snap.cycle seq).answerCheckpoint p seq
  let d5 := if snap.kind = .close then d4.finishClosure p .ok else d4.imageCompleted p snap
  d5.askErase p (slot + 2)

/-- A commit ends in JOURNAL_FAIL (R93, R70, R34, R39): `failedWrite` when its last operation was a write, whose slot
is then asked for erase. A marked pocket's closure takes effect without a record. -/
def Dev.journalFail (p : Pocket) (slot : Fin 16) (snap : Option Snapshot) (failedWrite : Bool) (d : Dev) : Dev :=
  let d1 := d.raiseFault p .journalFail
  let d2 := if failedWrite then d1.askErase p slot else d1
  let d3 := (d2.setRing p { d2.ring.get p with writePos := slot + 1, failures := 0 }).setService none
  let cycle := match snap, d.image.get p with
    | some s, _ => s.cycle
    | none, some im => im.cycle
    | none, none => 0
  let d4 := (d3.release .start (some p) (pocketReply .faulted p (leBytes 2 cycle ++ leBytes 2 0))).release
    .checkpoint (some p) (pocketReply .faulted p [])
  let d5 := d4.modImage p fun im =>
    { im with commit := .none, recommit := none, closeReason := none, window := none }
  if (d5.psq.get p).mark.isSome then d5.finishClosure p .faulted else d5

/-- The mark of a CLOSE that will not be written is removed, its close reason dropped (R41, R71, R96). -/
def Dev.dropMark (p : Pocket) (d : Dev) : Dev :=
  (d.setPsq p { d.psq.get p with mark := none }).modImage p fun im => { im with closeReason := none }

/-- A commit of before the loss ends without a record in LOSS_COMMIT (R94, R96): its service ends, the failure
count returns to 0, a CLOSE's mark goes, and a SUSPEND recommit request is queued as at a completion. -/
def Dev.endWithoutRecord (p : Pocket) (kind : Kind) (d : Dev) : Dev :=
  let d1 := (d.setRing p { d.ring.get p with failures := 0 }).setService none
  let d2 := if kind = .close then d1.dropMark p else d1
  match d2.image.get p with
  | none => d2
  | some im =>
    match im.recommit with
    | some k => (d2.setImage p (some { im with commit := .queued k, recommit := none })).enqueue (.commit p)
    | none => d2.setImage p (some { im with commit := .none })

/-- A first verify mismatch (R92): WRITE_RETRY, an ERASE asked for, the write position past the slot, and a failure
counted; the commit stays in service with the same snapshot. -/
def Dev.writeRetry (p : Pocket) (slot : Fin 16) (d : Dev) : Dev :=
  let d1 := (d.raiseFault p .writeRetry).askErase p slot
  d1.setRing p { d1.ring.get p with writePos := slot + 1, failures := 1 }

/-- A write has failed its verify (R92, R93, R96). A first write in flight at the loss that fails with the failure count
already at 1, from a failed erase of its target, is the second failure of its commit (R93); R96 ends such a first write
without a record. The model's choice is R93: JOURNAL_FAIL, the SUSPEND recommit discarded (log entry 21). -/
def Dev.writeFailed (p : Pocket) (slot : Fin 16) (snap : Snapshot) (beforeLoss : Bool) (d : Dev) : Dev :=
  if (d.ring.get p).failures = 0 then
    if beforeLoss then (d.writeRetry p slot).endWithoutRecord p snap.kind else d.writeRetry p slot
  else d.journalFail p slot (some snap) true

/-! ### The end of an ERASE (R91, R94, R100) -/

/-- A slot of a FORMAT entry is done (R100): the entry moves on, or leaves the queue after slot 15. Where a loss
has discarded the entry there is nothing to move. -/
def Dev.formatSlotDone (p : Pocket) (slot : Fin 16) (passed : Bool) (d : Dev) : Dev :=
  match d.oldest (Work.isFormatOf p) with
  | none => d
  | some e =>
    match e.work with
    | .format _ _ failed =>
      if slot.val = 15 then d.finishFormat p (failed || !passed)
      else d.updateFormat p (slot + 1) (failed || !passed)
    | .commit _ => d
    | .erase _ _ => d
    | .param _ => d

/-- The snapshot of a retry that a loss declaration found in its target erase (R94). -/
def Dev.retryAtLoss (d : Dev) : Option Snapshot :=
  match d.run, d.engine.service with
  | .lossCommit, some v => v.snapshot
  | _, _ => none

/-- A failed target erase is a failure of the commit (R91): a first failure moves the write position on, a second
ends in JOURNAL_FAIL. The commit of a retry that a loss found in this erase ends without a record (R94), with the write
position past the failed slot all the same (R91). -/
def Dev.targetEraseFailed (p : Pocket) (slot : Fin 16) (d : Dev) : Dev :=
  match d.retryAtLoss with
  | some snap => (d.setRing p { d.ring.get p with writePos := slot + 1 }).endWithoutRecord p snap.kind
  | none =>
    let snap := match d.engine.service with
      | some v => v.snapshot
      | none => none
    if (d.ring.get p).failures = 0 then d.setRing p { d.ring.get p with writePos := slot + 1, failures := 1 }
    else (d.keepEntries fun w => w != .commit p).journalFail p slot snap false

/-- A passed target erase leaves its commit in service, to be written next; the retry that a loss found in this erase
is not written, and its commit ends without a record (R94). -/
def Dev.targetErasePassed (p : Pocket) (d : Dev) : Dev :=
  match d.retryAtLoss with
  | some snap => d.endWithoutRecord p snap.kind
  | none => d

/-- An ERASE ends with its blank check (R91). -/
def Dev.eraseEnded (p : Pocket) (slot : Fin 16) (purpose : ErasePurpose) (passed : Bool) (d : Dev) : Dev :=
  let d1 := if passed then d.markBlank p slot true else (d.markBlank p slot false).raiseFault p .writeRetry
  match purpose with
  | .entry => d1
  | .format => d1.formatSlotDone p slot passed
  | .target => if passed then d1.targetErasePassed p else d1.targetEraseFailed p slot

/-! ### The end of a PARAM operation (R97, R98) -/

/-- Put an entry back into the queue "with its age order unchanged" (R98). -/
def insertByAge (e : Entry) : List Entry → List Entry
  | [] => [e]
  | x :: xs => if e.age < x.age then e :: x :: xs else x :: insertByAge e xs

/-- A PARAM operation ends: success answers PARAM_STORE and clears PARAM_DEFAULT; a first failure returns the entry
to the queue, a second answers FAULTED (R97, R98). -/
def Dev.paramEnded (matched secondTry : Bool) (age : Nat) (d : Dev) : Dev :=
  if matched then (d.release .paramStore none [Result.ok.byte]).clearDevice .paramDefault
  else if secondTry then d.release .paramStore none [Result.faulted.byte]
  else d.setEngine { d.engine with queue := insertByAge ⟨age, .param true⟩ d.engine.queue }

end Sys2Proof.Machine
end

