-- ==== Sys2Proof/Machine/Planner.lean ====
section
/-! DEFINITION. The resume planner: its inputs, the decision steps and their arithmetic, the figures of a RESUME
choice, and acting on a plan in RUN (Chapter 7, R45). -/

namespace Sys2Proof.Machine

/-! ### Inputs (R119, R120) -/

/-- T_now (R120): absent with SENSOR standing; otherwise the published temperature, or, where it is absent, the
converted value of the most recent sample. Where an out-of-range sample, which has no converted value, came between a CLEAR
of SENSOR and the recomputation, the spec gives none: the model's choice is the last in-range value (log entry 38). -/
def Dev.tNow (d : Dev) (p : Pocket) : Option Int :=
  if (d.psq.get p).blocking.sensor then none
  else
    match (d.sns.get p).published with
    | some t => some t
    | none => (d.sns.get p).lastInRange

/-- n_eff = n + L, saturating at 255 (R122). -/
def effectiveOutages (b : Body) (f : Facts) : Nat := satAdd b.outages f.losses 255

/-- Stale: the suspended flag is set and the basis is not a SUSPEND record (R122). -/
def staleBasis (r : Record) (f : Facts) : Bool := f.suspended && r.kind != some .suspend

/-! ### The arithmetic (R125, R128, R129) -/

/-- k = floor(S / period) (R125); the quotient by a period of 0 is open (log entry 6). -/
def burstsUsed (stall period : Nat) : Nat :=
  if period = 0 then Config.openBurstsUsed stall else stall / period

/-- The extra heat time E (R128). -/
def extraHeat (pr : Params) (tLast tNow : Int) : Nat :=
  min pr.eMax (ceilDiv ((max 0 (tLast - tNow)).toNat * pr.kReheat) 16)

/-- H′ of the reheat computation (R128). -/
def reheatHeat (pr : Params) (heat : Nat) (tLast tNow : Int) : Nat := min 14400 (heat + extraHeat pr tLast tNow)

/-- What the cool computation gives: GUARD, or COOL with C′ (R129). -/
inductive CoolResult where
  | guard
  | cool (seconds : Nat)
deriving DecidableEq, Repr

/-- The cool computation (R129). -/
def coolComputation (pr : Params) (cool : Nat) (tLast tNow : Int) : CoolResult :=
  if tNow ≤ pr.tCd then .guard
  else if tLast ≤ pr.tCd ∨ tLast ≤ tNow then .cool (max pr.cMin cool)
  else
    .cool (clampNat (ceilDiv (cool * (tNow - pr.tCd).toNat) (tLast - pr.tCd).toNat) pr.cMin (max pr.cMin cool))

/-! ### The decision (R122 to R130) -/

/-- The plan with the basis figures: what R130 starts from. -/
def basisPlan (r : Record) (f : Facts) (tNow : Option Int) (o : ResumeOutcome) (why : PlanReason) : Plan where
  outcome := o
  reason := why
  basisSeq := r.seq
  basisPhase := r.body.phase
  stall := f.stall
  latch := f.latch
  outages := effectiveOutages r.body f
  tNow := tNow
  tLast := r.body.exhaustLast
  heat := r.body.heat
  cool := r.body.cool
  bursts := r.body.burstsLeft
  guard := r.body.guard
  stale := staleBasis r f

/-- T_now in the steps that use it: the gates have passed, so it is present (R120); a missing one is open. -/
def knownTemperature (tNow : Option Int) : Int :=
  match tNow with
  | some t => t
  | none => Config.openTemperature 0

/-- A plan from the cool computation: COOL with this reason, or GUARD COLD_LOAD with a full course (R126, R127). -/
def coolPlan (pr : Params) (r : Record) (f : Facts) (tNow : Option Int) (why : PlanReason) : Plan :=
  match coolComputation pr r.body.cool r.body.exhaustLast (knownTemperature tNow) with
  | .cool c => { basisPlan r f tNow .cool why with cool := c }
  | .guard => { basisPlan r f tNow .guard .coldLoad with bursts := r.body.guard.bursts }

/-- Steps 6 to 8: by the phase of the basis (R125 to R127). -/
def phasePlan (pr : Params) (r : Record) (f : Facts) (tNow : Option Int) : Plan :=
  match r.body.phase with
  | .anticrease =>
    let k := burstsUsed f.stall r.body.guard.period
    if r.body.burstsLeft ≤ k then basisPlan r f tNow .close .expired
    else { basisPlan r f tNow .guard .normal with bursts := r.body.burstsLeft - k }
  | .cooling => coolPlan pr r f tNow .normal
  | .drying =>
    if pr.nMax ≤ effectiveOutages r.body f then coolPlan pr r f tNow .outageLimit
    else if pr.sMaxHeat < f.stall then basisPlan r f tNow .hold .longStall
    else
      { basisPlan r f tNow .reheat .normal with
        heat := reheatHeat pr r.body.heat r.body.exhaustLast (knownTemperature tNow) }

/-- The decision steps in order (R123 to R127). -/
def decidePlan (pr : Params) (q : Sequencer) (f : Facts) (tNow : Option Int) (r : Record) : Plan :=
  if q.startKind = .cold then basisPlan r f tNow .hold .noBackup
  else if !f.suspended then basisPlan r f tNow .hold .mismatch
  else if q.blocked then basisPlan r f tNow .hold .blocked
  else if q.strict && q.advised then basisPlan r f tNow .hold .strict
  else if f.latch then basisPlan r f tNow .close .door
  else phasePlan pr r f tNow

/-- A computation for a pocket from this basis, every input as it stands (R119). -/
def Dev.computePlan (d : Dev) (p : Pocket) (r : Record) : Plan :=
  decidePlan d.link.params (d.psq.get p) (d.bkd.facts.get p) (d.tNow p) r

/-! ### Figures of a resume choice (R133 to R136) -/

/-- The choice that carries out a plan's own figures: ACCEPT, and an automatic GUARD (R42, R133). -/
def choiceOfPlan (pl : Plan) : Choice := ⟨pl.outcome, pl.heat, pl.cool, pl.bursts, pl.guard⟩

/-- A choice of COOL that is not an ACCEPT of a COOL plan (R135). -/
def coolChoice (pr : Params) (pl : Plan) (b : Body) : Choice :=
  let c := match pl.tNow with
    | none => max pr.cMin b.cool
    | some t =>
      match coolComputation pr b.cool b.exhaustLast t with
      | .cool c => c
      | .guard => pr.cMin
  ⟨.cool, b.heat, c, b.burstsLeft, b.guard⟩

/-- A choice of GUARD: a full course of the basis program (R136). -/
def guardChoice (b : Body) : Choice := ⟨.guard, b.heat, b.cool, b.guard.bursts, b.guard⟩

/-! ### Acting on a plan (R45) -/

/-- A pocket enters WAITSTART with choice GUARD from a plan, PLAN_READY raised (R42, R45). -/
def Dev.awaitGuard (p : Pocket) (pl : Plan) (d : Dev) : Dev :=
  (d.setPsq p { d.psq.get p with state := .waitstart, choice := some (choiceOfPlan pl) }).raiseCause .planReady

/-- A pocket is PLANNED without a choice, PLAN_READY raised (R42, R45). -/
def Dev.becomePlanned (p : Pocket) (d : Dev) : Dev :=
  (d.setPsq p { d.psq.get p with state := .planned, choice := none }).raiseCause .planReady

/-- The close reason of a CLOSE plan: DOOR or EXPIRED (Table 7-3). -/
def PlanReason.closeReason : PlanReason → CloseReason
  | .door => .door
  | .expired => .expired
  | .normal => .expired
  | .noBackup => .expired
  | .mismatch => .expired
  | .blocked => .expired
  | .strict => .expired
  | .longStall => .expired
  | .outageLimit => .expired
  | .coldLoad => .expired

/-- Act on a recomputed plan (R45). -/
def Dev.actOnPlan (p : Pocket) (pl : Plan) (d : Dev) : Dev :=
  match pl.outcome with
  | .close => d.closeWaiting p pl.reason.closeReason
  | .guard => (d.awaitGuard p pl).startTest p
  | .reheat => d.becomePlanned p
  | .cool => d.becomePlanned p
  | .hold => d.becomePlanned p

/-- A recomputation in RUN (R45, R132): the choice and the grant entry go, the new plan replaces the old one, and the
sequencer acts on it. A waiting pocket always has its basis (R114). -/
def Dev.recompute (p : Pocket) (d : Dev) : Dev :=
  match (d.journal.get p).basis with
  | none => d
  | some b =>
    let d1 := (d.setPsq p { d.psq.get p with choice := none }).leaveGrantQueue p
    let pl := d1.computePlan p b.record
    (d1.setPlan p (some pl)).actOnPlan p pl

end Sys2Proof.Machine
end

