-- ==== Sys2Proof/Machine/Restore.lean ====
section
/-! DEFINITION. The restore scan and the end of STARTUP: basis selection, the ring check, the write position, the
history list, the hand-off, and the start-up plans (Chapter 6, R14, R26, R42, R43, R121). -/

namespace Sys2Proof.Machine

/-! ### Reading a scan map (R108 to R110, R115) -/

/-- The VALID slots of a scan map, in slot order, each with its record. -/
def validSlots (map : List SlotClass) : List (Fin 16 × Record) :=
  ((List.finRange 16).zip map).filterMap fun x =>
    match x.2 with
    | .valid r => some (x.1, r)
    | .blank => none
    | .torn => none
    | .foreign => none

/-- One step of the basis walk: a newer sequence replaces the candidate (R108). -/
def walkStep (candidate : Option Basis) (x : Fin 16 × Record) : Option Basis :=
  match candidate with
  | none => some ⟨x.1, x.2⟩
  | some c => if newer x.2.seq c.record.seq then some ⟨x.1, x.2⟩ else some c

/-- The basis: the candidate at the end of the walk (R108). -/
def selectBasis (map : List SlotClass) : Option Basis := (validSlots map).foldl walkStep none

/-- An ignored duplicate of the basis: the same sequence in another slot (R108). -/
def isDuplicate (b : Basis) (x : Fin 16 × Record) : Bool := x.2.seq == b.record.seq && x.1 != b.slot

/-- Two VALID slots hold the same sequence number (R109). -/
def sharesSequence : List (Fin 16 × Record) → Bool
  | [] => false
  | x :: xs => (xs.any fun y => y.2.seq == x.2.seq) || sharesSequence xs

/-- The span: the largest serial distance from a VALID sequence up to the basis (R109). -/
def ringSpan (b : Basis) (vs : List (Fin 16 × Record)) : Nat :=
  (vs.map fun x => serialDistance b.record.seq x.2.seq).foldl max 0

/-- RING_CORRUPT (R109): a FOREIGN slot, a shared sequence, or a span above 15. -/
def ringCorrupt (map : List SlotClass) : Bool :=
  map.any (· == .foreign) || sharesSequence (validSlots map) ||
    match selectBasis map with
    | none => false
    | some b => 15 < ringSpan b (validSlots map)

/-- The class of a slot in a finished map. -/
def slotClass (map : List SlotClass) (i : Fin 16) : SlotClass := map.getD i.val .torn

/-- The torn slot directly after the basis, if there is one (R110). -/
def tornTail (map : List SlotClass) : Option (Fin 16) :=
  match selectBasis map with
  | none => none
  | some b => if slotClass map (b.slot + 1) = .torn then some (b.slot + 1) else none

/-- The write position (R110). -/
def writePosition (map : List SlotClass) : Fin 16 :=
  match selectBasis map with
  | none => 0
  | some b => if slotClass map (b.slot + 1) = .torn then b.slot + 2 else b.slot + 1

/-- Insert by serial distance up to the basis, after those at the same distance or less (R115). -/
def insertByDistance (base : Word) (r : Record) : List Record → List Record
  | [] => [r]
  | x :: xs =>
    if serialDistance base r.seq < serialDistance base x.seq then r :: x :: xs
    else x :: insertByDistance base r xs

/-- The history list of a scanned ring (R115). -/
def scannedHistory (map : List SlotClass) : List Record :=
  match selectBasis map with
  | none => []
  | some b =>
    ((validSlots map).filter fun x => !(isDuplicate b x)).foldl (fun acc x => insertByDistance b.record.seq x.2 acc) []

/-- The engine's items of a pocket at the hand-off (Table 6-2). -/
def handedRing (map : List SlotClass) : Ring where
  writePos := writePosition map
  blank := Vector.ofFn fun i : Fin 16 => slotClass map i == .blank
  lastSeq := match selectBasis map with
    | some b => b.record.seq
    | none => 0
  newest := (selectBasis map).map fun b => b.record.seq
  failures := 0
  completionAge := none
  lastCycle := match selectBasis map with
    | some b => b.record.cycle
    | none => 0

/-! ### The end of the scan (R105, R109 to R112) -/

/-- R105, steps 1 to 4, for a pocket: basis, ring check, TORN_TAIL, history list. -/
def Dev.concludeRing (p : Pocket) (d : Dev) : Dev :=
  let j := d.journal.get p
  let d1 := d.setJournal p { j with basis := selectBasis j.map, history := scannedHistory j.map }
  let d2 := if ringCorrupt j.map then d1.raiseFault p .ringCorrupt else d1
  if (tornTail j.map).isSome then d2.raiseFault p .tornTail else d2

/-- R111: the engine's items of a pocket. -/
def Dev.handOffRing (p : Pocket) (d : Dev) : Dev := d.setRing p (handedRing (d.journal.get p).map)

/-- R112: the erases asked for a pocket: the write position, the slot after it, the torn slot passed over. -/
def Dev.askScanErases (p : Pocket) (d : Dev) : Dev :=
  let map := (d.journal.get p).map
  let d1 := (d.askErase p (writePosition map)).askErase p (writePosition map + 1)
  match tornTail map with
  | some i => d1.askErase p i
  | none => d1

/-- The scan ends: for each pocket its conclusions, then the hand-offs, then DONE (R105). -/
def Dev.endScan (d : Dev) : Dev :=
  ((((((d.concludeRing .a).concludeRing .b).handOffRing .a).handOffRing .b).askScanErases .a).askScanErases .b).setScan
    ⟨.done, 0⟩

/-! ### The end of STARTUP (R14, R26, R42, R43, R121, R122) -/

/-- The start-up plan of a live basis; a stale basis raises STALE_BASIS before the decision (R121, R122). -/
def Dev.startupPlan (p : Pocket) (r : Record) (d : Dev) : Dev :=
  let d1 := if staleBasis r (d.bkd.facts.get p) then d.raiseFault p .staleBasis else d
  d1.setPlan p (some (d1.computePlan p r))

/-- A STARTUP plan of CLOSE (R43): VACANT with the mark, the image rebuilt before the release reads L away, a CLOSE
commit queued, CLOSED raised. -/
def Dev.startupClosure (p : Pocket) (reason : CloseReason) (d : Dev) : Dev :=
  let d1 := (d.setPsq p { d.psq.get p with mark := some reason }).rebuildForClosure p
  ((d1.trigger p .close (some reason)).releaseFacts p).raiseCause .closed

/-- A stopped stall counter of a waiting pocket starts at the end of STARTUP (R26). -/
def Dev.alignStall (p : Pocket) (d : Dev) : Dev := d.setFacts p (d.bkd.facts.get p).startStall

/-- The pocket takes its state from the scan and the plan, and the BKD brings its facts into line (R26, R42, R43). -/
def Dev.takeState (p : Pocket) (d : Dev) : Dev :=
  match (d.journal.get p).basis with
  | none => d.releaseFacts p
  | some b =>
    if b.record.live then
      let d1 := d.startupPlan p b.record
      match d1.plan.get p with
      | none => d1
      | some pl =>
        match pl.outcome with
        | .close => d1.startupClosure p pl.reason.closeReason
        | .guard => (d1.awaitGuard p pl).alignStall p
        | .reheat => (d1.becomePlanned p).alignStall p
        | .cool => (d1.becomePlanned p).alignStall p
        | .hold => (d1.becomePlanned p).alignStall p
    else d.releaseFacts p

/-- Entry to RUN (R14): the stagger restarts, RESERVE_LOW is raised with ready clear, routine sampling begins with pocket
A's sample, which "is due at entry to RUN" (R75), WAITSTART pockets are tested (R139), and the engine selects (R85). -/
def Dev.enterRun (d : Dev) : Dev :=
  let d1 := (d.setRun .run).setArbiter { d.arbiter with stagger := 0 }
  let d2 := if d1.reserve.ready then d1 else d1.raiseDevice .reserveLow
  (d2.beginSample .a).startTests.select

/-- STARTUP ends once the scan is done and both restore samples are taken (R13, step 3). -/
def Dev.endStartup (d : Dev) : Dev :=
  if d.run == .startup && d.scan.state == .done && (d.sns.get .a).sampling == .none && (d.sns.get .b).sampling == .none then
    ((d.takeState .a).takeState .b).enterRun
  else d

end Sys2Proof.Machine
end

