-- ==== Sys2Proof/Machine/Mains.lean ====
section
/-! DEFINITION. The mains commands: ZERO_CROSS_EDGE, DIP_ENTRY, QUALIFY_ABORT, LOSS_DECLARATION, MAINS_RETURN,
SETTLE_END and CONFIDENCE_RISE (R1 to R8, R13, R15 to R18, R41, R71, R94).

A command whose condition does not hold is an event that does not happen: it changes nothing (log entry 1). A
command for a millisecond figure being reached stands for that figure: the time it measures is then at least the
figure (log entry 8). -/

namespace Sys2Proof.Machine

/-- A command's effect on the part alone: it always goes on, and the array and the queue are untouched. -/
def onDev (f : Dev → Dev) (s : State) : Host.Outcome State Fault Refusal := .next { s with dev := f s.dev }

/-! ### The mains monitor -/

/-- The confidence score after a fall (R3, R7): "stopping at 0". -/
def Dev.lowerConfidence (n : Nat) (d : Dev) : Dev := d.setBkd { d.bkd with confidence := d.bkd.confidence - n }

/-- The confidence interval counter starts from 0 (R7). -/
def Dev.restartInterval (d : Dev) : Dev := d.setBkd { d.bkd with interval := 0 }

/-- Parameters are in force: the main domain is powered and STARTUP has loaded them. -/
def Dev.paramsInForce (d : Dev) : Bool := d.powered && d.link.loaded

/-- The dip gap in force (R5); with no parameters in force it is open within the range of the parameter (log entry 5). -/
def Dev.dipGap (d : Dev) : Nat :=
  if d.paramsInForce then Params.dipGap d.link.params else clampNat (Config.openDipGap d.freeCount) 10 60

/-- A free value has been drawn, where the dip gap was one. -/
def Dev.drawDipGap (d : Dev) : Dev := if d.paramsInForce then d else d.setFreeCount (d.freeCount + 1)

/-- Entry to DIP (R2): the ride-through is latched from the mode in force, the interval counter goes to 0, settle is
cancelled, and the tumble timers pause (R159). The absence time runs on across the entry. -/
def Dev.enterDip (d : Dev) : Dev :=
  let m := d.bkd.monitor
  let d1 := (d.setMonitor { m with state := .dip, absence := max m.absence d.dipGap, rideThrough := d.rideThroughLength })
  ((d1.restartInterval.setSettle ⟨false, 0⟩).mapTumblers Tumbler.pause)

/-- The monitor returns from QUALIFYING to ABSENT, with no loss (R4). -/
def Dev.abortQualifying (d : Dev) : Dev :=
  let m := d.bkd.monitor
  d.setMonitor { m with state := .absent, absence := max m.absence d.dipGap }

/-- The heater settle interval begins (R3, R6): a main-domain timer, so only where the main domain is powered. -/
def Dev.beginSettle (d : Dev) : Dev := if d.powered then d.setSettle ⟨true, 0⟩ else d

/-- Raise a cause where the main domain, which holds the causes, is powered. -/
def Dev.raiseIfPowered (c : Cause) (d : Dev) : Dev := if d.powered then d.raiseCause c else d

/-- A dip is recovered (R3): PRESENT, confidence down by 2, SUPPLY, settle, the interval counter from 0; paused
timers resume (R159), WAITSTART pockets are tested (R139) and the engine selects (R85). -/
def Dev.recoverDip (d : Dev) : Dev :=
  let d1 := d.setMonitor { d.bkd.monitor with state := .present, absence := 0 }
  let d2 := (((d1.lowerConfidence 2).restartInterval).raiseIfPowered .supply).beginSettle
  ((d2.mapTumblers Tumbler.unpause).startTests).select

/-- An edge on ZC (R2, R3, R4). -/
def zeroCross (d : Dev) : Dev :=
  let m := d.bkd.monitor
  if !d.bkd.powered then d
  else
    match m.state with
    | .present => d.setMonitor { m with absence := 0 }
    | .dip => d.recoverDip
    | .absent => d.setMonitor { m with state := .qualifying, absence := 0, qualification := 0 }
    | .qualifying => d.setMonitor { m with absence := 0 }

/-- ZERO_CROSS_EDGE (R4). -/
def execZeroCrossEdge (s : State) : Host.Outcome State Fault Refusal := onDev zeroCross s

/-- In PRESENT the absence time reaches the dip gap (R2). -/
def dipEntry (d : Dev) : Dev :=
  if d.bkd.powered && d.mainsPresent then d.enterDip.drawDipGap else d

/-- DIP_ENTRY (R2). -/
def execDipEntry (s : State) : Host.Outcome State Fault Refusal := onDev dipEntry s

/-- In QUALIFYING the absence time reaches the dip gap (R4). -/
def qualifyAbort (d : Dev) : Dev :=
  if d.bkd.powered && d.bkd.monitor.state == .qualifying then d.abortQualifying.drawDipGap else d

/-- QUALIFY_ABORT (R4). -/
def execQualifyAbort (s : State) : Host.Outcome State Fault Refusal := onDev qualifyAbort s

/-! ### A loss (R15 to R18, R41, R71, R94) -/

/-- The BKD at a loss in RUN, for a pocket in a cycle (R15, R24, R25, R27). -/
def Facts.atLoss (f : Facts) : Facts :=
  { f.startStall with suspended := true, losses := satAdd f.losses 1 255 }

/-- The outage count rises by 1 and dirty is set, the window stopped (R71, steps 1 and 2). -/
def Image.countOutage (im : Image) : Image :=
  { im with body := { im.body with outages := satAdd im.body.outages 1 255 }, dirty := true, window := none }

/-- The image's commit status at a loss (R71, step 3; R15 for the queued commits of the other pockets): `active` for
a pocket that was DRYING, COOLING or ANTICREASE. -/
def Image.suspendCommit (active journalFailed : Bool) (im : Image) : Image :=
  match im.commit with
  | .none => if active && !journalFailed then { im with commit := .queued .suspend } else im
  | .queued _ => { im with commit := .queued .suspend, closeReason := none }
  | .inFlight k =>
    if active then
      { im with recommit := some .suspend, closeReason := if k = .close then im.closeReason else none }
    else im

/-- The image at a loss (R71). -/
def Image.atLoss (active waiting journalFailed : Bool) (im : Image) : Image :=
  let counted := active || (waiting && im.commit == .queued .close)
  let im1 : Image := if counted then im.countOutage else { im with window := none }
  im1.suspendCommit active journalFailed

/-- Whether the loss removes the closing mark (R41, R71): its CLOSE is queued, or is the recommit request of a write
of another kind. A CLOSE in flight keeps it. -/
def Image.losesMark (active : Bool) (im : Image) : Bool :=
  match im.commit with
  | .none => false
  | .queued k => k == .close
  | .inFlight k => active && k != .close && im.recommit == some .close

/-- Whether the loss gives the pocket a new COMMIT entry (R71: status NONE of an active pocket). -/
def Image.needsEntry (active journalFailed : Bool) (im : Image) : Bool :=
  active && !journalFailed && im.commit == .none

/-- One pocket at a loss in RUN: BKD (R15), PSQ (R41), PMU (R71). -/
def Dev.lossPocket (p : Pocket) (d : Dev) : Dev :=
  let q := d.psq.get p
  let active := q.state.active
  let waiting := q.state.waiting
  let jf := d.journalFailed p
  let d1 := if active || waiting then d.setFacts p (d.bkd.facts.get p).atLoss else d
  let q1 : Sequencer := if active || waiting then { q with state := .suspended, choice := none } else q
  match d.image.get p with
  | none => d1.setPsq p q1
  | some im =>
    let q2 : Sequencer := if im.losesMark active then { q1 with mark := none } else q1
    let d2 := (d1.setPsq p q2).setImage p (some (im.atLoss active waiting jf))
    if im.needsEntry active jf then d2.enqueue (.commit p) else d2

/-- The operation in flight at the declaration (R27, R96): a write is marked as begun before it. -/
def Operation.atLoss : Operation → Operation
  | .write p slot snap seq _ => .write p slot snap seq true
  | .erase p slot purpose => .erase p slot purpose
  | .param ws second age => .param ws second age

/-- The engine at a loss (R94): ERASE, FORMAT and PARAM entries are discarded; a commit in service before its first
write is a queued commit again. -/
def Dev.lossEngine (d : Dev) : Dev :=
  let d1 := (d.keepEntries Work.isCommit).setEngine
    { (d.keepEntries Work.isCommit).engine with inFlight := d.engine.inFlight.map Operation.atLoss }
  match d.engine.service with
  | some ⟨p, none⟩ => (d1.setService none).enqueue (.commit p)
  | _ => d1

/-- Routine sampling stops, and a sample that has not completed is dropped (R75); sensor-fault streaks are kept (R15). -/
def Dev.stopSampling (d : Dev) : Dev :=
  ((d.setSns .a { d.sns.get .a with sampling := .none }).setSns .b { d.sns.get .b with sampling := .none }).setAdc
    ((d.adc.dropSample .a).dropSample .b)

/-- A loss declared in RUN (R15): every block's response, a reserve conversion falling due at the entry (R9), and the
start of the engine's loss-time work (R94). A reset request that awaited its effect is void (R19). -/
def Dev.lossInRun (d : Dev) : Dev :=
  let d1 := ((d.setRun .lossCommit).setSettle ⟨false, 0⟩).stopSampling
  let d2 := (d1.setAdc d1.adc.requestReserve).lossEngine
  let d3 := (d2.lossPocket .a).lossPocket .b
  let d4 := (d3.stopTumblers).setArbiter { d3.arbiter with queue := [] }
  let d5 := d4.setLink { d4.link with deferred := [], resetHold := false }
  d5.lossWork

/-- L rises for a pocket whose suspended flag is already set (R18). -/
def Dev.lossInStartupFacts (p : Pocket) (d : Dev) : Dev :=
  let f := d.bkd.facts.get p
  if f.suspended then d.setFacts p { f with losses := satAdd f.losses 1 255 } else d

/-- A loss declared in STARTUP (R18): L of the suspended pockets, and the main domain powers down at once. -/
def Dev.lossInStartup (d : Dev) : Dev := ((d.lossInStartupFacts .a).lossInStartupFacts .b).powerDown

/-- In DIP the absence time reaches the latched ride-through length (R3): ABSENT, confidence down by 4, and a loss by
the run state. -/
def lossDeclaration (d : Dev) : Dev :=
  let m := d.bkd.monitor
  if d.bkd.powered && m.state == .dip then
    let d1 := (d.setMonitor { m with state := .absent, absence := max m.absence m.rideThrough }).lowerConfidence 4
    match d.run with
    | .run => d1.lossInRun
    | .startup => d1.lossInStartup
    | .lossCommit => d1.setSettle ⟨false, 0⟩
    | .backup => d1
  else d

/-- LOSS_DECLARATION (R15). -/
def execLossDeclaration (s : State) : Host.Outcome State Fault Refusal := onDev lossDeclaration s

/-! ### Return, settle, confidence -/

/-- The qualification time reaches 1000 ms (R4): PRESENT, the interval counter from 0, settle clear; in BACKUP a start
begins (R13). -/
def mainsReturn (d : Dev) : Dev :=
  let m := d.bkd.monitor
  if d.bkd.powered && m.state == .qualifying then
    let d1 := ((d.setMonitor { m with state := .present, qualification := max m.qualification 1000 }).restartInterval).setSettle
      ⟨false, 0⟩
    if d.powered then d1 else d1.startMain
  else d

/-- MAINS_RETURN (R4). -/
def execMainsReturn (s : State) : Host.Outcome State Fault Refusal := onDev mainsReturn s

/-- The settle timer reaches 3000 ms and the flag clears (R6). -/
def settleEnd (d : Dev) : Dev := if d.settle.flag then d.setSettle ⟨false, 0⟩ else d

/-- SETTLE_END (R6). -/
def execSettleEnd (s : State) : Host.Outcome State Fault Refusal := onDev settleEnd s

/-- The greatest confidence score and the seconds of one rise (R7). -/
def confidenceTop : Nat := 15
def intervalLength : Nat := 600

/-- The confidence interval counter has reached 600 s: the score rises by 1, up to 15, and the counter restarts (R7). -/
def confidenceRise (d : Dev) : Dev :=
  if d.bkd.powered && d.mainsPresent && intervalLength ≤ d.bkd.interval then
    d.setBkd { d.bkd with confidence := satAdd d.bkd.confidence 1 confidenceTop, interval := 0 }
  else d

/-- CONFIDENCE_RISE (R7). -/
def execConfidenceRise (s : State) : Host.Outcome State Fault Refusal := onDev confidenceRise s

end Sys2Proof.Machine
end

