-- ==== Sys2Proof/Machine/LinkPort.lean ====
section
/-! DEFINITION. The link port: the receiver, the checks before dispatch and the shapes of a refusal
(R162 to R166, R176). -/

namespace Sys2Proof.Machine

/-! ### The receiver (R163) -/

/-- The largest payload a frame can have (R163): "A length of 57 or more discards the frame". -/
def payloadTop : Nat := 56

/-- A frame that has only its sync byte. -/
def RxFrame.empty : RxFrame := ⟨none, none, [], 0⟩

/-- What one byte does to a receiver: its next state, or the completion of the frame. -/
inductive RxStep where
  | on (r : Receiver)
  | completed (type : Byte) (payload : List Byte)
deriving DecidableEq, Repr

/-- A byte with a valid stop bit in IN_FRAME: the length, the type, the payload bytes, the checksum byte (R163). -/
def RxFrame.take (f : RxFrame) (b : Byte) : RxStep :=
  match f.length, f.type with
  | none, _ => if payloadTop < b.toNat then .on .hunting else .on (.inFrame { f with length := some b, sum := b })
  | some _, none => .on (.inFrame { f with type := some b, sum := f.sum + b })
  | some n, some t =>
    if f.payload.length < n.toNat then .on (.inFrame { f with payload := f.payload ++ [b], sum := f.sum + b })
    else if f.sum + b = 0 then .completed t f.payload
    else .on .hunting

/-- A byte arrives (R163); one without a valid stop bit discards a partial frame and is ignored in HUNTING. -/
def Receiver.take (r : Receiver) (b : Byte) (badStop : Bool) : RxStep :=
  match r with
  | .hunting => if b = syncValue ∧ badStop = false then .on (.inFrame .empty) else .on .hunting
  | .inFrame f => if badStop then .on .hunting else f.take b

/-- What has arrived of a frame is the beginning of one with this type and payload: the bytes still to come can complete
it (R163). -/
def RxFrame.begins (f : RxFrame) (type : Byte) (payload : List Byte) : Bool :=
  match f.length, f.type with
  | none, none => f.payload.isEmpty
  | some n, none => n.toNat == payload.length && f.payload.isEmpty
  | some n, some t => n.toNat == payload.length && t == type && f.payload.isPrefixOf payload
  | none, some _ => false

/-- The receiver is in a frame that can complete with this type and payload. -/
def Receiver.begins (r : Receiver) (type : Byte) (payload : List Byte) : Bool :=
  match r with
  | .hunting => false
  | .inFrame f => f.begins type payload

/-- The receiver takes this state, at the arrival of a byte or at a discard. -/
def Dev.setReceiver (r : Receiver) (d : Dev) : Dev := d.setLink { d.link with receiver := r, gapMs := 0 }

/-! ### The checks of dispatch (R164) -/

/-- The places of the transmit list that are taken: "The room test of check 2 counts each owed deferred reply as a
place already taken" (R164). -/
def Link.taken (l : Link) : Nat := l.transmit.length + l.deferred.length

/-- How many replies the transmit list and the deferred table may owe together (R164, check 2). -/
def replyRoom : Nat := 10

/-- Checks 1 and 2 of R164: the frame is discarded without a reply. -/
def Link.drops (l : Link) : Bool := l.resetHold || replyRoom ≤ l.taken

/-- The pending count of a pocket, 0 where it has no working image (R170). -/
def Dev.pendingCount (d : Dev) (p : Pocket) : Nat :=
  match d.image.get p with
  | none => 0
  | some im => im.pending

/-- The pocket a payload names, past check 5. -/
def namedPocket (payload : List Byte) : Pocket :=
  match pocketOf payload with
  | some p => p
  | none => .a

/-- The payload of a refusal past check 5: the result, the pocket byte where the request names a pocket, and for a
REPORT past check 6 the pending count (R165, R170, R176). -/
def Dev.refusal (d : Dev) (q : Request) (payload : List Byte) (r : Result) : List Byte :=
  if q.namesPocket then
    pocketReply r (namedPocket payload)
      (if q = .report ∧ r ≠ .unknown then byte1 (d.pendingCount (namedPocket payload)) else [])
  else [r.byte]

/-- What the checks of R164 give for a request of a known type. -/
inductive Verdict where
  /-- Discarded without a reply. -/
  | discard
  /-- Answered with this payload; the owner is not reached. -/
  | refuse (payload : List Byte)
  /-- To its owner (check 9). -/
  | dispatch
deriving DecidableEq, Repr

/-- The deferred table already holds an entry of this type for this pocket (R164, check 8). -/
def Dev.duplicate (d : Dev) (q : Request) (payload : List Byte) : Bool :=
  q.deferrable && (d.owed q (if q.namesPocket then some (namedPocket payload) else none)).isSome

/-- Checks 1 to 8 of R164 for a request of a known type, in order. -/
def Dev.verdict (d : Dev) (q : Request) (payload : List Byte) : Verdict :=
  if d.link.drops then .discard
  else if !q.lengthOk payload then .refuse [Result.length.byte]
  else if q.namesPocket && (pocketOf payload).isNone then .refuse [Result.pocket.byte, pocketByte payload]
  else if !q.enumsOk payload then .refuse (d.refusal q payload .unknown)
  else if d.run != .run && q != .status then .refuse (d.refusal q payload .state)
  else if d.duplicate q payload then .refuse (d.refusal q payload .busy)
  else .dispatch

/-! ### Serving a request -/

/-- A frame with this type and payload completes: the main domain is powered, the payload is one a frame can carry, and
the frame is the one that the receiver is in (R163). -/
def Dev.hears (d : Dev) (type : Byte) (payload : List Byte) : Bool :=
  d.powered && payload.length ≤ payloadTop && d.link.receiver.begins type payload

/-- A completed frame of a known type is dispatched (R163, R164): the receiver hunts again, the checks are made in
order, and what passes them goes to its owner. -/
def Dev.serveRequest (q : Request) (payload : List Byte) (owner : Dev → Dev) (d : Dev) : Dev :=
  if d.hears q.typeByte payload then
    let d1 := d.setReceiver .hunting
    match d1.verdict q payload with
    | .discard => d1
    | .refuse r => d1.reply q r
    | .dispatch => owner d1
  else d

/-- A request that names a pocket, to the owner for that pocket. -/
def Dev.servePocket (q : Request) (payload : List Byte) (owner : Pocket → Dev → Dev) (d : Dev) : Dev :=
  d.serveRequest q payload (owner (namedPocket payload))

/-- A request of a row that stands for some values of the second payload byte only: a well-formed frame with a
defined value that is another row's is that row's command and not this one (log entry 2). -/
def Dev.serveRow (q : Request) (payload : List Byte) (mine : Nat → Bool) (owner : Pocket → Dev → Dev) (d : Dev) : Dev :=
  if q.lengthOk payload && q.enumsOk payload && !mine (secondByte payload) then d
  else d.servePocket q payload owner

/-- A refusal by the owner (R164, check 9). -/
def Dev.refuse (q : Request) (payload : List Byte) (r : Result) (d : Dev) : Dev := d.reply q (d.refusal q payload r)

/-- A reply of a taken request that names a pocket, with its figures. -/
def Dev.answer (q : Request) (p : Pocket) (r : Result) (figures : List Byte) (d : Dev) : Dev :=
  d.reply q (pocketReply r p figures)

end Sys2Proof.Machine
end

