-- ==== Sys2Proof/Machine/Array.lean ====
section
/-! DEFINITION. The retention array as memory: 33 pages of 128 bytes, kept as a canonical list (R79). -/

namespace Sys2Proof.Machine

/-- What an erased byte reads as: "An erase returns every byte of one page to the erased value, which reads as
all ones" (R79). It is what an unlisted address reads as. -/
def erasedByte : Byte := 0xFF

/-- Read one byte. -/
def Memory.read : Memory → Nat → Byte
  | [], _ => erasedByte
  | (k, v) :: m, a => if k = a then v else Memory.read m a

/-- Write one byte, keeping the canonical form: writing the erased value removes the entry. -/
def Memory.write : Memory → Nat → Byte → Memory
  | [], a, b => if b = erasedByte then [] else [(a, b)]
  | (k, v) :: m, a, b =>
    if a < k then if b = erasedByte then (k, v) :: m else (a, b) :: (k, v) :: m
    else if a = k then if b = erasedByte then m else (a, b) :: m
    else (k, v) :: Memory.write m a b

/-- The canonical form: addresses strictly rising, no erased byte listed. -/
def Memory.wf : Memory → Bool
  | [] => true
  | [(_, v)] => v != erasedByte
  | (k, v) :: (k', v') :: m => k < k' && v != erasedByte && Memory.wf ((k', v') :: m)

/-- Write bytes from an address upwards. -/
def Memory.writeBytes (m : Memory) (a : Nat) : List Byte → Memory
  | [] => m
  | b :: bs => Memory.writeBytes (m.write a b) (a + 1) bs

/-- The parameter page (R79). -/
def paramPage : Nat := 32

/-- The page of a slot: pages 0 to 15 for pocket A, 16 to 31 for pocket B (R79). -/
def slotPage (p : Pocket) (slot : Fin 16) : Nat := 16 * pocketIndex p + slot.val

/-- The first address of a page. -/
def pageBase (n : Nat) : Nat := pageSize * n

/-- The bytes of a page. -/
def Memory.page (m : Memory) (n : Nat) : List Byte :=
  (List.range pageSize).map fun i => m.read (pageBase n + i)

/-- Replace the bytes of a page. -/
def Memory.setPage (m : Memory) (n : Nat) (bytes : List Byte) : Memory :=
  m.writeBytes (pageBase n) (bytes.take pageSize)

/-! ### Writing over a stored page (R79) -/

/-- What writing `w` makes of a stored byte: "writing can turn an erased byte into any value, but it cannot return a
written byte to the erased value" (R79). Another value over a written byte is open, and not the erased one. -/
def writeOver (stored w : Byte) : Byte :=
  if stored = erasedByte ∨ w = stored then w
  else if w = erasedByte ∨ Config.openOverwrite stored w = erasedByte then stored
  else Config.openOverwrite stored w

/-- A page after these bytes are written over it from its start. The bytes past them are as stored, and those listed in
`damage` came out as listed there, a written byte never as erased (R79, R81). -/
def programmed (stored bytes : List Byte) (damage : List Host.Cell) : List Byte :=
  stored.mapIdx fun i b =>
    match damage.find? (fun c => c.1 == i) with
    | some c => if c.2 = erasedByte then b else c.2
    | none =>
      match bytes[i]? with
      | some w => writeOver b w
      | none => b

/-- The number of bytes in the array: 33 pages of 128 bytes (R79). -/
def arrayBytes : Nat := 33 * pageSize

/-- Read one byte of the array by its address; an address beyond the array faults. -/
def arrayByte (s : State) (a : Nat) : Except Fault Byte :=
  if a < arrayBytes then .ok (s.array.read a) else .error (.noSuchArrayByte a)

end Sys2Proof.Machine
end

