-- ==== Sys2Proof/Machine/Startup.lean ====
section
/-! DEFINITION. The STARTUP reads: PARAMETER_LOAD and SCAN_PAGE_READ (R105, R106, R175). -/

namespace Sys2Proof.Machine

/-- The sequence of STARTUP runs: the run state is STARTUP and the main domain is not held (R13, R19). -/
def Dev.starting (d : Dev) : Bool := d.run == .startup && !d.held

/-- The strict copies are taken from index 20 (R53). -/
def Dev.takeStrictCopies (d : Dev) : Dev :=
  let pr := d.link.params
  (d.setPsq .a { d.psq.get .a with strict := Params.strict pr .a }).setPsq .b { d.psq.get .b with strict := Params.strict pr .b }

/-- The restore samples of both pockets are under way once the load has completed: pocket A's begins now, and pocket
B's 50 ms later (R75). -/
def Dev.beginRestoreSamples (d : Dev) : Dev :=
  ((d.setSns .a { d.sns.get .a with sampling := .restore }).setSns .b { d.sns.get .b with sampling := .restore }).setAdc
    (((d.adc.dropSample .a).dropSample .b).requestThermistor .a)

/-- The read of page 32 completes (R175): the stored parameters, or the mask defaults with PARAM_DEFAULT; the strict
copies; then the scan and the restore samples begin (R105, R75). -/
def parameterLoad (page : List Byte) (d : Dev) : Dev :=
  if d.starting && !d.link.loaded then
    let d1 := match Params.ofPage page with
      | some pr => d.setLink { d.link with params := pr, loaded := true }
      | none => (d.setLink { d.link with params := maskDefaults, loaded := true }).raiseDevice .paramDefault
    (d1.takeStrictCopies.beginRestoreSamples).setScan ⟨.scanning, 0⟩
  else d

/-- PARAMETER_LOAD (R175). -/
def execParameterLoad (misread : List Host.Cell) (s : State) : Host.Outcome State Fault Refusal :=
  onDev (parameterLoad (overlay (s.array.page paramPage) misread)) s

/-! ### The scan (R105, R106) -/

/-- The page the scanner reads next: pocket A's slots 0 to 15, then pocket B's (R105). -/
def Dev.scanPocket (d : Dev) : Pocket := if (d.journal.get .a).map.length < 16 then .a else .b

/-- The number of that page in the array. -/
def Dev.scanPage (d : Dev) : Nat := (d.journal.get .a).map.length + (d.journal.get .b).map.length

/-- A page takes its class; after the last page the scan ends (R105), and STARTUP with it where the samples are
taken (R13). -/
def Dev.classPage (p : Pocket) (c : SlotClass) (d : Dev) : Dev :=
  let j := d.journal.get p
  let d1 := (d.setJournal p { j with map := j.map ++ [c] }).setScan ⟨.scanning, 0⟩
  if 16 ≤ (d1.journal.get .b).map.length then d1.endScan.endStartup else d1

/-- A scanner read completes (R106): a bad read is taken again, up to three reads in all, and the third leaves the
page TORN. -/
def scanPageRead (page : List Byte) (d : Dev) : Dev :=
  if d.starting && d.scan.state == .scanning then
    let p := d.scanPocket
    match classify p page with
    | .good c => d.classPage p c
    | .bad => if d.scan.badReads < 2 then d.setScan ⟨.scanning, d.scan.badReads + 1⟩ else d.classPage p .torn
  else d

/-- SCAN_PAGE_READ (R106). -/
def execScanPageRead (misread : List Host.Cell) (s : State) : Host.Outcome State Fault Refusal :=
  onDev (scanPageRead (overlay (s.array.page s.dev.scanPage) misread)) s

end Sys2Proof.Machine
end

