-- ==== Sys2Proof/Machine/ArrayRequests.lean ====
section
/-! DEFINITION. The array and parameter commands: FORMAT, PARAM_READ, PARAM_WRITE and PARAM_STORE (R97, R99, R172,
R174). -/

namespace Sys2Proof.Machine

/-! ### FORMAT (R99) -/

/-- FORMAT at the engine (R99): STATE, then BUSY, else the pocket's ERASE entries go, the entry is queued with next
slot 0, and its reply is owed. -/
def formatOwner (payload : List Byte) (p : Pocket) (d : Dev) : Dev :=
  let q := d.psq.get p
  if q.state != .vacant || q.mark.isSome then d.refuse .format payload .state
  else if d.anyEntry Work.isFormat then d.refuse .format payload .busy
  else
    (((d.keepEntries fun w => !w.isEraseOf p).enqueue (.format p 0 false)).defer ⟨.format, some p, false, 0⟩).select

/-- A completed frame: FORMAT (R99). -/
def hearFormat (payload : List Byte) : Dev → Dev :=
  Dev.servePocket .format payload (formatOwner payload)

/-- FORMAT (R99). -/
def execFormat (payload : List Byte) (s : State) : Host.Outcome State Fault Refusal := onDev (hearFormat payload) s

/-! ### Parameters (R174) -/

/-- The index a payload names, past check 6 of R164. -/
def paramIndex (payload : List Byte) : Fin 40 :=
  if h : (pocketByte payload).toNat < 40 then ⟨(pocketByte payload).toNat, h⟩ else 0

/-- The figures of a parameter reply: the index and the value now in force (R174). -/
def paramFigures (pr : Params) (i : Fin 40) : List Byte := byte1 i.val ++ wordBytes pr[i]

/-- PARAM_READ is answered at once in RUN (R174). -/
def paramReadOwner (payload : List Byte) (d : Dev) : Dev :=
  d.reply .paramRead (Result.ok.byte :: paramFigures d.link.params (paramIndex payload))

/-- A completed frame: PARAM_READ (R174). -/
def hearParamRead (payload : List Byte) : Dev → Dev :=
  Dev.serveRequest .paramRead payload (paramReadOwner payload)

/-- PARAM_READ (R174). -/
def execParamRead (payload : List Byte) (s : State) : Host.Outcome State Fault Refusal :=
  onDev (hearParamRead payload) s

/-- Both pockets are VACANT, "with or without a closing mark" (R174). -/
def Dev.bothVacant (d : Dev) : Bool := (d.psq.get .a).state == .vacant && (d.psq.get .b).state == .vacant

/-- The index of the strict bits and of the dip gap (Table 11-8). -/
def strictIndex : Fin 40 := 20
def dipGapIndex : Fin 40 := 21

/-- A new dip gap acts on the mains monitor at once (R5). -/
def Dev.applyDipGap (d : Dev) : Dev :=
  let m := d.bkd.monitor
  if m.absence < d.dipGap then d
  else
    match m.state with
    | .present => d.enterDip
    | .qualifying => d.abortQualifying
    | .dip => d
    | .absent => d

/-- A taken write acts on its readers (R174): index 20 on both strict copies (R53), index 21 on the monitor (R5). -/
def Dev.applyParam (i : Fin 40) (d : Dev) : Dev :=
  if i = strictIndex then d.takeStrictCopies else if i = dipGapIndex then d.applyDipGap else d

/-- PARAM_WRITE (R174): STATE unless both pockets are VACANT; else the clamped words are in force at once. -/
def paramWriteOwner (payload : List Byte) (d : Dev) : Dev :=
  if d.bothVacant then
    let i := paramIndex payload
    let w : Word := BitVec.ofNat 16 (fieldValue payload 1 2)
    let pr := Params.write d.link.params i w
    let r : Result := if Params.writeClamped d.link.params i w then .clamped else .ok
    ((d.setLink { d.link with params := pr }).applyParam i).reply .paramWrite (r.byte :: paramFigures pr i)
  else d.refuse .paramWrite payload .state

/-- A completed frame: PARAM_WRITE (R174). -/
def hearParamWrite (payload : List Byte) : Dev → Dev :=
  Dev.serveRequest .paramWrite payload (paramWriteOwner payload)

/-- PARAM_WRITE (R174). -/
def execParamWrite (payload : List Byte) (s : State) : Host.Outcome State Fault Refusal :=
  onDev (hearParamWrite payload) s

/-- PARAM_STORE (R97, R172): BUSY where the queue holds its one PARAM entry (R83), else it is queued and its reply is
owed. -/
def paramStoreOwner (payload : List Byte) (d : Dev) : Dev :=
  if d.anyEntry Work.isParam then d.refuse .paramStore payload .busy
  else ((d.enqueue (.param false)).defer ⟨.paramStore, none, false, 0⟩).select

/-- A completed frame: PARAM_STORE (R97). -/
def hearParamStore (payload : List Byte) : Dev → Dev :=
  Dev.serveRequest .paramStore payload (paramStoreOwner payload)

/-- PARAM_STORE (R97). -/
def execParamStore (payload : List Byte) (s : State) : Host.Outcome State Fault Refusal :=
  onDev (hearParamStore payload) s

end Sys2Proof.Machine
end

