-- ==== Sys2Proof/Machine/BackupDomain.lean ====
section
/-! DEFINITION. The backup domain commands: BACKUP_POWER_UP, BACKUP_COLLAPSE, BACKUP_TICK and DOOR_SAMPLE_MARK
(R20, R21, R23 to R28, R49). -/

namespace Sys2Proof.Machine

/-- The backup domain powers up, its items at the values of Table 2-1 (R20). A domain that runs has not risen to
V_BACKUP_MIN again. -/
def backupPowerUp (d : Dev) : Dev := if d.bkd.powered then d else d.setBkd .powerUp

/-- BACKUP_POWER_UP (R20). -/
def execBackupPowerUp (s : State) : Host.Outcome State Fault Refusal := onDev backupPowerUp s

/-! ### Collapse (R21, R81) -/

/-- A page whose write was cut off after `reached` bytes: "a write that is broken off leaves a prefix" (R80, R81), over
what the page held (R79). -/
def cutWrite (before bytes : List Byte) (reached : Nat) : List Byte := programmed before (bytes.take reached) []

/-- A page whose erase was cut off: at the offsets `kept` the byte is as before, elsewhere it is all ones (R81). -/
def cutErase (before : List Byte) (kept : List Nat) : List Byte :=
  before.mapIdx fun i b => if kept.contains i then b else erasedByte

/-- The parameter image as bytes (R178). -/
def imageBytes (ws : List Word) : List Byte := ws.flatMap wordBytes

/-- What a collapse leaves of the page an operation was working on (R21, R81, R98). A PARAM operation erases before
it writes: with no byte written yet it is an erase cut off. -/
def cutOperation (m : Memory) (reached : Nat) (kept : List Nat) : Option Operation → Memory
  | none => m
  | some (.write p slot snap seq _) =>
    m.setPage (slotPage p slot) (cutWrite (m.page (slotPage p slot)) (snap.record p seq).written reached)
  | some (.erase p slot _) => m.setPage (slotPage p slot) (cutErase (m.page (slotPage p slot)) kept)
  | some (.param ws _ _) =>
    if reached = 0 then m.setPage paramPage (cutErase (m.page paramPage) kept)
    else m.setPage paramPage (cutWrite (pageOf []) (imageBytes ws) reached)

/-- BACKUP_COLLAPSE (R20, R21): every backup item is lost, the main domain stops, and the operation in flight leaves
its page as it had reached it. -/
def execBackupCollapse (reached : Nat) (kept : List Nat) (s : State) : Host.Outcome State Fault Refusal :=
  if s.dev.bkd.powered then
    .next { s with
      array := cutOperation s.array reached kept s.dev.engine.inFlight
      dev := (s.dev.setBkd .collapsed).mainOff }
  else .next s

/-! ### The 1 s tick (R7, R23, R25, R65, R142, R154) -/

/-- The seconds one tick adds to the interval counter: in PRESENT only, and no further than its length (R7). -/
def Backup.tickInterval (b : Backup) : Nat :=
  if b.monitor.state = .present then satAdd b.interval 1 intervalLength else b.interval

/-- The backup domain at a tick: the timebase phase starts again, and the stall counters have the milliseconds to
this tick, each on its own phase (R23, R25; log entry 9). -/
def Backup.tick (b : Backup) : Backup :=
  { b with
    tickMs := 0
    interval := b.tickInterval
    facts := ⟨b.facts.a.elapse (1000 - b.tickMs), b.facts.b.elapse (1000 - b.tickMs)⟩ }

/-- A merge window that runs counts the tick (R65). -/
def Image.tick (im : Image) : Image := { im with window := im.window.map (· + 1) }

/-- A tumble timer's position counts the tick: in BURST toward on, in REST toward period (R154). The burst end and
the period boundary are commands of their own, so a position waits there for them (log entry 10). -/
def Tumbler.tick (t : Tumbler) : Tumbler :=
  match t.state, t.active with
  | .burst, some g => { t with position := min g.on (t.position + 1) }
  | .rest, some g => { t with position := min g.period (t.position + 1) }
  | _, _ => t

/-- The greatest stagger elapsed count (R140). -/
def staggerTop : Nat := 255

/-- The main-domain timers counted in seconds (R23). -/
def Dev.tickMain (d : Dev) : Dev :=
  (((d.modImage .a Image.tick).modImage .b Image.tick).mapTumblers Tumbler.tick).setArbiter
    { d.arbiter with stagger := satAdd d.arbiter.stagger 1 staggerTop }

/-- A 1 s tick of the backup timebase (R23). -/
def backupTick (d : Dev) : Dev :=
  if d.bkd.powered then
    let d1 := d.setBkd d.bkd.tick
    if d1.powered then d1.tickMain else d1
  else d

/-- BACKUP_TICK (R23). -/
def execBackupTick (s : State) : Host.Outcome State Fault Refusal := onDev backupTick s

/-! ### The 250 ms sample mark (R28, R49) -/

/-- Whether the sample sets a pocket's latch: it is watched, its door reads open and D is clear. -/
def Dev.latches (d : Dev) (p : Pocket) : Bool :=
  (d.bkd.facts.get p).stallRunning && d.pins.doorOpen.get p && !(d.bkd.facts.get p).latch

/-- A latch setting reaches the sequencer in RUN: a PLANNED or WAITSTART pocket without a mark is recomputed,
otherwise the report is disregarded (R28, R49). -/
def Dev.latchReport (p : Pocket) (d : Dev) : Dev :=
  if d.run == .run && (d.psq.get p).state.waiting && (d.psq.get p).mark.isNone then d.recompute p else d

/-- One pocket at a sample mark (R28). -/
def Dev.sampleDoor (p : Pocket) (d : Dev) : Dev :=
  if d.latches p then (d.setFacts p { d.bkd.facts.get p with latch := true }).latchReport p else d

/-- A 250 ms sample mark (R28). -/
def doorSampleMark (d : Dev) : Dev :=
  if d.bkd.powered then ((d.sampleDoor .a).sampleDoor .b).select else d

/-- DOOR_SAMPLE_MARK (R28). -/
def execDoorSampleMark (s : State) : Host.Outcome State Fault Refusal := onDev doorSampleMark s

end Sys2Proof.Machine
end

