-- ==== Sys2Proof/Machine/CycleRequests.lean ====
section
/-! DEFINITION. The cycle commands: START, REPORT, CHECKPOINT, END and GUARD (R33 to R37, R58 to R62, R72, R157). -/

namespace Sys2Proof.Machine

/-! ### START (R33, R34, R58) -/

/-- The figures a START request carries, or takes from the default guard parameters (R33, step 3; Table 11-4). -/
structure StartFigures where
  program : Nat
  heat : Nat
  cool : Nat
  guard : GuardProgram
deriving DecidableEq, Repr

/-- The figures as the request gives them. -/
def startFigures (pr : Params) (payload : List Byte) : StartFigures where
  program := fieldValue payload 1 1
  heat := fieldValue payload 2 2
  cool := fieldValue payload 4 2
  guard := if payload.length = 11 then guardOfBytes payload 6 else Params.defaultGuard pr

/-- The figures clamped to their ranges (R58, R60, R152). -/
def StartFigures.clamp (f : StartFigures) : StartFigures :=
  ⟨min f.program 63, min f.heat 14400, min f.cool 3600, clampGuard f.guard⟩

/-- The exhaust temperature a new image starts from (R58): the published one, else that of the most recent in-range
sample; with neither it is open (log entry 7). -/
def Dev.startTemperature (d : Dev) (p : Pocket) : Int :=
  match (d.sns.get p).published, (d.sns.get p).lastInRange with
  | some t, _ => t
  | none, some t => t
  | none, none => Config.openTemperature (d.freeCount + 1)

/-- The image of an accepted START (R58). -/
def startImage (f : StartFigures) (t : Int) (cycle : Nat) : Image where
  body :=
    { phase := .drying, program := f.program, heat := f.heat, cool := f.cool, stage := 0, moisture := 0, energy := 0,
      runTime := 0, exhaustLast := t, exhaustPeak := t, outages := 0, guard := f.guard, burstsLeft := f.guard.bursts }
  cycle := cycle
  pending := 0
  dirty := true
  window := some 0
  commit := .none
  recommit := none
  closeReason := none
  exhaustRef := t
  resume := none

/-- What an accepted START does, in the order of R33; its reply is deferred to the first completion (R34). -/
def Dev.acceptStart (p : Pocket) (payload : List Byte) (d : Dev) : Dev :=
  let raw := startFigures d.link.params payload
  let cycle := nextCycle (d.ring.get p).lastCycle
  let t := d.startTemperature p
  let d1 := (d.setPsq p { d.psq.get p with advisory := .empty }).setPlan p none
  let d2 := (d1.setJournal p { d1.journal.get p with basis := none }).setFreeCount (d.freeCount + 1)
  let d3 := (d2.setImage p (some (startImage raw.clamp t cycle))).setRing p { d2.ring.get p with lastCycle := cycle }
  let d4 := d3.trigger p .start none
  (d4.setPsq p { d4.psq.get p with state := .drying, startKind := .warm }).defer ⟨.start, some p, raw.clamp != raw, 0⟩

/-- START at the pocket sequencer (R33): STATE, then BUSY, then FAULTED, else accepted. -/
def startOwner (payload : List Byte) (p : Pocket) (d : Dev) : Dev :=
  let q := d.psq.get p
  if q.state != .vacant || q.mark.isSome then d.refuse .start payload .state
  else if d.anyEntry (Work.isFormatOf p) then d.refuse .start payload .busy
  else if q.blocked then d.refuse .start payload .faulted
  else (d.acceptStart p payload).select

/-- A completed frame: START (R33). -/
def hearStart (payload : List Byte) : Dev → Dev :=
  Dev.servePocket .start payload (startOwner payload)

/-- START (R33). -/
def execStart (payload : List Byte) (s : State) : Host.Outcome State Fault Refusal := onDev (hearStart payload) s

/-! ### REPORT (R35, R60 to R62) -/

/-- What the phase field of a report asks for (R35): no move, a move to a phase, or an illegal move. -/
inductive PhaseCheck where
  | stay
  | move (phase : Phase)
  | illegal
deriving DecidableEq, Repr

/-- The phase check of R35, from the pocket state and the phase field. -/
def phaseCheck (state : PocketState) (field : Option Nat) : PhaseCheck :=
  match field.bind phaseOfCode with
  | none => .stay
  | some ph =>
    if ph.pocketState = state then .stay
    else
      match state, ph with
      | .drying, .cooling => .move .cooling
      | .cooling, .anticrease => .move .anticrease
      | _, _ => .illegal

/-- The value of a named REPLACE field up to its maximum, or the old value (R60). -/
def replaced (old top : Nat) : Option Nat → Nat
  | none => old
  | some v => min v top

/-- The value of an ADD field after a named increment (R60). -/
def added (old : Nat) : Option Nat → Nat
  | none => old
  | some v => satAdd old v 65535

/-- The body with every named field merged under its class (R60, R61 step 1). -/
def mergeReport (payload : List Byte) (b : Body) : Body :=
  { b with
    heat := replaced b.heat 14400 (reportField payload 1)
    cool := replaced b.cool 3600 (reportField payload 2)
    stage := replaced b.stage 2 (reportField payload 3)
    moisture := replaced b.moisture 255 (reportField payload 4)
    energy := added b.energy (reportField payload 5)
    runTime := added b.runTime (reportField payload 6) }

/-- A named value lies above this bound. -/
def exceeds (top : Nat) : Option Nat → Bool
  | none => false
  | some v => top < v

/-- "any named REPLACE value was clamped or any ADD field stopped at 65535" (R61). -/
def reportClamped (payload : List Byte) (b : Body) : Bool :=
  exceeds 14400 (reportField payload 1) || exceeds 3600 (reportField payload 2) || exceeds 2 (reportField payload 3) ||
  exceeds (65535 - b.energy) (reportField payload 5) || exceeds (65535 - b.runTime) (reportField payload 6)

/-- The greatest pending count (R62). -/
def pendingTop : Nat := 15

/-- The image after steps 1 to 3 of R61. -/
def Image.report (journalFailed : Bool) (payload : List Byte) (im : Image) : Image :=
  Image.soil journalFailed { im with body := mergeReport payload im.body, pending := im.pending + 1 }

/-- A pocket moves to a phase by a report (R35, R36, R61 step 4): the state and the image's phase change, a PHASE
trigger is given, and ANTICREASE begins a full course of the image's program (R153). -/
def Dev.movePhase (p : Pocket) (ph : Phase) (d : Dev) : Dev :=
  let d1 := (d.setPsq p { d.psq.get p with state := ph.pocketState }).modImage p fun im =>
    { im with body := { im.body with phase := ph } }
  let d2 := d1.trigger p .phase none
  match ph, d2.image.get p with
  | .anticrease, some im =>
    if (d2.psq.get p).doorOpen then d2.decideClosure p .door
    else
      (d2.startTumbler p im.body.guard im.body.guard.bursts).writeBody p fun b => { b with burstsLeft := b.guard.bursts }
  | _, _ => d2

/-- A taken report (R61): the merge, the phase move, and the PROGRESS trigger at the pending limit. -/
def Dev.takeReport (p : Pocket) (payload : List Byte) (check : PhaseCheck) (im : Image) (d : Dev) : Dev :=
  let im1 := im.report (d.journalFailed p) payload
  let d1 := d.setImage p (some im1)
  let d2 := match check with
    | .move ph => d1.movePhase p ph
    | .stay => d1
    | .illegal => d1
  if im1.pending = pendingTop then d2.trigger p .progress none else d2

/-- REPORT at the sequencer and the merge unit (R35, R62): STATE, then ORDER, then BUSY, else taken. The reply carries
the count after the report, before the engine selects. -/
def reportOwner (payload : List Byte) (p : Pocket) (d : Dev) : Dev :=
  let q := d.psq.get p
  match q.open, d.image.get p with
  | true, some im =>
    let check := phaseCheck q.state (reportField payload 0)
    if check = .illegal then d.refuse .report payload .order
    else if pendingTop ≤ im.pending then d.refuse .report payload .busy
    else
      let d1 := d.takeReport p payload check im
      (d1.answer .report p (if reportClamped payload im.body then .clamped else .ok) (byte1 (d1.pendingCount p))).select
  | _, _ => d.refuse .report payload .state

/-- A completed frame: REPORT (R61). -/
def hearReport (payload : List Byte) : Dev → Dev :=
  Dev.servePocket .report payload (reportOwner payload)

/-- REPORT (R61). -/
def execReport (payload : List Byte) (s : State) : Host.Outcome State Fault Refusal := onDev (hearReport payload) s

/-! ### CHECKPOINT (R72) -/

/-- The reply to a CHECKPOINT of a clean image: the sequence number of the newest completed record (R72). -/
def Dev.answerClean (p : Pocket) (d : Dev) : Dev :=
  match (d.ring.get p).newest with
  | some w => d.answer .checkpoint p .ok (wordBytes w)
  | none => (d.answer .checkpoint p .ok (wordBytes (Config.openSequence (2 * d.freeCount)))).setFreeCount (d.freeCount + 1)

/-- The CHECKPOINT reply is owed, to the completion after `after` others (R72). -/
def Dev.deferCheckpoint (p : Pocket) (after : Nat) (d : Dev) : Dev := d.defer ⟨.checkpoint, some p, false, after⟩

/-- CHECKPOINT at the sequencer and the merge unit (R72), by the image's condition. -/
def checkpointOwner (payload : List Byte) (p : Pocket) (d : Dev) : Dev :=
  match (d.psq.get p).open, d.image.get p with
  | true, some im =>
    if d.journalFailed p then d.answer .checkpoint p .faulted []
    else
      match im.commit, im.dirty with
      | .none, false => d.answerClean p
      | .none, true => ((d.trigger p .progress none).deferCheckpoint p 0).select
      | .queued _, _ => d.deferCheckpoint p 0
      | .inFlight _, false => d.deferCheckpoint p 0
      | .inFlight _, true => (d.trigger p .progress none).deferCheckpoint p 1
  | _, _ => d.refuse .checkpoint payload .state

/-- A completed frame: CHECKPOINT (R72). -/
def hearCheckpoint (payload : List Byte) : Dev → Dev :=
  Dev.servePocket .checkpoint payload (checkpointOwner payload)

/-- CHECKPOINT (R72). -/
def execCheckpoint (payload : List Byte) (s : State) : Host.Outcome State Fault Refusal :=
  onDev (hearCheckpoint payload) s

/-! ### END (R37) -/

/-- A taken END: under JOURNAL_FAIL the closure has taken effect and the reply is FAULTED at once; otherwise it is
owed (R37, R169). -/
def Dev.replyEnd (p : Pocket) (journalFailed : Bool) (d : Dev) : Dev :=
  if journalFailed then d.answer .endCycle p .faulted [] else d.defer ⟨.endCycle, some p, false, 0⟩

/-- END at the sequencer (R37). -/
def endOwner (payload : List Byte) (p : Pocket) (d : Dev) : Dev :=
  let q := d.psq.get p
  if q.mark.isSome then
    d.refuse .endCycle payload (if (d.owed .endCycle (some p)).isSome then .busy else .state)
  else if q.state.active then ((d.decideClosure p .ended).replyEnd p (d.journalFailed p)).select
  else if q.state.waiting then ((d.closeWaiting p .discarded).replyEnd p (d.journalFailed p)).select
  else d.refuse .endCycle payload .state

/-- A completed frame: END (R37). -/
def hearEndCycle (payload : List Byte) : Dev → Dev :=
  Dev.servePocket .endCycle payload (endOwner payload)

/-- END (R37). -/
def execEndCycle (payload : List Byte) (s : State) : Host.Outcome State Fault Refusal := onDev (hearEndCycle payload) s

/-! ### GUARD (R157) -/

/-- An admitted GUARD: into the image in DRYING and COOLING, staged in the timer in ANTICREASE (R157). -/
def Dev.takeGuard (p : Pocket) (g : GuardProgram) (d : Dev) : Dev :=
  if (d.psq.get p).state = .anticrease then d.setTmb p { d.tmb.get p with staged := some g }
  else d.writeBody p fun b => { b with guard := g }

/-- GUARD at the sequencer (R157): clamped under R152, the reply carrying the program as clamped. -/
def guardOwner (payload : List Byte) (p : Pocket) (d : Dev) : Dev :=
  if (d.psq.get p).open then
    let raw := guardOfBytes payload 1
    let g := clampGuard raw
    (d.takeGuard p g).answer .guard p (if g = raw then .ok else .clamped) (guardBytes g)
  else d.refuse .guard payload .state

/-- A completed frame: GUARD (R157). -/
def hearGuard (payload : List Byte) : Dev → Dev :=
  Dev.servePocket .guard payload (guardOwner payload)

/-- GUARD (R157). -/
def execGuard (payload : List Byte) (s : State) : Host.Outcome State Fault Refusal := onDev (hearGuard payload) s

end Sys2Proof.Machine
end

