-- ==== Sys2Proof/Machine/Doors.lean ====
section
/-! DEFINITION. The door input commands: DOOR_INPUT_CHANGE and DOOR_DEBOUNCE (R47, R48, R156). -/

namespace Sys2Proof.Machine

/-- The raw input changes and its hold starts again (R47). MOTOR_RUN_x follows the raw level at once (R156). A level
the input already has is no change. -/
def doorInputChange (p : Pocket) (isOpen : Bool) (d : Dev) : Dev :=
  if d.pins.doorOpen.get p = isOpen then d
  else
    (d.setPins { d.pins with doorOpen := d.pins.doorOpen.set p isOpen }).setPsq p { d.psq.get p with doorHoldMs := 0 }

/-- DOOR_INPUT_CHANGE (R156). -/
def execDoorInputChange (p : Pocket) (isOpen : Bool) (s : State) : Host.Outcome State Fault Refusal :=
  onDev (doorInputChange p isOpen) s

/-- The reading changes to OPEN in ANTICREASE without a mark: the pocket is closed with reason DOOR (R48). In every
other state there is no action (R47). -/
def Dev.doorOpened (p : Pocket) (d : Dev) : Dev :=
  let q := d.psq.get p
  if q.state == .anticrease && q.mark.isNone && q.doorOpen then (d.decideClosure p .door).select else d

/-- The raw level has held for 50 ms and differs from the reading, which takes it (R47). -/
def doorDebounce (p : Pocket) (d : Dev) : Dev :=
  if d.powered && d.pins.doorOpen.get p != (d.psq.get p).doorOpen then
    (d.setPsq p { d.psq.get p with doorOpen := d.pins.doorOpen.get p }).doorOpened p
  else d

/-- DOOR_DEBOUNCE (R47). -/
def execDoorDebounce (p : Pocket) (s : State) : Host.Outcome State Fault Refusal := onDev (doorDebounce p) s

end Sys2Proof.Machine
end

