-- ==== Sys2Proof/Machine/ResumeRequests.lean ====
section
/-! DEFINITION. The plan, resumption, fault and history commands: PLAN, RESUME, CLEAR and HISTORY (R44, R54, R55,
R117, R133 to R138). -/

namespace Sys2Proof.Machine

/-! ### PLAN (R138) -/

/-- The fields of a plan record as the PLAN reply carries them (Table 11-5). The tables give the flags D and stale no code:
1 for set and 0 for clear are the model's choice (log entry 41). -/
def planBytes (pl : Plan) : List Byte :=
  byte1 pl.outcome.code ++ byte1 pl.reason.code ++ wordBytes pl.basisSeq ++ byte1 pl.basisPhase.code ++
  leBytes 3 pl.stall ++ byte1 (bit pl.latch) ++ byte1 pl.outages ++ tempOrAbsentBytes pl.tNow ++ tempBytes pl.tLast ++
  leBytes 2 pl.heat ++ leBytes 2 pl.cool ++ byte1 pl.bursts ++ guardBytes pl.guard ++ byte1 (bit pl.stale)

/-- The figures of a PLAN reply: present or not, and the record when present (R138). -/
def planFigures : Option Plan → List Byte
  | none => byte1 0
  | some pl => byte1 1 ++ planBytes pl

/-- PLAN is answered at once from the plan record (R138). -/
def planOwner (p : Pocket) (d : Dev) : Dev := d.answer .plan p .ok (planFigures (d.plan.get p))

/-- A completed frame: PLAN (R138). -/
def hearPlan (payload : List Byte) : Dev → Dev :=
  Dev.servePocket .plan payload planOwner

/-- PLAN (R138). -/
def execPlan (payload : List Byte) (s : State) : Host.Outcome State Fault Refusal := onDev (hearPlan payload) s

/-! ### RESUME (R44, R133 to R136) -/

/-- The codes of the RESUME choices (Table 11-2). -/
def acceptCode : Nat := 0
def reheatCode : Nat := 1
def coolCode : Nat := 2
def guardCode : Nat := 3
def closeCode : Nat := 4

/-- The choice a named outcome gives where it is not the plan's own (R135, R136): none for REHEAT and CLOSE, which
compute no figures of their own. -/
def namedChoice (pr : Params) (pl : Plan) (b : Body) : ResumeOutcome → Option Choice
  | .cool => some (coolChoice pr pl b)
  | .guard => some (guardChoice b)
  | .reheat => none
  | .close => none
  | .hold => none

/-- What a RESUME choice comes to against a plan (R133, R134). -/
inductive ResumeVerdict where
  | refused (r : Result)
  | taken (c : Choice)
  | closed
deriving DecidableEq, Repr

/-- ACCEPT (R133): a REHEAT or COOL plan is taken with its own figures; a HOLD plan has nothing to accept. -/
def acceptVerdict (pl : Plan) : ResumeVerdict :=
  match pl.outcome with
  | .reheat => .taken (choiceOfPlan pl)
  | .cool => .taken (choiceOfPlan pl)
  | .hold => .refused .state
  | .guard => .refused .state
  | .close => .refused .state

/-- A named outcome is at least as conservative as the plan's; against HOLD, any but REHEAT (R134, Table 7-6). -/
def conservative (named plan : ResumeOutcome) : Bool :=
  if plan = .hold then named != .reheat else plan.code ≤ named.code

/-- A named outcome against a plan (R134, Table 7-6). -/
def namedVerdict (pr : Params) (pl : Plan) (b : Body) (named : ResumeOutcome) : ResumeVerdict :=
  if named = pl.outcome then acceptVerdict pl
  else if !conservative named pl.outcome then .refused .order
  else
    match namedChoice pr pl b named with
    | some c => .taken c
    | none => .closed

/-- A taken choice (R44): WAITSTART; REHEAT joins the tail of the grant queue (R141), COOL and GUARD are tested for
their start condition at the entry (R139). -/
def Dev.takeChoice (p : Pocket) (c : Choice) (d : Dev) : Dev :=
  let d1 := d.setPsq p { d.psq.get p with state := .waitstart, choice := some c }
  if c.outcome = .reheat then d1.setArbiter { d1.arbiter with queue := d1.arbiter.queue ++ [p] }
  else d1.startTest p

/-- RESUME at the sequencer (R44), with what the choice comes to against the plan and the basis. -/
def resumeOwner (payload : List Byte) (choose : Params → Plan → Body → ResumeVerdict) (p : Pocket) (d : Dev) : Dev :=
  let q := d.psq.get p
  if q.state == .planned && q.mark.isNone then
    match d.plan.get p, (d.journal.get p).basis with
    | some pl, some b =>
      match choose d.link.params pl b.record.body with
      | .refused r => d.refuse .resume payload r
      | .taken c => ((d.takeChoice p c).answer .resume p .ok []).select
      | .closed => ((d.closeWaiting p .discarded).answer .resume p .ok []).select
    | _, _ => d.refuse .resume payload .state
  else d.refuse .resume payload .state

/-- A completed frame: RESUME with choice ACCEPT (R133). -/
def hearResumeAccept (payload : List Byte) : Dev → Dev :=
  Dev.serveRow .resume payload (· == acceptCode) (resumeOwner payload fun _ pl _ => acceptVerdict pl)

/-- RESUME with choice ACCEPT (R133). -/
def execResumeAccept (payload : List Byte) (s : State) : Host.Outcome State Fault Refusal :=
  onDev (hearResumeAccept payload) s

/-- A completed frame: RESUME naming REHEAT (R134). -/
def hearResumeReheat (payload : List Byte) : Dev → Dev :=
  Dev.serveRow .resume payload (· == reheatCode) (resumeOwner payload fun pr pl b => namedVerdict pr pl b .reheat)

/-- RESUME naming REHEAT (R134). -/
def execResumeReheat (payload : List Byte) (s : State) : Host.Outcome State Fault Refusal :=
  onDev (hearResumeReheat payload) s

/-- A completed frame: RESUME naming COOL (R135). -/
def hearResumeCool (payload : List Byte) : Dev → Dev :=
  Dev.serveRow .resume payload (· == coolCode) (resumeOwner payload fun pr pl b => namedVerdict pr pl b .cool)

/-- RESUME naming COOL (R135). -/
def execResumeCool (payload : List Byte) (s : State) : Host.Outcome State Fault Refusal :=
  onDev (hearResumeCool payload) s

/-- A completed frame: RESUME naming GUARD (R136). -/
def hearResumeGuard (payload : List Byte) : Dev → Dev :=
  Dev.serveRow .resume payload (· == guardCode) (resumeOwner payload fun pr pl b => namedVerdict pr pl b .guard)

/-- RESUME naming GUARD (R136). -/
def execResumeGuard (payload : List Byte) (s : State) : Host.Outcome State Fault Refusal :=
  onDev (hearResumeGuard payload) s

/-- A completed frame: RESUME naming CLOSE (R136). -/
def hearResumeClose (payload : List Byte) : Dev → Dev :=
  Dev.serveRow .resume payload (· == closeCode) (resumeOwner payload fun pr pl b => namedVerdict pr pl b .close)

/-- RESUME naming CLOSE (R136). -/
def execResumeClose (payload : List Byte) (s : State) : Host.Outcome State Fault Refusal :=
  onDev (hearResumeClose payload) s

/-! ### CLEAR (R54, R55) -/

/-- After a CLEAR that removed a fault, a pocket that is PLANNED without a mark is recomputed (R54, R55). -/
def Dev.replanAfterClear (p : Pocket) (removed : Bool) (d : Dev) : Dev :=
  let q := d.psq.get p
  if removed && q.state == .planned && q.mark.isNone then d.recompute p else d

/-- A CLEAR is taken: the set is changed, the recomputation completes, and then the reply is formed (R171). -/
def Dev.takeClear (p : Pocket) (q : Sequencer) (removed : Bool) (d : Dev) : Dev :=
  ((((d.setPsq p q).replanAfterClear p removed)).answer .clear p .ok []).select

/-- CLEAR of all advisory faults (R54). -/
def clearAllOwner (p : Pocket) (d : Dev) : Dev :=
  let q := d.psq.get p
  d.takeClear p { q with advisory := .empty } q.advised

/-- A completed frame: CLEAR of all advisory faults (R54). -/
def hearClearAllAdvisory (payload : List Byte) : Dev → Dev :=
  Dev.serveRow .clear payload (· == clearAllCode) clearAllOwner

/-- CLEAR of all advisory faults (R54). -/
def execClearAllAdvisory (payload : List Byte) (s : State) : Host.Outcome State Fault Refusal :=
  onDev (hearClearAllAdvisory payload) s

/-- The advisory fault a target code names. -/
def advisoryTarget (n : Nat) : Option PocketFault := (PocketFault.ofCode n).filter PocketFault.isAdvisory

/-- The blocking fault a target code names. -/
def blockingTarget (n : Nat) : Option PocketFault := (PocketFault.ofCode n).filter fun f => !f.isAdvisory

/-- CLEAR naming one advisory fault (R54). -/
def clearAdvisoryOwner (payload : List Byte) (p : Pocket) (d : Dev) : Dev :=
  match advisoryTarget (secondByte payload) with
  | none => d
  | some f => d.takeClear p ((d.psq.get p).put f false) ((d.psq.get p).has f)

/-- A completed frame: CLEAR naming one advisory fault (R54). -/
def hearClearAdvisoryFault (payload : List Byte) : Dev → Dev :=
  Dev.serveRow .clear payload (fun n => (advisoryTarget n).isSome) (clearAdvisoryOwner payload)

/-- CLEAR naming one advisory fault (R54). -/
def execClearAdvisoryFault (payload : List Byte) (s : State) : Host.Outcome State Fault Refusal :=
  onDev (hearClearAdvisoryFault payload) s

/-- The pocket states in which a blocking fault may be cleared (R55). -/
def Sequencer.mayClear (q : Sequencer) (f : PocketFault) : Bool :=
  q.state == .vacant || (f != .journalFail && q.state == .planned && q.mark.isNone)

/-- The condition of a blocking fault has gone (R55): only THERMAL and SENSOR are tested, against what the SNS keeps
(R73). -/
def Dev.conditionGone (d : Dev) (p : Pocket) (f : PocketFault) : Bool :=
  match f with
  | .thermal => (d.sns.get p).lastInRange.any fun t => t < Params.tLimit d.link.params
  | .sensor => (d.sns.get p).recent.any fun x => x.2
  | .journalFail => true
  | .ringCorrupt => true
  | .tornTail => true
  | .staleBasis => true
  | .writeRetry => true

/-- CLEAR naming a blocking fault (R55). -/
def clearBlockingOwner (payload : List Byte) (p : Pocket) (d : Dev) : Dev :=
  let q := d.psq.get p
  match blockingTarget (secondByte payload) with
  | none => d
  | some f =>
    if !q.mayClear f then d.refuse .clear payload .state
    else if !q.has f then d.answer .clear p .ok []
    else if !d.conditionGone p f then d.refuse .clear payload .faulted
    else d.takeClear p (q.put f false) true

/-- A completed frame: CLEAR naming a blocking fault (R55). -/
def hearClearBlockingFault (payload : List Byte) : Dev → Dev :=
  Dev.serveRow .clear payload (fun n => (blockingTarget n).isSome) (clearBlockingOwner payload)

/-- CLEAR naming a blocking fault (R55). -/
def execClearBlockingFault (payload : List Byte) (s : State) : Host.Outcome State Fault Refusal :=
  onDev (hearClearBlockingFault payload) s

/-! ### HISTORY (R117) -/

/-- The figures of a HISTORY reply: k, present or not, and the record's bytes (Table 11-5). -/
def historyFigures (k : Nat) : Option Record → List Byte
  | none => byte1 k ++ byte1 0
  | some r => byte1 k ++ byte1 1 ++ r.bytes

/-- HISTORY is answered at once from the history list (R117). -/
def historyOwner (payload : List Byte) (p : Pocket) (d : Dev) : Dev :=
  d.answer .history p .ok (historyFigures (secondByte payload) (d.journal.get p).history[secondByte payload]?)

/-- A completed frame: HISTORY (R117). -/
def hearHistory (payload : List Byte) : Dev → Dev :=
  Dev.servePocket .history payload (historyOwner payload)

/-- HISTORY (R117). -/
def execHistory (payload : List Byte) (s : State) : Host.Outcome State Fault Refusal := onDev (hearHistory payload) s

end Sys2Proof.Machine
end

