-- ==== Sys2Proof/Machine/StatusRequest.lean ====
section
/-! DEFINITION. The STATUS command and its 46-byte reply (R168, Table 11-6). -/

namespace Sys2Proof.Machine

/-- A flag at a bit position. -/
def bitAt (b : Bool) (i : Nat) : Nat := bit b * 2 ^ i

/-- Bits 0 and 1 mains state, bit 2 settle, bit 3 mode. -/
def Dev.mainsByte (d : Dev) : Nat :=
  d.bkd.monitor.state.code + bitAt d.settle.flag 2 + bitAt (!d.steady) 3

/-- Bit 0 ready, bits 1 to 3 the device faults, bit 4 engine BUSY. -/
def Dev.deviceByte (d : Dev) : Nat :=
  bitAt d.reserve.ready 0 + bitAt d.faults.paramDefault 1 + bitAt d.faults.reserveLow 2 + bitAt d.faults.coldStart 3 +
  bitAt d.engine.inFlight.isSome 4

/-- The attention causes, bits 0 to 3. -/
def Attention.byte (a : Attention) : Nat :=
  bitAt a.planReady 0 + bitAt a.closed 1 + bitAt a.fault 2 + bitAt a.supply 3

/-- A place of the grant queue: 0 A, 1 B, 3 empty. -/
def grantCode : Option Pocket → Nat
  | some p => pocketIndex p
  | none => 3

/-- Bits 0 and 1 the head, bits 2 and 3 the second. -/
def Arbiter.byte (a : Arbiter) : Nat := grantCode a.queue[0]? + 4 * grantCode a.queue[1]?

/-- Offsets 0 to 11. -/
def Dev.statusDevice (d : Dev) : List Byte :=
  [Result.ok.byte] ++ byte1 d.run.code ++ byte1 d.mainsByte ++ byte1 d.bkd.confidence ++ leBytes 2 d.reserve.level ++
  byte1 d.deviceByte ++ byte1 d.link.attention.byte ++ byte1 d.engine.queue.length ++ byte1 d.arbiter.byte ++
  byte1 d.arbiter.stagger ++ byte1 d.staggerLength

/-- Offset +2: the flags of a pocket. -/
def Dev.pocketFlags (d : Dev) (p : Pocket) : Nat :=
  bitAt (d.psq.get p).doorOpen 0 + bitAt (d.bkd.facts.get p).suspended 1 + bitAt (d.bkd.facts.get p).latch 2 +
  bitAt (d.image.get p).isSome 3 + bitAt ((d.image.get p).any fun im => im.dirty) 4 +
  bitAt (d.tmb.get p).staged.isSome 5 + bitAt (d.motorRun p) 6 + bitAt (d.motorRev p) 7

/-- Offset +3: the fault sets, by the fault bits of Table 11-2. -/
def Sequencer.faultByte (q : Sequencer) : Nat :=
  bitAt q.advisory.tornTail 0 + bitAt q.advisory.staleBasis 1 + bitAt q.advisory.writeRetry 2 +
  bitAt q.blocking.journalFail 3 + bitAt q.blocking.ringCorrupt 4 + bitAt q.blocking.thermal 5 + bitAt q.blocking.sensor 6

/-- Offsets +15 and +16: the newest completed sequence; with none the spec states no value (log entry 7). -/
def Dev.newestField (d : Dev) (p : Pocket) : List Byte :=
  match (d.ring.get p).newest with
  | some w => wordBytes w
  | none => wordBytes (Config.openSequence (2 * d.freeCount + pocketIndex p))

/-- The 17 bytes of a pocket. -/
def Dev.statusPocket (d : Dev) (p : Pocket) : List Byte :=
  byte1 (d.psq.get p).state.code ++ byte1 (markCode (d.psq.get p).mark) ++ byte1 (d.pocketFlags p) ++
  byte1 (d.psq.get p).faultByte ++ leBytes 3 (d.bkd.facts.get p).stall ++ byte1 (d.bkd.facts.get p).losses ++
  byte1 (d.pendingCount p) ++ tempOrAbsentBytes (d.sns.get p).published ++
  byte1 ((d.tmb.get p).state.code + bitAt (d.ring.get p).newest.isSome 7) ++ byte1 (d.tmb.get p).burstsLeft ++
  leBytes 2 (d.tmb.get p).position ++ d.newestField p

/-- The STATUS snapshot (Table 11-6). A bit that the table does not name is 0, the model's choice (log entry 42). -/
def Dev.statusPayload (d : Dev) : List Byte := d.statusDevice ++ d.statusPocket .a ++ d.statusPocket .b

/-- Every attention cause the snapshot reports leaves the set, and COLD_START the device fault set (R56, R168). -/
def Dev.acknowledge (d : Dev) : Dev :=
  (d.setLink { d.link with attention := .empty }).clearDevice .coldStart

/-- STATUS is answered with the snapshot, which it then acknowledges (R168). -/
def serveStatus (d : Dev) : Dev :=
  let d1 := d.acknowledge.reply .status d.statusPayload
  d1.setFreeCount (d1.freeCount + 1)

/-- A completed frame: STATUS (R168). -/
def hearStatus (payload : List Byte) : Dev → Dev :=
  Dev.serveRequest .status payload serveStatus

/-- STATUS (R168). -/
def execStatus (payload : List Byte) (s : State) : Host.Outcome State Fault Refusal := onDev (hearStatus payload) s

end Sys2Proof.Machine
end

