-- ==== Sys2Proof/Machine/Frames.lean ====
section
/-! DEFINITION. The frame commands: FRAME_DISCARD, RX_GAP_TIMEOUT, UNKNOWN_REQUEST_TYPE, REPLY_SENT and SYNC_BYTE
(R163 to R166). -/

namespace Sys2Proof.Machine

/-! ### Dispatch (R163, R164) -/

/-- A completed frame whose type is not a request type (R164, checks 1 to 3): UNKNOWN, with the result byte alone. -/
def unknownRequestType (type : Byte) (payload : List Byte) (d : Dev) : Dev :=
  if d.hears type payload && !isRequestType type then
    let d1 := d.setReceiver .hunting
    if d1.link.drops then d1 else d1.send ⟨replyType type, [Result.unknown.byte]⟩
  else d

/-- UNKNOWN_REQUEST_TYPE (R164). -/
def execUnknownRequestType (type : Byte) (payload : List Byte) (s : State) : Host.Outcome State Fault Refusal :=
  onDev (unknownRequestType type payload) s

/-- A completed RESUME frame, to the row of its choice; a choice without a row is refused by the checks of R164, which
every row makes. -/
def hearResume (payload : List Byte) : Dev → Dev :=
  if secondByte payload = reheatCode then hearResumeReheat payload
  else if secondByte payload = coolCode then hearResumeCool payload
  else if secondByte payload = guardCode then hearResumeGuard payload
  else if secondByte payload = closeCode then hearResumeClose payload
  else hearResumeAccept payload

/-- A completed CLEAR frame, to the row of its target. -/
def hearClear (payload : List Byte) : Dev → Dev :=
  if (advisoryTarget (secondByte payload)).isSome then hearClearAdvisoryFault payload
  else if (blockingTarget (secondByte payload)).isSome then hearClearBlockingFault payload
  else hearClearAllAdvisory payload

/-- "A completed frame is dispatched at the moment its checksum byte arrives" (R163), to the request of its type. -/
def dispatchFrame (type : Byte) (payload : List Byte) : Dev → Dev :=
  match Request.ofType type with
  | none => unknownRequestType type payload
  | some .status => hearStatus payload
  | some .start => hearStart payload
  | some .report => hearReport payload
  | some .checkpoint => hearCheckpoint payload
  | some .endCycle => hearEndCycle payload
  | some .plan => hearPlan payload
  | some .resume => hearResume payload
  | some .guard => hearGuard payload
  | some .clear => hearClear payload
  | some .history => hearHistory payload
  | some .format => hearFormat payload
  | some .paramRead => hearParamRead payload
  | some .paramWrite => hearParamWrite payload
  | some .paramStore => hearParamStore payload

/-! ### Bytes on RXD (R163) -/

/-- Bytes arrive one after another (R163), the last without a valid stop bit when `badStop` is set; a frame that
completes among them is dispatched. -/
def receiveBytes (badStop : Bool) : List Byte → Dev → Dev
  | [], d => d
  | b :: bs, d =>
    match d.link.receiver.take b (badStop && bs.isEmpty) with
    | .on r => receiveBytes badStop bs (d.setReceiver r)
    | .completed type payload => receiveBytes badStop bs (dispatchFrame type payload d)

/-- Bytes arrive in IN_FRAME (R163). -/
def frameDiscard (bytes : List Byte) (badStop : Bool) (d : Dev) : Dev :=
  if d.powered && d.link.receiver != .hunting then receiveBytes badStop bytes d else d

/-- FRAME_DISCARD (R163). -/
def execFrameDiscard (bytes : List Byte) (badStop : Bool) (s : State) : Host.Outcome State Fault Refusal :=
  onDev (frameDiscard bytes badStop) s

/-- More than 5 ms pass between bytes of a frame: it is discarded (R163). -/
def rxGapTimeout (d : Dev) : Dev :=
  if d.powered && d.link.receiver != .hunting then d.setReceiver .hunting else d

/-- RX_GAP_TIMEOUT (R163). -/
def execRxGapTimeout (s : State) : Host.Outcome State Fault Refusal := onDev rxGapTimeout s

/-- A byte of value 0xC5 in HUNTING starts a frame with an empty buffer (R163). -/
def syncByte (d : Dev) : Dev :=
  if d.powered && d.link.receiver == .hunting then d.setReceiver (.inFrame .empty) else d

/-- SYNC_BYTE (R163). -/
def execSyncByte (s : State) : Host.Outcome State Fault Refusal := onDev syncByte s

/-- The last byte of the reply in transmission has left: "A reply leaves the list when its last byte has been sent"
(R166). -/
def replySent (d : Dev) : Dev := d.setLink { d.link with transmit := d.link.transmit.drop 1 }

/-- REPLY_SENT (R166). -/
def execReplySent (s : State) : Host.Outcome State Fault Refusal := onDev replySent s

end Sys2Proof.Machine
end

