-- ==== Sys2Proof/Machine/ReserveMonitor.lean ====
section
/-! DEFINITION. The reserve commands: RESERVE_CONVERSION_DUE and RESERVE_RESULT (R9 to R11). -/

namespace Sys2Proof.Machine

/-- A reserve conversion falls due, in STARTUP, RUN and LOSS_COMMIT (R9). -/
def reserveConversionDue (d : Dev) : Dev := if d.powered then d.setAdc d.adc.requestReserve else d

/-- RESERVE_CONVERSION_DUE (R9). -/
def execReserveConversionDue (s : State) : Host.Outcome State Fault Refusal := onDev reserveConversionDue s

/-- RESERVE_LOW in RUN: a result that clears ready raises it, one that sets ready clears it (R11). -/
def Dev.noteReady (before after : Bool) (d : Dev) : Dev :=
  if d.run != .run then d
  else if before && !after then d.raiseDevice .reserveLow
  else if !before && after then d.clearDevice .reserveLow
  else d

/-- A reserve conversion under way ends (R9, R10): the level, in 0 to 600, and ready with its hysteresis; a change of ready tests
the WAITSTART pockets (R139), whose commits the engine may then start (R85). -/
def reserveResult (level : Nat) (d : Dev) : Dev :=
  if d.powered && d.adc.reserveUnderWay then
    let v := min level 600
    let after := nextReady d.reserve.ready v
    let d1 := ((d.setReserve ⟨v, after⟩).setAdc d.adc.endReserve).noteReady d.reserve.ready after
    d1.startTests.select
  else d

/-- RESERVE_RESULT (R10). -/
def execReserveResult (level : Nat) (s : State) : Host.Outcome State Fault Refusal := onDev (reserveResult level) s

end Sys2Proof.Machine
end

