-- ==== Sys2Proof/Machine/ResetRequest.lean ====
section
/-! DEFINITION. The nRESET commands: NRESET_ASSERT and NRESET_RELEASE (R19). -/

namespace Sys2Proof.Machine

/-- A reset request is taken (R19): the reset hold is set, the tumble timers stop (R160), and samples are dropped
(R75). -/
def Dev.takeReset (d : Dev) : Dev :=
  (d.stopTumblers.stopSampling).setLink { d.link with resetHold := true }

/-- nRESET goes low (R19). In STARTUP, and in RUN with no operation in flight, the request takes effect at once; in
RUN with one in flight it waits for its end. In LOSS_COMMIT and BACKUP it is not taken, and a second low while one
waits has no further effect. -/
def nresetAssert (d : Dev) : Dev :=
  let d1 := d.setPins { d.pins with nresetLow := true }
  if d.pins.nresetLow || d.link.resetHold then d1
  else
    match d.run with
    | .run => if d.engine.inFlight.isSome then d1.takeReset else d1.takeReset.resetEffect
    | .startup => d1.takeReset.resetEffect
    | .lossCommit => d1
    | .backup => d1

/-- NRESET_ASSERT (R19). -/
def execNresetAssert (s : State) : Host.Outcome State Fault Refusal := onDev nresetAssert s

/-- nRESET returns high: a held main domain is held no more, and the sequence of R13 begins with the parameter load. -/
def nresetRelease (d : Dev) : Dev :=
  let d1 := d.setPins { d.pins with nresetLow := false }
  if d1.held then d1.setLink { d1.link with resetHold := false } else d1

/-- NRESET_RELEASE (R19). -/
def execNresetRelease (s : State) : Host.Outcome State Fault Refusal := onDev nresetRelease s

end Sys2Proof.Machine
end

