-- ==== Sys2Proof/Machine/Resumption.lean ====
section
/-! DEFINITION. The restart arbiter and tumble timer commands: HEATER_GRANT, BURST_END and PERIOD_BOUNDARY
(R143, R154, R155, R158). -/

namespace Sys2Proof.Machine

/-- The grant conditions of R143 for the head of the queue. -/
def Dev.grantReady (d : Dev) : Bool :=
  d.runningFree && d.mainsPresent && d.reserve.ready && d.staggerLength ≤ d.arbiter.stagger

/-- The RSA grants heater return to the head (R143): the head leaves, the stagger count restarts, and the pocket goes
to DRYING with its REHEAT choice (R46). -/
def heaterGrant (d : Dev) : Dev :=
  match d.arbiter.queue with
  | [] => d
  | p :: rest =>
    if d.grantReady then
      match (d.psq.get p).choice with
      | none => d
      | some c => ((d.setArbiter ⟨rest, 0⟩).leaveWaitstart p c .drying).select
    else d

/-- HEATER_GRANT (R143). -/
def execHeaterGrant (s : State) : Host.Outcome State Fault Refusal := onDev heaterGrant s

/-- The direction after a burst end with bursts still owed (R155, step 4). -/
def Direction.afterBurst (reverse : Nat) : Direction → Direction
  | .forward => if reverse = 1 then .reverse else .forward
  | .reverse => if reverse = 1 then .forward else .reverse

/-- A burst ends (R155): the count falls by 1 and goes to the image; with bursts owed the timer rests, and a spent
course ends IDLE and is reported to the sequencer, which closes the pocket with GUARD_DONE (R40). -/
def Dev.endBurst (p : Pocket) (g : GuardProgram) (d : Dev) : Dev :=
  let t := d.tmb.get p
  let n := t.burstsLeft - 1
  let d1 := d.writeBody p fun b => { b with burstsLeft := n }
  if 1 ≤ n then
    d1.setTmb p { t with state := .rest, burstsLeft := n, direction := t.direction.afterBurst g.reverse }
  else
    let d2 := d1.setTmb p (.idle 0)
    let q := d2.psq.get p
    if q.state == .anticrease && q.mark.isNone then (d2.decideClosure p .guardDone).select else d2

/-- In BURST the position has reached on (R154, R155). -/
def burstEnd (p : Pocket) (d : Dev) : Dev :=
  let t := d.tmb.get p
  match t.state, t.active with
  | .burst, some g => if g.on ≤ t.position then d.endBurst p g else d
  | _, _ => d

/-- BURST_END (R155). -/
def execBurstEnd (p : Pocket) (s : State) : Host.Outcome State Fault Refusal := onDev (burstEnd p) s

/-- A staged program is applied at a period boundary (R158): it becomes active with a fresh count, both go to the
image, and with reverse 0 the direction becomes FORWARD. -/
def Dev.applyStaged (p : Pocket) (g : GuardProgram) (d : Dev) : Dev :=
  let t := d.tmb.get p
  (d.writeBody p fun b => { b with guard := g, burstsLeft := g.bursts }).setTmb p
    ⟨.burst, some g, none, g.bursts, 0, none, if g.reverse = 0 then .forward else t.direction⟩

/-- In REST the position has reached the period: a new burst starts at position 0 (R154). -/
def periodBoundary (p : Pocket) (d : Dev) : Dev :=
  let t := d.tmb.get p
  match t.state, t.active with
  | .rest, some g =>
    if g.period ≤ t.position then
      match t.staged with
      | some h => d.applyStaged p h
      | none => d.setTmb p { t with state := .burst, position := 0 }
    else d
  | _, _ => d

/-- PERIOD_BOUNDARY (R154). -/
def execPeriodBoundary (p : Pocket) (s : State) : Host.Outcome State Fault Refusal := onDev (periodBoundary p) s

end Sys2Proof.Machine
end

