-- ==== Sys2Proof/Machine/Sampling.lean ====
section
/-! DEFINITION. The exhaust sampling commands: ROUTINE_SAMPLE_DUE, ROUTINE_SAMPLE_DONE and RESTORE_SAMPLE_DONE
(R73 to R78). -/

namespace Sys2Proof.Machine

/-- A routine sample falls due: in RUN, and not once a reset request is taken (R75). -/
def routineSampleDue (p : Pocket) (d : Dev) : Dev := if d.runningFree then d.beginSample p else d

/-- ROUTINE_SAMPLE_DUE (R75). -/
def execRoutineSampleDue (p : Pocket) (s : State) : Host.Outcome State Fault Refusal := onDev (routineSampleDue p) s

/-- The image takes an in-range temperature (R74): the peak by MAX, the last by REPLACE, and dirty only where it lies
the dirty delta or more from the exhaust reference. -/
def Image.sample (journalFailed : Bool) (delta t : Int) (im : Image) : Image :=
  let im1 : Image := { im with body := { im.body with exhaustLast := t, exhaustPeak := max im.body.exhaustPeak t } }
  if delta ≤ ((t - im.exhaustRef).natAbs : Int) then im1.soil journalFailed else im1

/-- A completed sample in range (R73, R74, R77, R78): the streak returns to 0, the temperature is kept, published and
merged unless SENSOR stands, and THERMAL is raised at or above T_LIMIT. -/
def Dev.inRangeSample (p : Pocket) (code : Nat) (d : Dev) : Dev :=
  let t := Params.convert d.link.params code
  let stands := (d.psq.get p).blocking.sensor
  let d1 := d.setSns p
    { d.sns.get p with
      published := if stands then none else some t
      recent := some (code, true)
      streak := 0
      lastInRange := some t
      sampling := .none }
  let d2 := if stands then d1 else d1.modImage p (Image.sample (d.journalFailed p) (Params.dirtyDelta d.link.params) t)
  if Params.tLimit d.link.params ≤ t then d2.raiseFault p .thermal else d2

/-- SENSOR is raised: while it stands the published temperature is absent (R73, R77). -/
def Dev.raiseSensor (p : Pocket) (d : Dev) : Dev :=
  (d.setSns p { d.sns.get p with published := none }).raiseFault p .sensor

/-- A completed sample out of range (R77): the streak takes this value, and SENSOR is raised when it is 3. -/
def Dev.outOfRangeSample (p : Pocket) (code streak : Nat) (d : Dev) : Dev :=
  let d1 := d.setSns p { d.sns.get p with recent := some (code, false), streak := streak, sampling := .none }
  if streak = 3 then d1.raiseSensor p else d1

/-- A routine sample under way completes in RUN; one dropped by a taken reset request does not (R75, R77). -/
def routineSampleDone (p : Pocket) (code : Nat) (d : Dev) : Dev :=
  if d.runningFree && (d.sns.get p).sampling == .routine then
    let d1 := d.setAdc (d.adc.endSample p)
    if Params.codeInRange d.link.params code then d1.inRangeSample p code
    else d1.outOfRangeSample p code (satAdd (d.sns.get p).streak 1 3)
  else d

/-- ROUTINE_SAMPLE_DONE (R77): the sample is the truncated mean of its four conversions (R75). -/
def execRoutineSampleDone (p : Pocket) (c0 c1 c2 c3 : Nat) (s : State) : Host.Outcome State Fault Refusal :=
  onDev (routineSampleDone p (meanCode c0 c1 c2 c3)) s

/-- A restore sample under way completes (R77): out of range sets the streak to 3 at once. STARTUP ends where it was
the last thing waited for (R13). -/
def restoreSampleDone (p : Pocket) (code : Nat) (d : Dev) : Dev :=
  if d.run == .startup && (d.sns.get p).sampling == .restore then
    let d1 := d.setAdc (d.adc.endSample p)
    (if Params.codeInRange d.link.params code then d1.inRangeSample p code else d1.outOfRangeSample p code 3).endStartup
  else d

/-- RESTORE_SAMPLE_DONE (R77). -/
def execRestoreSampleDone (p : Pocket) (c0 c1 c2 c3 : Nat) (s : State) : Host.Outcome State Fault Refusal :=
  onDev (restoreSampleDone p (meanCode c0 c1 c2 c3)) s

end Sys2Proof.Machine
end

