-- ==== Sys2Proof/Machine/SlotOperations.lean ====
section
/-! DEFINITION. The commit and array commands: MERGE_WINDOW_EXPIRY, WRITE_VERIFY_DONE, ERASE_DONE and
PARAM_OPERATION_DONE (R65, R89 to R98). -/

namespace Sys2Proof.Machine

/-- The merge window of a pocket has reached its length: it runs with an elapsed count at or above the window length
of the mode in force (R65). -/
def Dev.windowDue (d : Dev) (p : Pocket) : Bool :=
  match d.image.get p with
  | none => false
  | some im =>
    match im.window with
    | none => false
    | some n => d.mergeLength ≤ n

/-- The window expires: the timer stops and a PROGRESS trigger is given (R65). -/
def mergeWindowExpiry (p : Pocket) (d : Dev) : Dev :=
  if d.run == .run && d.windowDue p then
    ((d.modImage p fun im => { im with window := none }).trigger p .progress none).select
  else d

/-- MERGE_WINDOW_EXPIRY (R65). -/
def execMergeWindowExpiry (p : Pocket) (s : State) : Host.Outcome State Fault Refusal := onDev (mergeWindowExpiry p) s

/-- The page a write makes of a blank slot. -/
def writtenPage (p : Pocket) (snap : Snapshot) (seq : Word) : List Byte := pageOf (snap.record p seq).written

/-- A WRITE+VERIFY ends (R89, R92, R93): the record is written over what the page held, but for the damaged bytes. "Reads
the whole page back and compares it with what was written" (R84): the read-back matches where the page holds the record
and is erased past it (R80; log entry 39). -/
def execWriteVerifyDone (damage : List Host.Cell) (s : State) : Host.Outcome State Fault Refusal :=
  match s.dev.engine.inFlight with
  | some (.write p slot snap seq beforeLoss) =>
    let page := programmed (s.array.page (slotPage p slot)) (snap.record p seq).written damage
    let d := s.dev.endOperation
    .next { s with
      array := s.array.setPage (slotPage p slot) page
      dev :=
        (if page = writtenPage p snap seq then d.commitCompleted p slot snap seq beforeLoss
         else d.writeFailed p slot snap beforeLoss).afterOperation }
  | some (.erase _ _ _) => .next s
  | some (.param _ _ _) => .next s
  | none => .next s

/-- An ERASE ends (R91): every byte all ones but for the residue, and the blank check passes where every byte is. -/
def execEraseDone (residue : List Host.Cell) (s : State) : Host.Outcome State Fault Refusal :=
  match s.dev.engine.inFlight with
  | some (.erase p slot purpose) =>
    let page := overlay (pageOf []) residue
    .next { s with
      array := s.array.setPage (slotPage p slot) page
      dev := (s.dev.endOperation.eraseEnded p slot purpose (erasedPage page)).afterOperation }
  | some (.write _ _ _ _ _) => .next s
  | some (.param _ _ _) => .next s
  | none => .next s

/-- A PARAM operation ends (R97, R98): page 32, erased first (R84), holds the image but for the damaged bytes. -/
def execParamOperationDone (damage : List Host.Cell) (s : State) : Host.Outcome State Fault Refusal :=
  match s.dev.engine.inFlight with
  | some (.param ws second age) =>
    let page := overlay (pageOf (imageBytes ws)) damage
    .next { s with
      array := s.array.setPage paramPage page
      dev := (s.dev.endOperation.paramEnded (page = pageOf (imageBytes ws)) second age).afterOperation }
  | some (.write _ _ _ _ _) => .next s
  | some (.erase _ _ _) => .next s
  | none => .next s

end Sys2Proof.Machine
end

