-- ==== Sys2Proof/Machine/Dispatch.lean ====
section
/-! DEFINITION. One arm for each command of the TC-22: the call of its meaning. -/

namespace Sys2Proof.Machine

def exec (i : Instr) (s : State) : Host.Outcome State Fault Refusal :=
  match i with
  | .zeroCrossEdge => Sys2Proof.Machine.execZeroCrossEdge s
  | .dipEntry => Sys2Proof.Machine.execDipEntry s
  | .qualifyAbort => Sys2Proof.Machine.execQualifyAbort s
  | .lossDeclaration => Sys2Proof.Machine.execLossDeclaration s
  | .mainsReturn => Sys2Proof.Machine.execMainsReturn s
  | .settleEnd => Sys2Proof.Machine.execSettleEnd s
  | .confidenceRise => Sys2Proof.Machine.execConfidenceRise s
  | .reserveConversionDue => Sys2Proof.Machine.execReserveConversionDue s
  | .reserveResult level => Sys2Proof.Machine.execReserveResult level s
  | .backupPowerUp => Sys2Proof.Machine.execBackupPowerUp s
  | .backupCollapse reached kept => Sys2Proof.Machine.execBackupCollapse reached kept s
  | .backupTick => Sys2Proof.Machine.execBackupTick s
  | .doorSampleMark => Sys2Proof.Machine.execDoorSampleMark s
  | .doorInputChange p isOpen => Sys2Proof.Machine.execDoorInputChange p isOpen s
  | .doorDebounce p => Sys2Proof.Machine.execDoorDebounce p s
  | .nresetAssert => Sys2Proof.Machine.execNresetAssert s
  | .nresetRelease => Sys2Proof.Machine.execNresetRelease s
  | .parameterLoad misread => Sys2Proof.Machine.execParameterLoad misread s
  | .scanPageRead misread => Sys2Proof.Machine.execScanPageRead misread s
  | .routineSampleDue p => Sys2Proof.Machine.execRoutineSampleDue p s
  | .routineSampleDone p c0 c1 c2 c3 => Sys2Proof.Machine.execRoutineSampleDone p c0 c1 c2 c3 s
  | .restoreSampleDone p c0 c1 c2 c3 => Sys2Proof.Machine.execRestoreSampleDone p c0 c1 c2 c3 s
  | .mergeWindowExpiry p => Sys2Proof.Machine.execMergeWindowExpiry p s
  | .writeVerifyDone damage => Sys2Proof.Machine.execWriteVerifyDone damage s
  | .eraseDone residue => Sys2Proof.Machine.execEraseDone residue s
  | .paramOperationDone damage => Sys2Proof.Machine.execParamOperationDone damage s
  | .heaterGrant => Sys2Proof.Machine.execHeaterGrant s
  | .burstEnd p => Sys2Proof.Machine.execBurstEnd p s
  | .periodBoundary p => Sys2Proof.Machine.execPeriodBoundary p s
  | .frameDiscard bytes badStop => Sys2Proof.Machine.execFrameDiscard bytes badStop s
  | .rxGapTimeout => Sys2Proof.Machine.execRxGapTimeout s
  | .unknownRequestType type payload => Sys2Proof.Machine.execUnknownRequestType type payload s
  | .status payload => Sys2Proof.Machine.execStatus payload s
  | .start payload => Sys2Proof.Machine.execStart payload s
  | .report payload => Sys2Proof.Machine.execReport payload s
  | .checkpoint payload => Sys2Proof.Machine.execCheckpoint payload s
  | .endCycle payload => Sys2Proof.Machine.execEndCycle payload s
  | .plan payload => Sys2Proof.Machine.execPlan payload s
  | .resumeAccept payload => Sys2Proof.Machine.execResumeAccept payload s
  | .resumeReheat payload => Sys2Proof.Machine.execResumeReheat payload s
  | .resumeCool payload => Sys2Proof.Machine.execResumeCool payload s
  | .resumeGuard payload => Sys2Proof.Machine.execResumeGuard payload s
  | .resumeClose payload => Sys2Proof.Machine.execResumeClose payload s
  | .guard payload => Sys2Proof.Machine.execGuard payload s
  | .clearAllAdvisory payload => Sys2Proof.Machine.execClearAllAdvisory payload s
  | .clearAdvisoryFault payload => Sys2Proof.Machine.execClearAdvisoryFault payload s
  | .clearBlockingFault payload => Sys2Proof.Machine.execClearBlockingFault payload s
  | .history payload => Sys2Proof.Machine.execHistory payload s
  | .format payload => Sys2Proof.Machine.execFormat payload s
  | .paramRead payload => Sys2Proof.Machine.execParamRead payload s
  | .paramWrite payload => Sys2Proof.Machine.execParamWrite payload s
  | .paramStore payload => Sys2Proof.Machine.execParamStore payload s
  | .replySent => Sys2Proof.Machine.execReplySent s
  | .syncByte => Sys2Proof.Machine.execSyncByte s

end Sys2Proof.Machine
end

