-- ==== Sys2Proof/Machine/Idle.lean ====
section
/-! DEFINITION. What a step does while no command waits: one millisecond passes (DESIGN CHOICE, log entry 8).

The table has no row for the passing of a millisecond. The counts below are those that the spec keeps in whole
milliseconds; the events they lead to are commands of their own, but for the conversions of a sample after its first,
which have no row. Each count stops at its figure. -/

namespace Sys2Proof.Machine

/-- Both times of the monitor run, in every state: since the last edge, and since QUALIFYING was last entered (R1). -/
def Monitor.elapse (m : Monitor) : Monitor :=
  { m with absence := m.absence + 1, qualification := m.qualification + 1 }

/-- The backup domain over one millisecond: the timebase phase, the monitor and the stall counters (R1, R23, R25). -/
def Backup.elapse (b : Backup) : Backup :=
  { b with
    tickMs := satAdd b.tickMs 1 1000
    monitor := b.monitor.elapse
    facts := ⟨if b.tickMs < 1000 then b.facts.a.elapse 1 else b.facts.a,
      if b.tickMs < 1000 then b.facts.b.elapse 1 else b.facts.b⟩ }

/-- The settle timer over one millisecond (R6). -/
def Settle.elapse (t : Settle) : Settle := if t.flag then { t with ms := satAdd t.ms 1 3000 } else t

/-- How long the raw door input must hold its level (R47), ms. -/
def debounceMs : Nat := 50

/-- A door input that holds its level over one millisecond (R47). -/
def Sequencer.elapse (q : Sequencer) : Sequencer := { q with doorHoldMs := satAdd q.doorHoldMs 1 debounceMs }

/-- The gap after a byte of a frame over one millisecond (R163). -/
def Link.elapse (l : Link) : Link := if l.receiver = .hunting then l else { l with gapMs := l.gapMs + 1 }

/-- The main domain over one millisecond. -/
def Dev.elapseMain (d : Dev) : Dev :=
  ((((d.setSettle d.settle.elapse).setLink d.link.elapse).setPsq .a (d.psq.get .a).elapse).setPsq .b
    (d.psq.get .b).elapse).setAdc (d.adc.elapse (d.sns.get .a).sampling (d.sns.get .b).sampling)

/-- One millisecond passes and nothing else happens. -/
def Dev.elapse (d : Dev) : Dev :=
  let d1 := if d.bkd.powered then d.setBkd d.bkd.elapse else d
  if d1.powered then d1.elapseMain else d1

/-- The step of a block with no command waiting. -/
def idle (s : State) : Host.Outcome State Fault Refusal := onDev Dev.elapse s

end Sys2Proof.Machine
end

