-- ==== Sys2Proof/WellFormed.lean ====
section
/-! DEFINITION. Well-formed commands: operands that the part's own inputs can take. -/

namespace Sys2Proof

open Machine

/-- A reserve level is "in the range 0 to 600" (R9). -/
def levelOk (level : Nat) : Bool := level ≤ 600

/-- A thermistor conversion gives a 12-bit code, 0 to 4095 (4.6). -/
def codeOk (code : Nat) : Bool := code ≤ 4095

/-- Bytes of a page lie at offsets 0 to 127 (R79). -/
def offsetOk (offset : Nat) : Bool := offset < 128

/-- Every listed byte lies in the page. -/
def cellsOk (cells : List Host.Cell) : Bool := cells.all fun c => offsetOk c.1

/-- A frame carries at most 56 payload bytes (R163). -/
def payloadOk (payload : List Byte) : Bool := payload.length ≤ 56

/-- A frame that stands for one of several rows of its request carries that row's value (Table 11-2), or is one the
checks of R164 refuse before the value matters. -/
def rowOk (q : Request) (payload : List Byte) (mine : Nat → Bool) : Bool :=
  payloadOk payload && (mine (secondByte payload) || !q.lengthOk payload || !q.enumsOk payload)

/-- A target code of an advisory fault, and of a blocking fault (Table 11-2). -/
def advisoryCode (n : Nat) : Bool := 1 ≤ n && n ≤ 3
def blockingCode (n : Nat) : Bool := 4 ≤ n && n ≤ 7

/-- Whether a command's operands are ones the part can be given. -/
def Instr.wellFormed : Instr → Bool
  | .zeroCrossEdge => true
  | .dipEntry => true
  | .qualifyAbort => true
  | .lossDeclaration => true
  | .mainsReturn => true
  | .settleEnd => true
  | .confidenceRise => true
  | .reserveConversionDue => true
  | .reserveResult level => levelOk level
  | .backupPowerUp => true
  | .backupCollapse reached kept => reached ≤ 128 && kept.all offsetOk
  | .backupTick => true
  | .doorSampleMark => true
  | .doorInputChange _ _ => true
  | .doorDebounce _ => true
  | .nresetAssert => true
  | .nresetRelease => true
  | .parameterLoad misread => cellsOk misread
  | .scanPageRead misread => cellsOk misread
  | .routineSampleDue _ => true
  | .routineSampleDone _ c0 c1 c2 c3 => codeOk c0 && codeOk c1 && codeOk c2 && codeOk c3
  | .restoreSampleDone _ c0 c1 c2 c3 => codeOk c0 && codeOk c1 && codeOk c2 && codeOk c3
  | .mergeWindowExpiry _ => true
  | .writeVerifyDone damage => cellsOk damage
  | .eraseDone residue => cellsOk residue
  | .paramOperationDone damage => cellsOk damage
  | .heaterGrant => true
  | .burstEnd _ => true
  | .periodBoundary _ => true
  | .frameDiscard bytes _ => !bytes.isEmpty
  | .rxGapTimeout => true
  | .unknownRequestType type payload => !isRequestType type && payloadOk payload
  | .status payload => payloadOk payload
  | .start payload => payloadOk payload
  | .report payload => payloadOk payload
  | .checkpoint payload => payloadOk payload
  | .endCycle payload => payloadOk payload
  | .plan payload => payloadOk payload
  | .resumeAccept payload => rowOk .resume payload (· == 0)
  | .resumeReheat payload => rowOk .resume payload (· == 1)
  | .resumeCool payload => rowOk .resume payload (· == 2)
  | .resumeGuard payload => rowOk .resume payload (· == 3)
  | .resumeClose payload => rowOk .resume payload (· == 4)
  | .guard payload => payloadOk payload
  | .clearAllAdvisory payload => rowOk .clear payload (· == clearAllCode)
  | .clearAdvisoryFault payload => rowOk .clear payload advisoryCode
  | .clearBlockingFault payload => rowOk .clear payload blockingCode
  | .history payload => payloadOk payload
  | .format payload => payloadOk payload
  | .paramRead payload => payloadOk payload
  | .paramWrite payload => payloadOk payload
  | .paramStore payload => payloadOk payload
  | .replySent => true
  | .syncByte => true

end Sys2Proof
end

