-- ==== Sys2Proof/Safety.lean ====
section
/-! DEFINITION. What claims about the part speak of: a request that passes the checks of the link port, and the laws
that every step keeps. -/

namespace Sys2Proof.Machine

/-! ### Requests -/

/-- Checks 1 and 2 of R164 pass: no reset hold, and room for the reply. -/
def Dev.linkFree (d : Dev) : Prop :=
  d.link.resetHold = false ∧ d.link.transmit.length + d.link.deferred.length < 10

/-- A request frame of this type and payload reaches its owner (R164, checks 1 to 8, in RUN). -/
structure Admitted (q : Request) (payload : List Byte) (d : Dev) : Prop where
  /-- The run state is RUN (check 7). -/
  running : d.run = .run
  /-- Checks 1 and 2. -/
  free : d.linkFree
  /-- A frame carries at most 56 payload bytes (R163). -/
  fits : payload.length ≤ 56
  /-- The receiver is in the frame that completes (R163). -/
  receiving : d.link.receiver.begins q.typeByte payload = true
  /-- Check 4. -/
  length : q.lengthOk payload = true
  /-- Check 5. -/
  pocket : q.namesPocket = true → (pocketOf payload).isSome = true
  /-- Check 6. -/
  enums : q.enumsOk payload = true
  /-- Check 8. -/
  fresh : d.duplicate q payload = false

/-- Bytes arrive one after another, the last without a valid stop bit when `badStop` is set; none where a frame
completes among them. -/
def Receiver.run (badStop : Bool) : List Byte → Receiver → Option Receiver
  | [], r => some r
  | b :: bs, r =>
    match r.take b (badStop && bs.isEmpty) with
    | .on r' => Receiver.run badStop bs r'
    | .completed _ _ => none

/-- The request type and the payload that a request command carries. -/
def requestOf : Instr → Option (Request × List Byte)
  | .zeroCrossEdge => none
  | .dipEntry => none
  | .qualifyAbort => none
  | .lossDeclaration => none
  | .mainsReturn => none
  | .settleEnd => none
  | .confidenceRise => none
  | .reserveConversionDue => none
  | .reserveResult _ => none
  | .backupPowerUp => none
  | .backupCollapse _ _ => none
  | .backupTick => none
  | .doorSampleMark => none
  | .doorInputChange _ _ => none
  | .doorDebounce _ => none
  | .nresetAssert => none
  | .nresetRelease => none
  | .parameterLoad _ => none
  | .scanPageRead _ => none
  | .routineSampleDue _ => none
  | .routineSampleDone _ _ _ _ _ => none
  | .restoreSampleDone _ _ _ _ _ => none
  | .mergeWindowExpiry _ => none
  | .writeVerifyDone _ => none
  | .eraseDone _ => none
  | .paramOperationDone _ => none
  | .heaterGrant => none
  | .burstEnd _ => none
  | .periodBoundary _ => none
  | .frameDiscard _ _ => none
  | .rxGapTimeout => none
  | .unknownRequestType _ _ => none
  | .status payload => some (.status, payload)
  | .start payload => some (.start, payload)
  | .report payload => some (.report, payload)
  | .checkpoint payload => some (.checkpoint, payload)
  | .endCycle payload => some (.endCycle, payload)
  | .plan payload => some (.plan, payload)
  | .resumeAccept payload => some (.resume, payload)
  | .resumeReheat payload => some (.resume, payload)
  | .resumeCool payload => some (.resume, payload)
  | .resumeGuard payload => some (.resume, payload)
  | .resumeClose payload => some (.resume, payload)
  | .guard payload => some (.guard, payload)
  | .clearAllAdvisory payload => some (.clear, payload)
  | .clearAdvisoryFault payload => some (.clear, payload)
  | .clearBlockingFault payload => some (.clear, payload)
  | .history payload => some (.history, payload)
  | .format payload => some (.format, payload)
  | .paramRead payload => some (.paramRead, payload)
  | .paramWrite payload => some (.paramWrite, payload)
  | .paramStore payload => some (.paramStore, payload)
  | .replySent => none
  | .syncByte => none

/-- The part after a frame that was answered at once with this reply and did nothing else: the receiver hunts again and
the reply is the last of the transmit list. -/
def Dev.replied (type : Byte) (payload : List Byte) (d : Dev) : Dev :=
  { d with link := { d.link with receiver := .hunting, gapMs := 0, transmit := d.link.transmit ++ [⟨type, payload⟩] } }

/-- A command for one pocket leaves the other's sequencer, backup facts, plan, tumble timer and sensor items as they
were. -/
def Dev.sparesOther (p : Pocket) (d d' : Dev) : Prop :=
  ∀ q, q ≠ p → d'.psq.get q = d.psq.get q ∧ d'.bkd.facts.get q = d.bkd.facts.get q ∧ d'.plan.get q = d.plan.get q ∧
    d'.tmb.get q = d.tmb.get q ∧ d'.sns.get q = d.sns.get q

/-- What a request that is served leaves of the link as it was: all but the receiver, the deferred table, the transmit
list and the attention causes. The replies that were waiting are still first. -/
def Dev.linkServed (d d' : Dev) : Prop :=
  d'.link = { d.link with
    receiver := .hunting, gapMs := 0, deferred := d'.link.deferred, transmit := d'.link.transmit
    attention := d'.link.attention } ∧
  d.link.transmit <+: d'.link.transmit

/-! ### Leaving WAITSTART (R46, R139) -/

/-- A pocket leaves WAITSTART with a choice of COOL or GUARD (R46, R48, R59, R145, R153): released, its image rebuilt from
the basis with the figures of the choice and the outages of L, a RESUME commit given; COOLING, or ANTICREASE with the timer
in its first burst. A GUARD choice that finds the door reading OPEN is closed with DOOR, without a burst. -/
def Dev.leavesWaitstart (p : Pocket) (c : Choice) (b : Basis) (d d' : Dev) : Prop :=
  d'.bkd.facts.get p = .clear ∧
  (c.outcome = .cool ∨ (d.psq.get p).doorOpen = false →
    d'.psq.get p = { d.psq.get p with
      state := if c.outcome = .cool then .cooling else .anticrease, startKind := .warm, choice := none } ∧
    (c.outcome = .guard → d'.tmb.get p = ⟨.burst, some c.guard, none, c.bursts, 0, none, .forward⟩) ∧
    ∃ im, d'.image.get p = some im ∧ im.cycle = b.record.cycle ∧ im.exhaustRef = b.record.body.exhaustLast ∧
      im.body = (if c.outcome = .cool then
          { b.record.body with
            phase := .cooling, cool := c.cool
            outages := min 255 (b.record.body.outages + (d.bkd.facts.get p).losses) }
        else
          { b.record.body with
            phase := .anticrease, guard := c.guard, burstsLeft := c.bursts
            outages := min 255 (b.record.body.outages + (d.bkd.facts.get p).losses) }) ∧
      im.resume = (d.plan.get p).map (fun pl => ⟨c.outcome, pl.reason, pl.basisSeq, pl.stall, pl.tNow⟩) ∧
      ((d.psq.get p).blocking.journalFail = false → im.commit = .queued .resume ∨ im.commit = .inFlight .resume) ∧
      ((d.psq.get p).blocking.journalFail = true → im.commit = .none)) ∧
  (c.outcome = .guard → (d.psq.get p).doorOpen = true →
    (d'.tmb.get p).state = .idle ∧
    ((d.psq.get p).blocking.journalFail = false →
      (d'.psq.get p).state = .anticrease ∧ (d'.psq.get p).mark = some .door ∧ (d'.psq.get p).choice = none) ∧
    ((d.psq.get p).blocking.journalFail = true → (d'.psq.get p).state = .vacant ∧ d'.image.get p = none))

/-- The start test of R139 is made on a pocket, its conditions on the supply and the reserve holding: a WAITSTART pocket
with a choice of COOL or GUARD leaves; every other pocket keeps its sequencer and its facts. -/
def Dev.startTested (p : Pocket) (d d' : Dev) : Prop :=
  (∀ c b, (d.psq.get p).state = .waitstart → (d.psq.get p).choice = some c → c.outcome = .cool ∨ c.outcome = .guard →
    (d.journal.get p).basis = some b → d.leavesWaitstart p c b d') ∧
  ((d.psq.get p).state ≠ .waitstart ∨ (∀ c, (d.psq.get p).choice = some c → c.outcome ≠ .cool ∧ c.outcome ≠ .guard) →
    d'.psq.get p = d.psq.get p ∧ d'.bkd.facts.get p = d.bkd.facts.get p)

/-! ### Sampling (R9, R75) -/

/-- A pocket's routine sample falls due, from `d` to these items of it: the sample is under way and any other of the pocket
dropped; its first conversion starts on a free ADC, and waits where another runs or where a reserve conversion, 20 ms after
the last, falls due together with it (log entry 14). -/
def Dev.sampleBegins (p : Pocket) (d : Dev) (sns : Per Sensor) (adc : Adc) : Prop :=
  sns = d.sns.set p { d.sns.get p with sampling := .routine } ∧
  (d.adc.running = none → d.adc.reserveMs ≠ 20 →
    adc = ⟨some (.thermistor p), d.adc.reserveWaits, d.adc.thermistorWaits.set p false, d.adc.started.set p 1,
      d.adc.sinceMs.set p 0, d.adc.reserveMs⟩) ∧
  (d.adc.running ≠ none ∨ d.adc.reserveMs = 20 →
    adc = ⟨d.adc.running, d.adc.reserveWaits, d.adc.thermistorWaits.set p true, d.adc.started.set p 0,
      d.adc.sinceMs.set p 0, d.adc.reserveMs⟩)

/-! ### The end of STARTUP (R13, R14, R26, R42, R43, R121, R122) -/

/-- The facts of a pocket that waits at the end of STARTUP: a stopped stall counter starts from 0 (R26). -/
def Facts.aligned (f : Facts) : Facts :=
  { f with
    stallRunning := true
    stall := if f.stallRunning then f.stall else 0
    stallMs := if f.stallRunning then f.stallMs else 0 }

/-- STARTUP ends from a part whose scan is done and whose restore samples are both taken, both pockets VACANT: the run
state becomes RUN, the stagger restarts at 0, RESERVE_LOW is raised with ready clear, and pocket A's routine sample falls
due (R14, R75). A pocket without a live
basis stays as it is and is released. A pocket with one is planned from the inputs as they stand, STALE_BASIS raised first
where it is suspended and its basis is no SUSPEND record (R122), and takes its state from the plan (R42, R43): REHEAT, COOL
and HOLD leave it PLANNED with PLAN_READY and its stall counter running; GUARD raises PLAN_READY and leaves it in WAITSTART,
or, with mains PRESENT and the reserve ready, past it in ANTICREASE; CLOSE leaves it VACANT, marked and released, a CLOSE
commit of its rebuilt image given, with CLOSED. -/
def Dev.startupEnds (d d' : Dev) : Prop :=
  d'.run = .run ∧ d'.arbiter = { d.arbiter with stagger := 0 } ∧
  (d.reserve.ready = false → d'.faults = { d.faults with reserveLow := true } ∧
    (d.faults.reserveLow = false → d'.link.attention.fault = true)) ∧
  (d.reserve.ready = true → d'.faults = d.faults) ∧ d.sampleBegins .a d'.sns d'.adc ∧
  (∀ q, ((d.journal.get q).basis = none ∨ (∃ b, (d.journal.get q).basis = some b ∧ b.record.kind = some .close)) →
    d'.psq.get q = d.psq.get q ∧ d'.bkd.facts.get q = .clear ∧ d'.plan.get q = d.plan.get q) ∧
  (∀ q b, (d.journal.get q).basis = some b → b.record.kind ≠ some .close →
    ∃ pl stale advisory,
      (stale = true ↔ (d.bkd.facts.get q).suspended = true ∧ b.record.kind ≠ some .suspend) ∧
      advisory =
        (if stale then { (d.psq.get q).advisory with staleBasis := true } else (d.psq.get q).advisory) ∧
      pl = decidePlan d.link.params { d.psq.get q with advisory := advisory } (d.bkd.facts.get q) (d.tNow q) b.record ∧
      d'.plan.get q = some pl ∧ (d'.psq.get q).advisory = advisory ∧ (d'.psq.get q).blocking = (d.psq.get q).blocking ∧
      (stale = true → (d.psq.get q).advisory.staleBasis = false → d'.link.attention.fault = true) ∧
      (pl.outcome = .reheat ∨ pl.outcome = .cool ∨ pl.outcome = .hold →
        d'.psq.get q = { d.psq.get q with state := .planned, choice := none, advisory := advisory } ∧
        d'.link.attention.planReady = true ∧ d'.bkd.facts.get q = (d.bkd.facts.get q).aligned) ∧
      (pl.outcome = .guard → d'.link.attention.planReady = true ∧
        (d.bkd.monitor.state ≠ .present ∨ d.reserve.ready = false ∨ d.link.resetHold = true →
          d'.psq.get q = { d.psq.get q with
            state := .waitstart, choice := some ⟨.guard, pl.heat, pl.cool, pl.bursts, pl.guard⟩
            advisory := advisory } ∧
          d'.bkd.facts.get q = (d.bkd.facts.get q).aligned) ∧
        (d.bkd.monitor.state = .present → d.reserve.ready = true → d.link.resetHold = false →
          d'.bkd.facts.get q = .clear ∧
          ((d.psq.get q).doorOpen = false →
            (d'.psq.get q).state = .anticrease ∧ (d'.psq.get q).mark = (d.psq.get q).mark ∧
            (d'.psq.get q).choice = none ∧
            d'.tmb.get q = ⟨.burst, some pl.guard, none, pl.bursts, 0, none, .forward⟩) ∧
          ((d.psq.get q).doorOpen = true → (d.psq.get q).blocking.journalFail = false →
            (d'.psq.get q).state = .anticrease ∧ (d'.psq.get q).mark = some .door ∧ (d'.tmb.get q).state = .idle))) ∧
      (pl.outcome = .close → (d.psq.get q).state = .vacant →
        (d'.psq.get q).state = .vacant ∧
        (d'.psq.get q).mark = some (if pl.reason = .door then .door else .expired) ∧ d'.bkd.facts.get q = .clear ∧
        d'.link.attention.closed = true ∧
        ((d.psq.get q).blocking.journalFail = false → ∃ im, d'.image.get q = some im ∧ im.cycle = b.record.cycle ∧
          im.closeReason = (d'.psq.get q).mark ∧
          im.body = { b.record.body with
            outages := min 255 (b.record.body.outages + (d.bkd.facts.get q).losses) } ∧
          (im.commit = .queued .close ∨ im.commit = .inFlight .close)))) ∧
  d'.bkd = { d.bkd with facts := d'.bkd.facts } ∧
  d' = { d with
    bkd := d'.bkd, run := d'.run, adc := d'.adc, faults := d'.faults, sns := d'.sns, psq := d'.psq, image := d'.image
    engine := d'.engine, ring := d'.ring, journal := d'.journal, plan := d'.plan, arbiter := d'.arbiter, tmb := d'.tmb, link := d'.link }

/-! ### A loss, and the work of LOSS_COMMIT (R15 to R17, R41, R71, R94 to R96) -/

/-- The main domain powers down (R17): BACKUP, nothing of it left, the backup domain and the pins as they were. -/
def Dev.powersDown (d d' : Dev) : Prop := d'.run = .backup ∧ d'.mainOff = d' ∧ d'.bkd = d.bkd ∧ d'.pins = d.pins

/-- An image after a loss in RUN (R15, R71): its window is stopped; an active pocket's image, and one whose queued CLOSE is
to be written as SUSPEND, counts the outage and is dirty. A commit status of NONE becomes a SUSPEND entry for an active
pocket without JOURNAL_FAIL; a queued entry becomes SUSPEND and loses its close reason; a write in flight of an active
pocket gets a SUSPEND recommit request, and keeps its close reason only where it writes CLOSE. -/
def Image.afterLoss (active waiting journalFailed : Bool) (im im1 : Image) : Prop :=
  (active = true ∨ waiting = true ∧ im.commit = .queued .close →
    im1.body = { im.body with outages := min 255 (im.body.outages + 1) } ∧ im1.dirty = true) ∧
  (active = false → waiting = false ∨ im.commit ≠ .queued .close → im1.body = im.body ∧ im1.dirty = im.dirty) ∧
  (im.commit = .none →
    im1.commit = (if active = true ∧ journalFailed = false then .queued .suspend else .none) ∧
    im1.recommit = im.recommit ∧ im1.closeReason = im.closeReason) ∧
  (∀ k, im.commit = .queued k →
    im1.commit = .queued .suspend ∧ im1.recommit = im.recommit ∧ im1.closeReason = none) ∧
  (∀ k, im.commit = .inFlight k → im1.commit = .inFlight k ∧
    im1.recommit = (if active then some .suspend else im.recommit) ∧
    im1.closeReason = (if active = true ∧ k ≠ .close then none else im.closeReason)) ∧
  im1 = { im with
    body := im1.body, dirty := im1.dirty, window := none, commit := im1.commit, recommit := im1.recommit
    closeReason := im1.closeReason }

/-- The closing mark goes at a loss: the CLOSE that would have written it is queued, or is the recommit request of another
kind's write (R41, R71). -/
def Dev.closeUnwritten (d : Dev) (p : Pocket) : Prop :=
  ∃ im, d.image.get p = some im ∧
    (im.commit = .queued .close ∨
      (d.psq.get p).state.active = true ∧ im.recommit = some .close ∧ ∃ k, im.commit = .inFlight k ∧ k ≠ .close)

/-- The responses of every block to a loss in RUN (R15, R41, R71, R94), before the engine works on: from `d` to `d1`. -/
def Dev.lossResponse (d d1 : Dev) : Prop :=
  d1.bkd.monitor = { d.bkd.monitor with state := .absent, absence := d1.bkd.monitor.absence } ∧
  d1.bkd = { d.bkd with
    monitor := d1.bkd.monitor, confidence := d.bkd.confidence - 4, facts := d1.bkd.facts } ∧
  (d.adc.running = none → d1.adc = ⟨some .reserve, d.adc.reserveWaits, .both false, .both 0, .both 0, 0⟩) ∧
  (d.adc.running ≠ none → d1.adc = ⟨d.adc.running, true, .both false, .both 0, .both 0, 0⟩) ∧
  (∀ p,
    d1.bkd.facts.get p =
      (if (d.psq.get p).state = .vacant ∨ (d.psq.get p).state = .suspended then d.bkd.facts.get p
      else
        { suspended := true
          stallRunning := true
          stall := if (d.bkd.facts.get p).stallRunning then (d.bkd.facts.get p).stall else 0
          stallMs := if (d.bkd.facts.get p).stallRunning then (d.bkd.facts.get p).stallMs else 0
          losses := min 255 ((d.bkd.facts.get p).losses + 1)
          latch := (d.bkd.facts.get p).latch }) ∧
    d1.sns.get p = { d.sns.get p with sampling := .none } ∧
    d1.tmb.get p = ⟨.idle, none, none, (d.tmb.get p).burstsLeft, 0, none, .forward⟩ ∧
    ((d.psq.get p).state ≠ .vacant → (d1.psq.get p).state = .suspended) ∧
    ((d.psq.get p).state ≠ .vacant → (d.psq.get p).state ≠ .suspended → (d1.psq.get p).choice = none) ∧
    ((d.psq.get p).state = .vacant → (d1.psq.get p).state = .vacant) ∧
    (d.closeUnwritten p → (d1.psq.get p).mark = none) ∧
    (¬d.closeUnwritten p → (d1.psq.get p).mark = (d.psq.get p).mark) ∧
    d1.psq.get p = { d.psq.get p with
      state := (d1.psq.get p).state, choice := (d1.psq.get p).choice, mark := (d1.psq.get p).mark } ∧
    (d.image.get p = none → d1.image.get p = none) ∧
    (∀ im, d.image.get p = some im → ∃ im1, d1.image.get p = some im1 ∧
      im.afterLoss (d.psq.get p).state.active (d.psq.get p).state.waiting (d.psq.get p).blocking.journalFail im1) ∧
    (d1.hasCommit p = true ↔ d.hasCommit p = true ∨ d.engine.service = some ⟨p, none⟩ ∨
      (d.psq.get p).state.active = true ∧ (d.psq.get p).blocking.journalFail = false ∧
        ∃ im, d.image.get p = some im ∧ im.commit = .none)) ∧
  (∀ e, e ∈ d1.engine.queue → ∃ p, e.work = .commit p) ∧
  ((∀ p, d.engine.service ≠ some ⟨p, none⟩) → d1.engine.service = d.engine.service) ∧
  (∀ p, d.engine.service = some ⟨p, none⟩ → d1.engine.service = none) ∧
  (∀ p slot snap seq b, d.engine.inFlight = some (.write p slot snap seq b) →
    d1.engine.inFlight = some (.write p slot snap seq true)) ∧
  ((∀ p slot snap seq b, d.engine.inFlight ≠ some (.write p slot snap seq b)) →
    d1.engine.inFlight = d.engine.inFlight) ∧
  d1 = { d with
    run := .lossCommit, bkd := d1.bkd, settle := ⟨false, 0⟩, adc := d1.adc, sns := d1.sns, psq := d1.psq
    image := d1.image, engine := d1.engine, arbiter := { d.arbiter with queue := [] }, tmb := d1.tmb
    link := { d.link with deferred := [], resetHold := false } }

/-- Steps 1 and 2 of R95: the phase of the image, DRYING before COOLING before ANTICREASE, and then the older completion,
none being older than any. -/
def Dev.lossBefore (d : Dev) (p q : Pocket) : Prop :=
  ∃ x y, d.image.get p = some x ∧ d.image.get q = some y ∧
    (x.body.phase = .drying ∧ y.body.phase ≠ .drying ∨ x.body.phase = .cooling ∧ y.body.phase = .anticrease ∨
      x.body.phase = y.body.phase ∧
        ((d.ring.get p).completionAge = none ∧ (d.ring.get q).completionAge ≠ none ∨
          ∃ m n, (d.ring.get p).completionAge = some m ∧ (d.ring.get q).completionAge = some n ∧ m < n))

/-- The pocket whose queued commit is first in the loss-time order (R95). -/
def Dev.lossFirst (d : Dev) (p : Pocket) : Prop :=
  d.hasCommit p = true ∧
    (d.hasCommit p.other = false ∨ d.lossBefore p p.other ∨ p = .a ∧ ¬d.lossBefore p.other p)

/-- A pocket's queued commit starts its write at the write position (R88, R68): the next sequence number, the snapshot of
the image as it stands, and the image in flight. No other pocket's image moves, and no other part of the device. -/
def Dev.startsWrite (p : Pocket) (im : Image) (k : Kind) (d d' : Dev) : Prop :=
  d'.engine.inFlight = some (.write p (d.ring.get p).writePos
    ⟨im.body, im.cycle, k, if k = .close then im.closeReason else none, if k = .resume then im.resume else none⟩
    ((d.ring.get p).lastSeq + 1) false) ∧
  (d'.ring.get p).lastSeq = (d.ring.get p).lastSeq + 1 ∧ (d'.ring.get p).blank[(d.ring.get p).writePos] = false ∧
  d'.image.get p = some { im with commit := .inFlight k, pending := 0, dirty := false, window := none } ∧
  d'.hasCommit p = false ∧
  d' = { d with engine := d'.engine, ring := d'.ring, image := d'.image }

/-- The target slot of a pocket's next commit is marked blank. -/
def Dev.writable (d : Dev) (p : Pocket) : Prop := (d.ring.get p).blank[(d.ring.get p).writePos] = true

/-- The engine selects in RUN from a part with no operation in flight, no commit in service and no reset request waiting
(R85, R86, R88, R97, R100). In PRESENT and in DIP, the oldest COMMIT entry: its write into a blank target, and otherwise the
erase of its target, which does the work of a queued ERASE entry for that slot. In DIP nothing else. In PRESENT without a
COMMIT entry, the PARAM entry; otherwise the oldest ERASE entry; otherwise the next step of the FORMAT entry. -/
def Dev.selects (d d' : Dev) : Prop :=
  (d.bkd.monitor.state = .present ∨ d.bkd.monitor.state = .dip →
    ∀ (n : Nat) (e : Entry), d.engine.queue[n]? = some e → ∀ (q : Pocket) (im : Image), e.work = .commit q →
      d.image.get q = some im → ∀ k : Kind, im.commit = .queued k →
      (∀ m x, d.engine.queue[m]? = some x → x.work = .commit q → m = n) →
      (∀ m x, d.engine.queue[m]? = some x → x.work.isCommit = true → n ≤ m) →
      (d.writable q → d.startsWrite q im k d' ∧ d'.engine.queue = d.engine.queue.eraseIdx n ∧
        d'.image.get q.other = d.image.get q.other ∧ d'.ring.get q.other = d.ring.get q.other) ∧
      (¬d.writable q → d' = { d with engine := { d.engine with
        inFlight := some (.erase q (d.ring.get q).writePos .target), service := some ⟨q, none⟩
        queue := (d.engine.queue.eraseIdx n).filter fun x => x.work != .erase q (d.ring.get q).writePos } })) ∧
  (d.anyEntry Work.isCommit = false →
    (d.bkd.monitor.state = .dip → d' = d) ∧
    (d.bkd.monitor.state = .present →
      (∀ (n : Nat) (e : Entry), d.engine.queue[n]? = some e → ∀ second : Bool, e.work = .param second →
        (∀ m x, d.engine.queue[m]? = some x → x.work.isParam = true → n ≤ m) →
        ∃ ws : List Word, ws.length = 41 ∧ ws.take 40 = d.link.params.toList ∧ ws.foldl (· + ·) 0 = 0 ∧
          d' = { d with engine := { d.engine with
            inFlight := some (.param ws second e.age), queue := d.engine.queue.eraseIdx n } }) ∧
      (d.anyEntry Work.isParam = false →
        (∀ (n : Nat) (e : Entry), d.engine.queue[n]? = some e → ∀ (q : Pocket) (slot : Fin 16),
          e.work = .erase q slot → (∀ m x, d.engine.queue[m]? = some x → x.work.isErase = true → n ≤ m) →
          d' = { d with engine := { d.engine with
            inFlight := some (.erase q slot .entry), queue := d.engine.queue.eraseIdx n } }) ∧
        (d.anyEntry Work.isErase = false →
          (∀ (n : Nat) (e : Entry), d.engine.queue[n]? = some e → ∀ (q : Pocket) (next : Fin 16) (failed : Bool),
            e.work = .format q next failed →
            (∀ m x, d.engine.queue[m]? = some x → x.work.isFormat = true → m = n) →
            (d.ring.get q).blank[next] = false →
            d' = { d with engine := { d.engine with inFlight := some (.erase q next .format) } }) ∧
          (d.engine.queue = [] → d' = d)))))

/-- The work of the engine in LOSS_COMMIT from a part with no operation in flight and no commit in service (R16, R17,
R95, R96). No commit left ends it; one that meets a reserve below V_WRITE is skipped with every one after it; the first
of the loss-time order is written into a blank target, and skipped for another, and then the other pocket's is considered
likewise. -/
def Dev.lossWorks (d d' : Dev) : Prop :=
  (d.hasCommit .a = false → d.hasCommit .b = false → d.powersDown d') ∧
  (d.reserve.level < 360 → d.powersDown d') ∧
  ∀ p im k, 360 ≤ d.reserve.level → d.lossFirst p → d.image.get p = some im → im.commit = .queued k →
    (d.hasCommit p.other = true → d.image.get p.other ≠ none) →
    (d.writable p → d.startsWrite p im k d' ∧ d'.image.get p.other = d.image.get p.other ∧
      d'.hasCommit p.other = d.hasCommit p.other) ∧
    (¬d.writable p →
      (d.hasCommit p.other = false ∨ ¬d.writable p.other → d.powersDown d') ∧
      ∀ im2 k2, d.hasCommit p.other = true → d.image.get p.other = some im2 → im2.commit = .queued k2 →
        d.writable p.other →
        d.startsWrite p.other im2 k2 d' ∧ d'.image.get p = some { im with commit := .none } ∧ d'.hasCommit p = false)

/-! ### Laws of the part -/

/-- "The pending count of a pocket's working image is never greater than 15" (R62). -/
def Dev.pendingBounded (d : Dev) : Prop := ∀ p im, d.image.get p = some im → im.pending ≤ 15

/-- The replies in the transmit list and the deferred replies owed are never more than 10 together (R164). -/
def Dev.linkRoom (d : Dev) : Prop := d.link.transmit.length + d.link.deferred.length ≤ 10

/-- The ranges of the backup items: confidence 0 to 15, interval counter at most 600 s, ride-through 200 or 80 ms, stall
0 to 16 777 215 s, L 0 to 255 (R1, R7, Table 2-2). -/
def Dev.backupRanges (d : Dev) : Prop :=
  d.bkd.confidence ≤ 15 ∧ d.bkd.interval ≤ 600 ∧ (d.bkd.monitor.rideThrough = 200 ∨ d.bkd.monitor.rideThrough = 80) ∧
  ∀ p, (d.bkd.facts.get p).stall ≤ 16777215 ∧ (d.bkd.facts.get p).losses ≤ 255

/-- R26: "Outside STARTUP, a pocket's stall counter is 0 and stopped whenever the pocket is VACANT, DRYING, COOLING or
ANTICREASE", in the run states in which the main domain holds a pocket state. -/
def Dev.stallLaw (d : Dev) : Prop :=
  d.run = .run ∨ d.run = .lossCommit → ∀ p,
    (d.psq.get p).state = .vacant ∨ (d.psq.get p).state = .drying ∨ (d.psq.get p).state = .cooling ∨
      (d.psq.get p).state = .anticrease →
    (d.bkd.facts.get p).stall = 0 ∧ (d.bkd.facts.get p).stallRunning = false

/-- In BACKUP nothing of the main domain is left (R17). -/
def Dev.darkIsLost (d : Dev) : Prop := d.run = .backup → d.mainOff = d

/-- The queue holds at most 4 ERASE entries and at most one FORMAT entry (Table 5-2). -/
def Dev.eraseCapacity (d : Dev) : Prop := d.countEntries Work.isErase ≤ 4 ∧ d.countEntries Work.isFormat ≤ 1

/-- Every parameter word lies in the range of its index, and the table codes rise (Table 11-8, R76). -/
def Params.legal (p : Params) : Prop :=
  (∀ i, clampWord i p[i] = p[i]) ∧ ∀ k : Fin 9, 0 < k.val → p.code (prevBreakpoint k) < p.code k

end Sys2Proof.Machine
end

