-- ==== Sys2Proof/Certificates/Slice0/Obligations.lean ====
section
/-! DEFINITION. The statements for the provers.

Every statement about a command has as its conclusion that `exec` answers a next state. `{ s with dev := d' }` says
that the waiting commands and every byte of the retention array are as before; `d' = { d with x := d'.x }` says that
no field of the part but the named ones changes. -/

open Sys2Proof Sys2Proof.Machine

/-! ### The block -/

/-- A step with commands waiting takes the one at the front and runs it on the state with the queue's rest. -/
def Obligations.StepTakesTheFrontCommand : Prop :=
  ∀ (c : Instr) (rest : List Instr) (s : State), step { s with pending := c :: rest } = exec c { s with pending := rest }

/-- The model's choice (log entry 8): with no command waiting one millisecond passes. Nothing but counts moves, and each by
its amount: the absence and qualification times by 1 (R1, log entry 37), the timebase phase by 1 up to 1000 (R23), the
stall counter of a pocket that runs one, on its own phase (R25), and no other fact; with the main domain powered, the settle
timer up to 3000 (R6), the door holds up to 50 (R47), the gap of a frame (R163), and the ADC, where a thermistor conversion
that ran is over, a waiting one follows, a reserve conversion first, and the next of a routine sample starts 2 ms after the
one before (R75), or waits where a reserve conversion, 20 ms after the last, falls due together with it (R9; log entry 14). -/
def Obligations.IdleStepPassesAMillisecond : Prop :=
  ∀ s : State, s.pending = [] → s.dev.bkd.powered = true →
    ∃ d', step s = .next { s with dev := d' } ∧
      d'.bkd = { s.dev.bkd with
        tickMs := min 1000 (s.dev.bkd.tickMs + 1)
        monitor := { s.dev.bkd.monitor with
          absence := s.dev.bkd.monitor.absence + 1, qualification := s.dev.bkd.monitor.qualification + 1 }
        facts := d'.bkd.facts } ∧
      (∀ p, d'.bkd.facts.get p = { s.dev.bkd.facts.get p with
          stall := (d'.bkd.facts.get p).stall, stallMs := (d'.bkd.facts.get p).stallMs } ∧
        ((s.dev.bkd.facts.get p).stallRunning = false ∨ 1000 ≤ s.dev.bkd.tickMs →
          d'.bkd.facts.get p = s.dev.bkd.facts.get p) ∧
        ((s.dev.bkd.facts.get p).stallRunning = true → s.dev.bkd.tickMs < 1000 →
          (s.dev.bkd.facts.get p).stall ≤ 16777215 →
          ((s.dev.bkd.facts.get p).stallMs < 999 →
            (d'.bkd.facts.get p).stall = (s.dev.bkd.facts.get p).stall ∧
            (d'.bkd.facts.get p).stallMs = (s.dev.bkd.facts.get p).stallMs + 1) ∧
          ((s.dev.bkd.facts.get p).stallMs = 999 →
            (d'.bkd.facts.get p).stall = min 16777215 ((s.dev.bkd.facts.get p).stall + 1) ∧
            (d'.bkd.facts.get p).stallMs = 0))) ∧
      (s.dev.run = .backup → d' = { s.dev with bkd := d'.bkd }) ∧
      (s.dev.run ≠ .backup →
        d' = { s.dev with
          bkd := d'.bkd
          settle := if s.dev.settle.flag then { s.dev.settle with ms := min 3000 (s.dev.settle.ms + 1) } else s.dev.settle
          psq := ⟨{ s.dev.psq.a with doorHoldMs := min 50 (s.dev.psq.a.doorHoldMs + 1) },
            { s.dev.psq.b with doorHoldMs := min 50 (s.dev.psq.b.doorHoldMs + 1) }⟩
          link := if s.dev.link.receiver = .hunting then s.dev.link else { s.dev.link with gapMs := s.dev.link.gapMs + 1 }
          adc := d'.adc } ∧
        d'.adc.reserveMs = s.dev.adc.reserveMs + 1 ∧
        (s.dev.adc.running = some .reserve →
          d'.adc.running = some .reserve ∧ d'.adc.reserveWaits = s.dev.adc.reserveWaits) ∧
        (s.dev.adc.running ≠ some .reserve →
          (s.dev.adc.reserveWaits = true → d'.adc.running = some .reserve ∧ d'.adc.reserveWaits = false) ∧
          (s.dev.adc.reserveWaits = false → ∀ q, s.dev.adc.thermistorWaits = (Per.both false).set q true →
            d'.adc.running = some (.thermistor q))) ∧
        ((∀ q, (s.dev.sns.get q).sampling = .none) →
          s.dev.adc.running = some .reserve ∨
            s.dev.adc.running = none ∧ s.dev.adc.reserveWaits = false ∧ s.dev.adc.thermistorWaits = .both false →
          d'.adc = { s.dev.adc with reserveMs := s.dev.adc.reserveMs + 1 }) ∧
        ∀ p n, s.dev.adc.running = none → s.dev.adc.reserveWaits = false → s.dev.adc.thermistorWaits = .both false →
          s.dev.adc.started.get p = n → 1 ≤ n → n < 4 → (s.dev.sns.get p).sampling = .routine →
          (s.dev.sns.get p.other).sampling = .none →
          (s.dev.adc.sinceMs.get p = 0 → d'.adc = { s.dev.adc with
            sinceMs := s.dev.adc.sinceMs.set p 1, reserveMs := s.dev.adc.reserveMs + 1 }) ∧
          (s.dev.adc.sinceMs.get p = 1 → s.dev.adc.reserveMs ≠ 19 → d'.adc = { s.dev.adc with
            running := some (.thermistor p), started := s.dev.adc.started.set p (n + 1)
            sinceMs := s.dev.adc.sinceMs.set p 0, reserveMs := s.dev.adc.reserveMs + 1 }) ∧
          (s.dev.adc.sinceMs.get p = 1 → s.dev.adc.reserveMs = 19 → d'.adc = { s.dev.adc with
            thermistorWaits := s.dev.adc.thermistorWaits.set p true
            sinceMs := s.dev.adc.sinceMs.set p 2, reserveMs := 20 }))

/-- The machine right after reset is the part first supplied: in BACKUP, the backup items at the values of Table 2-1,
every byte of the array erased (R79), and every law of Sys2Proof/Safety.lean holding. The pin levels are the model's
(log entry 3). -/
def Obligations.ResetIsFirstSupply : Prop :=
  State.reset.pending = [] ∧ (∀ a, State.reset.array.read a = 0xFF) ∧ State.reset.dev.run = .backup ∧
    State.reset.dev.bkd.continuity = false ∧ State.reset.dev.bkd.confidence = 8 ∧ State.reset.dev.bkd.interval = 0 ∧
    State.reset.dev.bkd.monitor = ⟨.absent, 0, 0, 200⟩ ∧
    (∀ p, (State.reset.dev.bkd.facts.get p).suspended = false ∧ (State.reset.dev.bkd.facts.get p).stall = 0 ∧
      (State.reset.dev.bkd.facts.get p).stallRunning = false ∧ (State.reset.dev.bkd.facts.get p).losses = 0 ∧
      (State.reset.dev.bkd.facts.get p).latch = false) ∧
    State.reset.array.wf = true ∧ State.reset.dev.pendingBounded ∧ State.reset.dev.linkRoom ∧
    State.reset.dev.backupRanges ∧ State.reset.dev.stallLaw ∧ State.reset.dev.darkIsLost ∧ State.reset.dev.eraseCapacity ∧
    Params.legal State.reset.dev.link.params

/-! ### Mains (ZERO_CROSS_EDGE, DIP_ENTRY, QUALIFY_ABORT, LOSS_DECLARATION, MAINS_RETURN, SETTLE_END, CONFIDENCE_RISE) -/

/-- An edge outside DIP sets the absence time to 0, and in ABSENT it moves the monitor to QUALIFYING with both times
at 0 (R2, R4). An edge in DIP recovers the dip (R3, first case): PRESENT, absence 0, confidence down by 2 stopping at 0,
the interval counter from 0; where the main domain is powered, SUPPLY is raised and settle begins; a paused tumble timer
of a pocket that is not in WAITSTART goes on in its interrupted phase with its position (R159); in RUN, with the reserve
ready and no reset request waiting, the start test of R139 is made on both pockets, and otherwise none is; and in RUN the
engine selects again (R86), as `Dev.selects` spells out, so that a queued PARAM, ERASE or FORMAT entry that waited goes on,
while an operation in flight runs to its end. -/
def Obligations.ZeroCrossEdge : Prop :=
  ∀ s : State, s.dev.bkd.powered = true →
    (s.dev.bkd.monitor.state ≠ .dip →
      exec .zeroCrossEdge s = .next { s with dev := { s.dev with bkd := { s.dev.bkd with
        monitor :=
          if s.dev.bkd.monitor.state = .absent then
            { s.dev.bkd.monitor with state := .qualifying, absence := 0, qualification := 0 }
          else { s.dev.bkd.monitor with absence := 0 } } } }) ∧
    (s.dev.bkd.monitor.state = .dip →
      ∃ d', exec .zeroCrossEdge s = .next { s with dev := d' } ∧
        d'.bkd.monitor = { s.dev.bkd.monitor with state := .present, absence := 0 } ∧
        d'.bkd.confidence = s.dev.bkd.confidence - 2 ∧ d'.bkd.interval = 0 ∧
        (s.dev.run ≠ .backup → d'.settle = ⟨true, 0⟩ ∧ d'.link.attention.supply = true) ∧
        (∀ p, (s.dev.psq.get p).state ≠ .waitstart → (s.dev.tmb.get p).state = .paused →
          ((s.dev.tmb.get p).interrupted = some .burst →
            d'.tmb.get p = { s.dev.tmb.get p with state := .burst, interrupted := none }) ∧
          ((s.dev.tmb.get p).interrupted = some .rest →
            d'.tmb.get p = { s.dev.tmb.get p with state := .rest, interrupted := none })) ∧
        (∀ p, s.dev.run = .run → s.dev.link.resetHold = false → s.dev.reserve.ready = true → s.dev.startTested p d') ∧
        (s.dev.run ≠ .run ∨ s.dev.link.resetHold = true ∨ s.dev.reserve.ready = false →
          d'.psq = s.dev.psq ∧ d'.bkd.facts = s.dev.bkd.facts) ∧
        (s.dev.run = .run → (∀ p, (s.dev.psq.get p).state ≠ .waitstart) →
          (s.dev.link.resetHold = false → s.dev.engine.inFlight = none → s.dev.engine.service = none →
            { s.dev with
              bkd := d'.bkd, settle := d'.settle, tmb := d'.tmb
              link := { s.dev.link with attention := { s.dev.link.attention with supply := true } } : Dev }.selects d') ∧
          (s.dev.link.resetHold = true ∨ s.dev.engine.inFlight ≠ none → d'.engine = s.dev.engine)) ∧
        d'.bkd = { s.dev.bkd with
          monitor := d'.bkd.monitor, confidence := d'.bkd.confidence, interval := d'.bkd.interval, facts := d'.bkd.facts } ∧
        d' = { s.dev with
          bkd := d'.bkd, settle := d'.settle, psq := d'.psq, image := d'.image, engine := d'.engine, ring := d'.ring,
          journal := d'.journal, tmb := d'.tmb, link := d'.link })

/-- Entry to DIP (R2): the ride-through is latched from the mode in force, the interval counter is set to 0, settle is
cancelled; a tumble timer in BURST or REST pauses with its position and interrupted phase (R159). Where parameters are
in force and the absence time has reached the dip gap, it keeps running across the entry. -/
def Obligations.DipEntry : Prop :=
  ∀ s : State, s.dev.bkd.powered = true → s.dev.bkd.monitor.state = .present →
    ∃ d', exec .dipEntry s = .next { s with dev := d' } ∧
      d'.bkd.monitor.state = .dip ∧
      d'.bkd.monitor.rideThrough = (if 8 ≤ s.dev.bkd.confidence then 200 else 80) ∧
      d'.bkd.monitor.qualification = s.dev.bkd.monitor.qualification ∧
      s.dev.bkd.monitor.absence ≤ d'.bkd.monitor.absence ∧
      (s.dev.run ≠ .backup → s.dev.link.loaded = true → s.dev.link.params[21].toNat ≤ s.dev.bkd.monitor.absence →
        d'.bkd.monitor.absence = s.dev.bkd.monitor.absence ∧ d'.freeCount = s.dev.freeCount) ∧
      d'.bkd.interval = 0 ∧ d'.settle = ⟨false, 0⟩ ∧
      (∀ p, d'.tmb.get p =
        match (s.dev.tmb.get p).state with
        | .burst => { s.dev.tmb.get p with state := .paused, interrupted := some .burst }
        | .rest => { s.dev.tmb.get p with state := .paused, interrupted := some .rest }
        | .idle => s.dev.tmb.get p
        | .paused => s.dev.tmb.get p) ∧
      d'.bkd = { s.dev.bkd with monitor := d'.bkd.monitor, interval := d'.bkd.interval } ∧
      d' = { s.dev with bkd := d'.bkd, settle := d'.settle, tmb := d'.tmb, freeCount := d'.freeCount }

/-- In QUALIFYING a gap returns the monitor to ABSENT; no loss is declared and the confidence score does not change (R4). -/
def Obligations.QualifyAbort : Prop :=
  ∀ s : State, s.dev.bkd.powered = true → s.dev.bkd.monitor.state = .qualifying →
    ∃ d', exec .qualifyAbort s = .next { s with dev := d' } ∧
      d'.bkd.monitor = { s.dev.bkd.monitor with state := .absent, absence := d'.bkd.monitor.absence } ∧
      d'.bkd = { s.dev.bkd with monitor := d'.bkd.monitor } ∧
      d' = { s.dev with bkd := d'.bkd, freeCount := d'.freeCount }

/-- A loss in STARTUP (R18): confidence down by 4; L rises by 1, up to 255, for each pocket whose suspended flag is set,
and its stall counter is left as it is; the main domain powers down at once, so nothing of it is left. What the items of
the dark main domain then hold (`d'.mainOff = d'`) is the model's choice (log entry 4). -/
def Obligations.LossInStartup : Prop :=
  ∀ s : State, s.dev.bkd.powered = true → s.dev.bkd.monitor.state = .dip → s.dev.run = .startup →
    ∃ d', exec .lossDeclaration s = .next { s with dev := d' } ∧
      d'.run = .backup ∧ d'.mainOff = d' ∧ d'.pins = s.dev.pins ∧
      d'.bkd.monitor.state = .absent ∧ d'.bkd.confidence = s.dev.bkd.confidence - 4 ∧
      (∀ p, d'.bkd.facts.get p =
        if (s.dev.bkd.facts.get p).suspended then
          { s.dev.bkd.facts.get p with losses := min 255 ((s.dev.bkd.facts.get p).losses + 1) }
        else s.dev.bkd.facts.get p) ∧
      d'.bkd = { s.dev.bkd with
        monitor := d'.bkd.monitor, confidence := d'.bkd.confidence, facts := d'.bkd.facts }

/-- A loss in RUN (R15, R41, R71, R94 to R96). Every block responds as `Dev.lossResponse` spells out: confidence down by 4,
monitor ABSENT, a reserve conversion due; a pocket in a cycle gets its suspended flag, a running stall counter and L + 1, and
is SUSPENDED without a choice; its mark goes where its CLOSE is unwritten; each image takes its SUSPEND commit or recommit
request; ERASE, FORMAT and PARAM entries, the grant queue and the deferred replies are discarded. With an operation in
flight that is all, in LOSS_COMMIT. With none, the engine works on at once by `Dev.lossWorks`: LOSS_COMMIT goes on where a
SUSPEND commit starts its write, and otherwise the main domain powers down. The model's choices: what the items of the dark
main domain hold (log entry 4), that this first start compares the level published before the loss (log entry 23), and that
a VACANT pocket whose queued STARTUP closure becomes a SUSPEND commit loses its mark too (log entry 24). -/
def Obligations.LossInRun : Prop :=
  ∀ s : State, s.dev.bkd.powered = true → s.dev.bkd.monitor.state = .dip → s.dev.run = .run →
    ∃ d' d1, exec .lossDeclaration s = .next { s with dev := d' } ∧ s.dev.lossResponse d1 ∧
      (s.dev.engine.inFlight ≠ none → d' = d1) ∧
      (s.dev.engine.inFlight = none → (∀ p snap, s.dev.engine.service ≠ some ⟨p, some snap⟩) → d1.lossWorks d') ∧
      d'.bkd = d1.bkd ∧ (d'.run = .lossCommit ∨ d'.run = .backup)

/-- Mains return (R4, R13, R22): PRESENT, the interval counter from 0, settle clear. In BACKUP with the continuity flag
clear a cold start begins: the confidence score is 8, every backup fact is clear, the continuity flag is set, COLD_START
stands with FAULT, and both pockets begin STARTUP VACANT with start kind COLD. In BACKUP with the flag set a warm start
begins: every other backup item is left as it was, and the start kind is WARM. With the main domain powered nothing else
changes. Two clauses are the model's choices: the qualification time is then at least 1000 (log entry 8), and a return that
finds the main domain powered does no more than this (log entry 22). -/
def Obligations.MainsReturn : Prop :=
  ∀ s : State, s.dev.bkd.powered = true → s.dev.bkd.monitor.state = .qualifying →
    (s.dev.run = .backup → s.dev.bkd.continuity = false →
      ∃ d', exec .mainsReturn s = .next { s with dev := d' } ∧
        d'.run = .startup ∧ d'.pins = s.dev.pins ∧
        d'.bkd = { s.dev.bkd with
          continuity := true, confidence := 8, interval := 0, facts := .both .clear
          monitor := { s.dev.bkd.monitor with
            state := .present, qualification := max s.dev.bkd.monitor.qualification 1000 } } ∧
        d'.faults = ⟨false, false, true⟩ ∧ d'.link.attention = ⟨false, false, true, false⟩ ∧
        d'.link.resetHold = s.dev.pins.nresetLow ∧ d'.settle.flag = false ∧ d'.reserve = ⟨0, false⟩ ∧ d'.adc.running = none ∧
        d'.engine.inFlight = none ∧ d'.engine.queue = [] ∧ d'.scan.state = .idle ∧ d'.arbiter = ⟨[], 0⟩ ∧
        ∀ p, (d'.psq.get p).state = .vacant ∧ (d'.psq.get p).mark = none ∧ (d'.psq.get p).startKind = .cold ∧
          (d'.psq.get p).choice = none ∧ (d'.psq.get p).doorOpen = s.dev.pins.doorOpen.get p ∧
          (d'.psq.get p).advisory = .empty ∧ (d'.psq.get p).blocking = .empty ∧ d'.image.get p = none ∧
          d'.plan.get p = none ∧ (d'.sns.get p).published = none ∧ (d'.tmb.get p).state = .idle) ∧
    (s.dev.run = .backup → s.dev.bkd.continuity = true →
      ∃ d', exec .mainsReturn s = .next { s with dev := d' } ∧
        d'.run = .startup ∧ d'.pins = s.dev.pins ∧
        d'.bkd = { s.dev.bkd with
          interval := 0
          monitor := { s.dev.bkd.monitor with
            state := .present, qualification := max s.dev.bkd.monitor.qualification 1000 } } ∧
        d'.faults = ⟨false, false, false⟩ ∧ d'.link.attention = ⟨false, false, false, false⟩ ∧
        d'.link.resetHold = s.dev.pins.nresetLow ∧
        ∀ p, (d'.psq.get p).state = .vacant ∧ (d'.psq.get p).mark = none ∧ (d'.psq.get p).startKind = .warm ∧
          (d'.psq.get p).choice = none ∧ (d'.psq.get p).doorOpen = s.dev.pins.doorOpen.get p ∧ d'.image.get p = none ∧
          d'.plan.get p = none) ∧
    (s.dev.run ≠ .backup →
      exec .mainsReturn s = .next { s with dev := { s.dev with
        settle := ⟨false, 0⟩
        bkd := { s.dev.bkd with
          interval := 0
          monitor := { s.dev.bkd.monitor with
            state := .present, qualification := max s.dev.bkd.monitor.qualification 1000 } } } })

/-- The settle flag clears when its timer reaches 3000 ms (R6). In PRESENT with the interval counter at 600 s the score
rises by 1, staying at 15, and the counter restarts at 0 (R7); before 600 s nothing changes. -/
def Obligations.SettleEndAndConfidenceRise : Prop :=
  ∀ s : State,
    (s.dev.settle.flag = true → exec .settleEnd s = .next { s with dev := { s.dev with settle := ⟨false, 0⟩ } }) ∧
    (s.dev.bkd.powered = true → s.dev.bkd.monitor.state = .present →
      exec .confidenceRise s = .next { s with dev := { s.dev with bkd :=
        if 600 ≤ s.dev.bkd.interval then { s.dev.bkd with confidence := min 15 (s.dev.bkd.confidence + 1), interval := 0 }
        else s.dev.bkd } })

/-! ### Reserve (RESERVE_CONVERSION_DUE, RESERVE_RESULT) -/

/-- A reserve conversion that falls due in STARTUP, RUN or LOSS_COMMIT starts on a free ADC, and waits for the conversion
that runs to end (R9); the time to the next is counted from it. A routine sample that falls due in RUN, while no reset
request awaits its effect, begins as `Dev.sampleBegins` spells out: its first conversion starts on a free ADC, and waits
otherwise (R75) and where a reserve conversion falls due together with it (R9). Nothing else changes. That such a reserve
conversion is known by the 20 ms of R9 is the model's choice (log entry 14). -/
def Obligations.ConversionsBegin : Prop :=
  ∀ s : State,
    (s.dev.run ≠ .backup →
      exec .reserveConversionDue s = .next { s with dev := { s.dev with adc :=
        if s.dev.adc.running = none then { s.dev.adc with running := some .reserve, reserveMs := 0 }
        else { s.dev.adc with reserveWaits := true, reserveMs := 0 } } }) ∧
    ∀ p, s.dev.run = .run → s.dev.link.resetHold = false →
      ∃ d', exec (.routineSampleDue p) s = .next { s with dev := d' } ∧ s.dev.sampleBegins p d'.sns d'.adc ∧
        d' = { s.dev with sns := d'.sns, adc := d'.adc }

/-- The result of a reserve conversion under way stores the level and updates ready with its hysteresis (R10), and the ADC
goes to a waiting conversion, a reserve one first (R9). In RUN a result that clears ready
raises RESERVE_LOW with FAULT where it was absent, and one that sets ready clears it (R11); with ready then set, mains
PRESENT and no reset request waiting, the start test of R139 is made on both pockets, and otherwise none is. In STARTUP and
LOSS_COMMIT nothing but the reserve and the ADC changes. The model's choices (log entry 13): a result that comes while
another conversion runs and a reserve conversion waits is the waiting one's, and with no reserve conversion under way there
is no result, and nothing changes. -/
def Obligations.ReserveResult : Prop :=
  ∀ (s : State) (level : Nat), level ≤ 600 → s.dev.run ≠ .backup →
    (s.dev.adc.running ≠ some .reserve → s.dev.adc.reserveWaits = false → exec (.reserveResult level) s = .next s) ∧
    (s.dev.adc.running = some .reserve ∨ s.dev.adc.reserveWaits = true →
      ∃ d', exec (.reserveResult level) s = .next { s with dev := d' } ∧
        d'.reserve.level = level ∧
        (d'.reserve.ready = true ↔
          (s.dev.reserve.ready = false ∧ 460 ≤ level) ∨ (s.dev.reserve.ready = true ∧ 440 ≤ level)) ∧
        (s.dev.adc.running = some .reserve → s.dev.adc.reserveWaits = true →
          d'.adc = { s.dev.adc with reserveWaits := false }) ∧
        (s.dev.adc.running ≠ some .reserve ∨ s.dev.adc.reserveWaits = false →
          d'.adc.reserveWaits = false ∧
          (s.dev.adc.thermistorWaits = .both false → d'.adc = { s.dev.adc with running := none, reserveWaits := false }) ∧
          ∀ p, s.dev.adc.thermistorWaits = (Per.both false).set p true →
            d'.adc = ⟨some (.thermistor p), false, .both false,
              s.dev.adc.started.set p (s.dev.adc.started.get p + 1), s.dev.adc.sinceMs.set p 0,
              s.dev.adc.reserveMs⟩) ∧
        (s.dev.run = .run →
          (s.dev.reserve.ready = true → level < 440 → d'.faults.reserveLow = true ∧
            (s.dev.faults.reserveLow = false → d'.link.attention.fault = true)) ∧
          (s.dev.reserve.ready = false → 460 ≤ level → d'.faults.reserveLow = false) ∧
          (d'.reserve.ready = s.dev.reserve.ready → d'.faults = s.dev.faults) ∧
          (s.dev.link.resetHold = false → s.dev.bkd.monitor.state = .present → d'.reserve.ready = true →
            ∀ p, s.dev.startTested p d') ∧
          (s.dev.link.resetHold = true ∨ s.dev.bkd.monitor.state ≠ .present ∨ d'.reserve.ready = false →
            d'.psq = s.dev.psq ∧ d'.bkd = s.dev.bkd)) ∧
        (s.dev.run ≠ .run → d' = { s.dev with reserve := d'.reserve, adc := d'.adc }) ∧
        d'.bkd = { s.dev.bkd with facts := d'.bkd.facts } ∧
        d' = { s.dev with
          reserve := d'.reserve, adc := d'.adc, faults := d'.faults, bkd := d'.bkd, psq := d'.psq, image := d'.image
          engine := d'.engine, ring := d'.ring, journal := d'.journal, tmb := d'.tmb, link := d'.link })

/-! ### The backup domain (BACKUP_POWER_UP, BACKUP_COLLAPSE, BACKUP_TICK, DOOR_SAMPLE_MARK) -/

/-- At backup power-up the backup items take the values of Table 2-1 (R20), and nothing else changes. -/
def Obligations.BackupPowerUp : Prop :=
  ∀ s : State, s.dev.bkd.powered = false →
    ∃ b, exec .backupPowerUp s = .next { s with dev := { s.dev with bkd := b } } ∧
      b.powered = true ∧ b.continuity = false ∧ b.confidence = 8 ∧ b.interval = 0 ∧ b.monitor = ⟨.absent, 0, 0, 200⟩ ∧
      ∀ p, (b.facts.get p).suspended = false ∧ (b.facts.get p).stall = 0 ∧ (b.facts.get p).stallRunning = false ∧
        (b.facts.get p).losses = 0 ∧ (b.facts.get p).latch = false

/-- A backup collapse (R20, R21): the backup domain stops, the part is in BACKUP with nothing of the main domain left,
and the waiting commands and the pins are as before. The array is as before but for the page of an operation in flight:
a write into a blank slot leaves a prefix of its record and then erased bytes; an erase leaves each byte either erased
or as before; a PARAM operation touches page 32 only. The model's choices are what the items of the dark main domain
hold (`t.dev.mainOff = t.dev`, log entry 4), and how a cut write and a cut erase leave their page: a prefix, and bytes
erased or as before (log entry 34). -/
def Obligations.BackupCollapse : Prop :=
  ∀ (s : State) (reached : Nat) (kept : List Nat), s.dev.bkd.powered = true → s.array.wf = true →
    ∃ t, exec (.backupCollapse reached kept) s = .next t ∧
      t.pending = s.pending ∧ t.dev.run = .backup ∧ t.dev.bkd.powered = false ∧ t.dev.mainOff = t.dev ∧
      t.dev.pins = s.dev.pins ∧
      (s.dev.engine.inFlight = none → t.array = s.array) ∧
      (∀ p slot snap seq b, s.dev.engine.inFlight = some (.write p slot snap seq b) →
        (∀ a, slotPage p slot * 128 ≤ a → a < slotPage p slot * 128 + 128 → s.array.read a = 0xFF) → ∀ a, t.array.read a =
        if slotPage p slot * 128 ≤ a ∧ a < slotPage p slot * 128 + 128 then
          if a - slotPage p slot * 128 < reached then (snap.record p seq).written.getD (a - slotPage p slot * 128) 0xFF else 0xFF
        else s.array.read a) ∧
      (∀ p slot u, s.dev.engine.inFlight = some (.erase p slot u) → ∀ a, t.array.read a =
        if slotPage p slot * 128 ≤ a ∧ a < slotPage p slot * 128 + 128 then
          if a - slotPage p slot * 128 ∈ kept then s.array.read a else 0xFF
        else s.array.read a) ∧
      (∀ ws b n, s.dev.engine.inFlight = some (.param ws b n) → ∀ a, ¬(4096 ≤ a ∧ a < 4224) →
        t.array.read a = s.array.read a)

/-- A 1 s tick (R7, R23, R25, R65, R142, R154): in PRESENT the interval counter rises, no further than 600; a stall
counter that runs on the tick's own phase rises by 1 up to 16 777 215 and a stopped one stays; with the main domain
powered, each running merge window and the stagger count rise by 1, and a timer's position rises in BURST and REST, as
far as on and period, and stays in PAUSED and IDLE. The model's choices are that a tick carries a stall counter over the
milliseconds left to it, on the counter's own phase (log entry 9), and that a count waits at its figure for the command of
the event it leads to (log entry 10). -/
def Obligations.BackupTick : Prop :=
  ∀ s : State, s.dev.bkd.powered = true →
    ∃ d', exec .backupTick s = .next { s with dev := d' } ∧
      d'.bkd.interval =
        (if s.dev.bkd.monitor.state = .present then min 600 (s.dev.bkd.interval + 1) else s.dev.bkd.interval) ∧
      (∀ p, (s.dev.bkd.facts.get p).stallRunning = false → d'.bkd.facts.get p = s.dev.bkd.facts.get p) ∧
      (∀ p, (s.dev.bkd.facts.get p).stallRunning = true → s.dev.bkd.tickMs = 0 → (s.dev.bkd.facts.get p).stallMs < 1000 →
        d'.bkd.facts.get p = { s.dev.bkd.facts.get p with stall := min 16777215 ((s.dev.bkd.facts.get p).stall + 1) }) ∧
      (s.dev.run ≠ .backup →
        d'.arbiter = { s.dev.arbiter with stagger := min 255 (s.dev.arbiter.stagger + 1) } ∧
        (∀ p, d'.image.get p = (s.dev.image.get p).map fun im => { im with window := im.window.map (· + 1) }) ∧
        (∀ p, (s.dev.tmb.get p).state = .idle ∨ (s.dev.tmb.get p).state = .paused → d'.tmb.get p = s.dev.tmb.get p) ∧
        (∀ p g, (s.dev.tmb.get p).active = some g → (s.dev.tmb.get p).state = .burst →
          d'.tmb.get p = { s.dev.tmb.get p with position := min g.on ((s.dev.tmb.get p).position + 1) }) ∧
        (∀ p g, (s.dev.tmb.get p).active = some g → (s.dev.tmb.get p).state = .rest →
          d'.tmb.get p = { s.dev.tmb.get p with position := min g.period ((s.dev.tmb.get p).position + 1) })) ∧
      (s.dev.run = .backup → d' = { s.dev with bkd := d'.bkd }) ∧
      d'.bkd = { s.dev.bkd with tickMs := 0, interval := d'.bkd.interval, facts := d'.bkd.facts } ∧
      d' = { s.dev with bkd := d'.bkd, image := d'.image, tmb := d'.tmb, arbiter := d'.arbiter }

/-- A 250 ms sample mark (R28, R49). Outside RUN it sets the latch of each watched pocket whose door reads open and does
nothing else. In RUN the setting is reported: a pocket that is not waiting, or carries a mark, disregards it; a waiting
pocket without a mark whose gates all pass is replanned CLOSE DOOR, marked DOOR, and loses its choice and its place in
the grant queue. -/
def Obligations.DoorSampleMark : Prop :=
  ∀ s : State, s.dev.bkd.powered = true →
    ∃ d', exec .doorSampleMark s = .next { s with dev := d' } ∧
      (s.dev.run ≠ .run → d' = { s.dev with bkd := { s.dev.bkd with facts := d'.bkd.facts } } ∧
        ∀ p, d'.bkd.facts.get p =
          if (s.dev.bkd.facts.get p).stallRunning ∧ s.dev.pins.doorOpen.get p then
            { s.dev.bkd.facts.get p with latch := true }
          else s.dev.bkd.facts.get p) ∧
      (s.dev.run = .run → ∀ p, (s.dev.bkd.facts.get p).stallRunning = true → s.dev.pins.doorOpen.get p = true →
        (s.dev.bkd.facts.get p).latch = false →
        ((s.dev.psq.get p).state ≠ .planned ∧ (s.dev.psq.get p).state ≠ .waitstart ∨ (s.dev.psq.get p).mark ≠ none →
          d'.bkd.facts.get p = { s.dev.bkd.facts.get p with latch := true } ∧ d'.psq.get p = s.dev.psq.get p ∧
          d'.plan.get p = s.dev.plan.get p) ∧
        (((s.dev.psq.get p).state = .planned ∨ (s.dev.psq.get p).state = .waitstart) → (s.dev.psq.get p).mark = none →
          (s.dev.psq.get p).startKind = .warm → (s.dev.bkd.facts.get p).suspended = true →
          (s.dev.psq.get p).blocking = .empty →
          ((s.dev.psq.get p).strict = false ∨ (s.dev.psq.get p).advisory = .empty) →
          (s.dev.journal.get p).basis ≠ none →
          (∃ pl, d'.plan.get p = some pl ∧ pl.outcome = .close ∧ pl.reason = .door ∧ pl.latch = true ∧
            pl.stall = (s.dev.bkd.facts.get p).stall) ∧
          (d'.psq.get p).mark = some .door ∧ (d'.psq.get p).choice = none ∧
          (d'.psq.get p).state = (s.dev.psq.get p).state ∧ p ∉ d'.arbiter.queue ∧ (d'.image.get p).isSome = true)) ∧
      d' = { s.dev with
        bkd := d'.bkd, psq := d'.psq, image := d'.image, engine := d'.engine, ring := d'.ring, journal := d'.journal
        plan := d'.plan, arbiter := d'.arbiter, tmb := d'.tmb, link := d'.link }

/-! ### Doors and nRESET (DOOR_INPUT_CHANGE, DOOR_DEBOUNCE, NRESET_ASSERT, NRESET_RELEASE) -/

/-- The raw level of DOOR_x changes, and its hold starts again (R47). While a burst runs with mains PRESENT, the motor
request is active exactly when the input reads closed: it falls when the input first reads open and rises again when it
reads closed (R156). -/
def Obligations.DoorInputChange : Prop :=
  ∀ (s : State) (p : Pocket) (isOpen : Bool), s.dev.pins.doorOpen.get p ≠ isOpen →
    ∃ d', exec (.doorInputChange p isOpen) s = .next { s with dev := d' } ∧
      d' = { s.dev with
        pins := { s.dev.pins with doorOpen := s.dev.pins.doorOpen.set p isOpen }
        psq := s.dev.psq.set p { s.dev.psq.get p with doorHoldMs := 0 } } ∧
      (s.dev.run = .run → s.dev.link.resetHold = false → (s.dev.psq.get p).state = .anticrease →
        (s.dev.psq.get p).mark = none → (s.dev.tmb.get p).state = .burst → s.dev.bkd.monitor.state = .present →
        d'.motorRun p = !isOpen)

/-- The debounced reading takes the raw level (R47). A change to OPEN in ANTICREASE without a mark stops the timer, sets
the mark DOOR and gives a CLOSE trigger with reason DOOR (R48, R66, R67): an image without an entry gets one, which may start
its write at once, a queued entry becomes CLOSE, and a write in flight gets a CLOSE recommit request, a held close reason
staying. Under JOURNAL_FAIL the closure takes effect at once (R37). Any other change is not acted on. The other pocket is
spared. -/
def Obligations.DoorDebounce : Prop :=
  ∀ (s : State) (p : Pocket), s.dev.run ≠ .backup → s.dev.pins.doorOpen.get p ≠ (s.dev.psq.get p).doorOpen →
    ∃ d', exec (.doorDebounce p) s = .next { s with dev := d' } ∧
      (d'.psq.get p).doorOpen = s.dev.pins.doorOpen.get p ∧
      ((s.dev.psq.get p).state ≠ .anticrease ∨ (s.dev.psq.get p).mark ≠ none ∨ s.dev.pins.doorOpen.get p = false →
        d' = { s.dev with psq := s.dev.psq.set p { s.dev.psq.get p with doorOpen := s.dev.pins.doorOpen.get p } }) ∧
      ((s.dev.psq.get p).state = .anticrease → (s.dev.psq.get p).mark = none → s.dev.pins.doorOpen.get p = true →
        d'.tmb.get p = ⟨.idle, none, none, (s.dev.tmb.get p).burstsLeft, 0, none, .forward⟩ ∧ d'.motorRun p = false ∧
        ((s.dev.psq.get p).blocking.journalFail = false →
          d'.psq = s.dev.psq.set p { s.dev.psq.get p with doorOpen := true, mark := some .door } ∧ d'.bkd = s.dev.bkd ∧
          ∀ im, s.dev.image.get p = some im → ∃ im', d'.image.get p = some im' ∧
            im'.body = im.body ∧ im'.cycle = im.cycle ∧
            im'.closeReason = some (match im.closeReason with | some r => r | none => .door) ∧
            (im.commit = .none → im'.commit = .queued .close ∨
              im'.commit = .inFlight .close ∧ s.dev.run = .run ∧ s.dev.engine.inFlight = none) ∧
            (∀ k, im.commit = .queued k → im'.commit = .queued .close ∨
              im'.commit = .inFlight .close ∧ s.dev.run = .run ∧ s.dev.engine.inFlight = none) ∧
            (∀ k, im.commit = .inFlight k → im'.commit = .inFlight k ∧ im'.recommit = some .close) ∧
            ((∀ k, im.commit ≠ .inFlight k) → im'.recommit = im.recommit)) ∧
        ((s.dev.psq.get p).blocking.journalFail = true →
          (d'.psq.get p).state = .vacant ∧ (d'.psq.get p).mark = none ∧ d'.image.get p = none ∧
          d'.bkd.facts.get p = .clear ∧ d'.link.attention.closed = true)) ∧
      s.dev.sparesOther p d' ∧
      ((s.dev.run ≠ .run ∨ s.dev.engine.inFlight ≠ none) → d'.image.get p.other = s.dev.image.get p.other) ∧
      (d'.image.get p.other).map (·.body) = (s.dev.image.get p.other).map (·.body) ∧
      d' = { s.dev with
        psq := d'.psq, tmb := d'.tmb, image := d'.image, engine := d'.engine, ring := d'.ring, journal := d'.journal
        bkd := d'.bkd, link := d'.link }

/-- nRESET goes low (R19). In RUN with an operation in flight the request is taken and waits: the reset hold is set, the
timers stop and sampling stops, and the run state stays. In RUN with none, and in STARTUP, it takes effect at once: the
main domain as for a warm start, held. In LOSS_COMMIT and BACKUP it is not taken. The backup domain is left as it was.
A request that waits takes effect when the operation in flight ends, whichever it is and however it ends (R19, R87): the
main domain as for a warm start, with nothing queued, owed or in flight, held while nRESET is low; a write that completed has
left its record in the array and has cleared L. nRESET returns high: a held main domain is held no more and its STARTUP
begins with the parameter load; a request that still waits in RUN goes on waiting. -/
def Obligations.Nreset : Prop :=
  ∀ s : State,
    (s.dev.pins.nresetLow = false → s.dev.link.resetHold = false →
      ∃ d', exec .nresetAssert s = .next { s with dev := d' } ∧
        d'.pins = { s.dev.pins with nresetLow := true } ∧ d'.bkd = s.dev.bkd ∧
        (s.dev.run = .lossCommit ∨ s.dev.run = .backup → d' = { s.dev with pins := d'.pins }) ∧
        (s.dev.run = .run → s.dev.engine.inFlight ≠ none →
          d'.link = { s.dev.link with resetHold := true } ∧
          (∀ p, (d'.tmb.get p).state = .idle ∧ (d'.sns.get p).sampling = .none ∧ d'.heatPermit p = false ∧
            d'.motorRun p = false ∧ d'.adc.thermistorWaits.get p = false) ∧ d'.adc.running = s.dev.adc.running ∧
          d' = { s.dev with pins := d'.pins, tmb := d'.tmb, sns := d'.sns, adc := d'.adc, link := d'.link }) ∧
        (s.dev.run = .startup ∨ (s.dev.run = .run ∧ s.dev.engine.inFlight = none) →
          d'.run = .startup ∧ d'.link.resetHold = true ∧ d'.attention = false ∧ d'.engine.inFlight = none ∧
          d'.engine.queue = [] ∧ d'.link.deferred = [] ∧ d'.link.transmit = [] ∧
          ∀ p, (d'.psq.get p).state = .vacant ∧ (d'.psq.get p).mark = none ∧ (d'.psq.get p).startKind = .warm ∧
            d'.image.get p = none ∧ d'.plan.get p = none)) ∧
    (∀ c, s.dev.run = .run → s.dev.link.resetHold = true →
      ((∃ damage p slot snap seq b, c = .writeVerifyDone damage ∧
          s.dev.engine.inFlight = some (.write p slot snap seq b)) ∨
        (∃ residue p slot u, c = .eraseDone residue ∧ s.dev.engine.inFlight = some (.erase p slot u)) ∨
        (∃ damage ws second age, c = .paramOperationDone damage ∧
          s.dev.engine.inFlight = some (.param ws second age))) →
      ∃ t, exec c s = .next t ∧ t.pending = s.pending ∧ t.dev.run = .startup ∧
        t.dev.link.resetHold = s.dev.pins.nresetLow ∧ t.dev.engine.inFlight = none ∧ t.dev.engine.queue = [] ∧
        t.dev.engine.service = none ∧ t.dev.link.deferred = [] ∧ t.dev.link.transmit = [] ∧ t.dev.pins = s.dev.pins ∧
        t.dev.bkd = { s.dev.bkd with facts := t.dev.bkd.facts } ∧
        (∀ p, (t.dev.psq.get p).state = .vacant ∧ (t.dev.psq.get p).mark = none ∧ (t.dev.psq.get p).startKind = .warm ∧
          t.dev.image.get p = none ∧ t.dev.plan.get p = none) ∧
        ∀ p slot snap seq, c = .writeVerifyDone [] → s.dev.engine.inFlight = some (.write p slot snap seq false) →
          snap.kind ≠ .close → s.array.wf = true →
          (∀ a, slotPage p slot * 128 ≤ a → a < slotPage p slot * 128 + 128 → s.array.read a = 0xFF) →
          t.dev.bkd.facts = s.dev.bkd.facts.set p { s.dev.bkd.facts.get p with losses := 0 } ∧
          ∀ a, t.array.read a =
            if slotPage p slot * 128 ≤ a ∧ a < slotPage p slot * 128 + 128 then
              (snap.record p seq).written.getD (a - slotPage p slot * 128) 0xFF
            else s.array.read a) ∧
    exec .nresetRelease s = .next { s with dev := { s.dev with
      pins := { s.dev.pins with nresetLow := false }
      link := if s.dev.run = .startup then { s.dev.link with resetHold := false } else s.dev.link } }

/-! ### STARTUP (PARAMETER_LOAD, SCAN_PAGE_READ, RESTORE_SAMPLE_DONE) and sampling (ROUTINE_SAMPLE_DONE) -/

/-- The parameter load (R175, R53, R75, R105). With a page sum of 0 the first 40 words are in force, each clamped to its
range and the table codes brought into ascending order, and no fault is raised; with any other sum the mask defaults are,
and PARAM_DEFAULT stands with FAULT. The strict copies are taken from index 20, the scan begins, and both restore samples
are under way: pocket A's first conversion starts at once on a free ADC, and waits for a reserve conversion otherwise, one
that runs or one that falls due together with it, at the 20 ms of its schedule (R9; log entry 14). -/
def Obligations.ParameterLoad : Prop :=
  ∀ (s : State) (misread : List Host.Cell) (page : List Byte), page = overlay (s.array.page 32) misread →
    s.dev.run = .startup → s.dev.link.resetHold = false → s.dev.link.loaded = false →
    ∃ d', exec (.parameterLoad misread) s = .next { s with dev := d' } ∧
      d'.link.loaded = true ∧
      (wordSum (pageWords page) = 0 →
        d'.link.params = raiseCodes (Vector.ofFn fun i : Fin 40 => clampWord i ((pageWords page).getD i 0)) ∧
        d'.faults = s.dev.faults ∧ d'.link.attention = s.dev.link.attention) ∧
      (wordSum (pageWords page) ≠ 0 →
        d'.link.params = maskDefaults ∧ d'.faults = { s.dev.faults with paramDefault := true } ∧
        (s.dev.faults.paramDefault = false → d'.link.attention = { s.dev.link.attention with fault := true })) ∧
      (∀ p, d'.psq.get p = { s.dev.psq.get p with strict := d'.link.params[20].getLsbD (pocketIndex p) }) ∧
      (∀ p, d'.sns.get p = { s.dev.sns.get p with sampling := .restore }) ∧
      d'.scan = ⟨.scanning, 0⟩ ∧
      (s.dev.adc.running = none → s.dev.adc.reserveMs ≠ 20 →
        d'.adc = ⟨some (.thermistor .a), s.dev.adc.reserveWaits, .both false, ⟨1, 0⟩, .both 0, s.dev.adc.reserveMs⟩) ∧
      (s.dev.adc.running ≠ none ∨ s.dev.adc.reserveMs = 20 →
        d'.adc = ⟨s.dev.adc.running, s.dev.adc.reserveWaits, ⟨true, false⟩, .both 0, .both 0, s.dev.adc.reserveMs⟩) ∧
      d' = { s.dev with
        faults := d'.faults, psq := d'.psq, sns := d'.sns, scan := d'.scan, adc := d'.adc, link := d'.link }

/-- A page read before the last page of the scan (R105, R106). The page is the next one of pocket A, and then of pocket B.
A read that is not bad gives the page its class; a bad read is taken again, and the third leaves the page TORN. -/
def Obligations.ScanPageRead : Prop :=
  ∀ (s : State) (misread : List Host.Cell) (p : Pocket) (page : List Byte),
    page = overlay (s.array.page ((s.dev.journal.get .a).map.length + (s.dev.journal.get .b).map.length)) misread →
    s.dev.run = .startup → s.dev.link.resetHold = false → s.dev.scan.state = .scanning →
    (p = .a ∧ (s.dev.journal.get .a).map.length < 16 ∧ (s.dev.journal.get .b).map.length < 16 ∨
      p = .b ∧ 16 ≤ (s.dev.journal.get .a).map.length ∧ (s.dev.journal.get .b).map.length < 15) →
    ∃ d', exec (.scanPageRead misread) s = .next { s with dev := d' } ∧
      (∀ c, classify p page = .good c →
        d'.journal = s.dev.journal.set p { s.dev.journal.get p with map := (s.dev.journal.get p).map ++ [c] } ∧
        d'.scan = ⟨.scanning, 0⟩) ∧
      (classify p page = .bad → s.dev.scan.badReads < 2 →
        d'.journal = s.dev.journal ∧ d'.scan = ⟨.scanning, s.dev.scan.badReads + 1⟩) ∧
      (classify p page = .bad → 2 ≤ s.dev.scan.badReads →
        d'.journal = s.dev.journal.set p { s.dev.journal.get p with map := (s.dev.journal.get p).map ++ [.torn] } ∧
        d'.scan = ⟨.scanning, 0⟩) ∧
      d' = { s.dev with journal := d'.journal, scan := d'.scan }

/-- The last page of the scan, classed by a good read or left TORN by its third bad read, with a restore sample still under
way (R105, R106, R108 to R112, R115). For each pocket: the basis; the history list, the VALID records but the ignored
duplicates of the basis, by their serial distance up to it, slot order within a distance; RING_CORRUPT exactly where a slot
is FOREIGN, two VALID slots share a sequence, or a VALID sequence lies more than 15 behind the basis; TORN_TAIL where the
slot after the basis is torn; the write position past it, or after the basis, or 0; the blank map from the BLANK slots; the
numbering from the basis. An ERASE of the write position, of the slot after it and of the torn slot is queued, each only
where it is not BLANK and no other, up to four in all and pocket A's first. No other pocket item changes, and the scan is
DONE. -/
def Obligations.ScanEnds : Prop :=
  ∀ (s : State) (misread : List Host.Cell) (c : SlotClass) (maps : Per (List SlotClass)),
    s.dev.run = .startup → s.dev.link.resetHold = false → s.dev.scan.state = .scanning →
    (s.dev.journal.get .a).map.length = 16 → (s.dev.journal.get .b).map.length = 15 →
    ((s.dev.sns.get .a).sampling ≠ .none ∨ (s.dev.sns.get .b).sampling ≠ .none) →
    (classify .b (overlay (s.array.page 31) misread) = .good c ∨
      classify .b (overlay (s.array.page 31) misread) = .bad ∧ 2 ≤ s.dev.scan.badReads ∧ c = .torn) →
    maps = ⟨(s.dev.journal.get .a).map, (s.dev.journal.get .b).map ++ [c]⟩ →
    ∃ d', exec (.scanPageRead misread) s = .next { s with dev := d' } ∧
      d'.scan = ⟨.done, 0⟩ ∧
      (∀ p, (d'.journal.get p).map = maps.get p ∧ (d'.journal.get p).basis = selectBasis (maps.get p) ∧
        (∀ i : Fin 16, (d'.ring.get p).blank[i] = true ↔ (maps.get p)[i.val]? = some .blank) ∧
        (d'.ring.get p).failures = 0 ∧ (d'.ring.get p).completionAge = none ∧
        (selectBasis (maps.get p) = none →
          (d'.ring.get p).writePos = 0 ∧ (d'.ring.get p).lastSeq = 0 ∧ (d'.ring.get p).newest = none ∧
          (d'.ring.get p).lastCycle = 0 ∧ (d'.journal.get p).history = [] ∧
          ((d'.psq.get p).blocking.ringCorrupt = true ↔
            (s.dev.psq.get p).blocking.ringCorrupt = true ∨ .foreign ∈ maps.get p)) ∧
        (∀ b, selectBasis (maps.get p) = some b →
          (d'.ring.get p).lastSeq = b.record.seq ∧ (d'.ring.get p).newest = some b.record.seq ∧
          (d'.ring.get p).lastCycle = b.record.cycle ∧
          ((maps.get p)[(b.slot + 1).val]? = some .torn →
            (d'.ring.get p).writePos = b.slot + 2 ∧ (d'.psq.get p).advisory.tornTail = true) ∧
          ((maps.get p)[(b.slot + 1).val]? ≠ some .torn →
            (d'.ring.get p).writePos = b.slot + 1 ∧ (d'.psq.get p).advisory = (s.dev.psq.get p).advisory) ∧
          ((d'.psq.get p).blocking.ringCorrupt = true ↔
            (s.dev.psq.get p).blocking.ringCorrupt = true ∨ .foreign ∈ maps.get p ∨
            (∃ (i j : Fin 16) (q r : Record), i ≠ j ∧ (maps.get p)[i.val]? = some (.valid q) ∧
              (maps.get p)[j.val]? = some (.valid r) ∧ q.seq = r.seq) ∨
            ∃ (i : Fin 16) (r : Record), (maps.get p)[i.val]? = some (.valid r) ∧ 15 < (b.record.seq - r.seq).toNat) ∧
          ∃ slots : List (Fin 16), slots.Nodup ∧
            (∀ i, i ∈ slots ↔ ∃ r, (maps.get p)[i.val]? = some (.valid r) ∧ (r.seq = b.record.seq → i = b.slot)) ∧
            (d'.journal.get p).history.map SlotClass.valid = slots.map (fun i => (maps.get p).getD i.val .torn) ∧
            slots.Pairwise fun i j => ∀ q r, (maps.get p)[i.val]? = some (.valid q) → (maps.get p)[j.val]? = some (.valid r) →
              (b.record.seq - q.seq).toNat < (b.record.seq - r.seq).toNat ∨
              (b.record.seq - q.seq).toNat = (b.record.seq - r.seq).toNat ∧ i < j) ∧
        d'.psq.get p = { s.dev.psq.get p with
          advisory := { (s.dev.psq.get p).advisory with tornTail := (d'.psq.get p).advisory.tornTail }
          blocking := { (s.dev.psq.get p).blocking with ringCorrupt := (d'.psq.get p).blocking.ringCorrupt } } ∧
        (∀ i, d'.anyEntry (fun w => w == .erase p i) = true →
          s.dev.anyEntry (fun w => w == .erase p i) = true ∨ (maps.get p)[i.val]? ≠ some .blank ∧
            (i = (d'.ring.get p).writePos ∨ i = (d'.ring.get p).writePos + 1 ∨
              (∃ b, selectBasis (maps.get p) = some b ∧ i = b.slot + 1 ∧ (maps.get p)[i.val]? = some .torn)))) ∧
      (s.dev.engine.queue = [] →
        ((maps.get .a)[(d'.ring.get .a).writePos.val]? ≠ some .blank →
          d'.anyEntry (fun w => w == .erase .a (d'.ring.get .a).writePos) = true) ∧
        ((maps.get .a)[((d'.ring.get .a).writePos + 1).val]? ≠ some .blank →
          d'.anyEntry (fun w => w == .erase .a ((d'.ring.get .a).writePos + 1)) = true) ∧
        (∀ b, selectBasis (maps.get .a) = some b → (maps.get .a)[(b.slot + 1).val]? = some .torn →
          d'.anyEntry (fun w => w == .erase .a (b.slot + 1)) = true) ∧
        ((maps.get .b)[(d'.ring.get .b).writePos.val]? ≠ some .blank →
          d'.anyEntry (fun w => w == .erase .b (d'.ring.get .b).writePos) = true) ∧
        ((maps.get .b)[((d'.ring.get .b).writePos + 1).val]? ≠ some .blank → d'.countEntries Work.isErase < 4 →
          d'.anyEntry (fun w => w == .erase .b ((d'.ring.get .b).writePos + 1)) = true) ∧
        (∀ b, selectBasis (maps.get .b) = some b → (maps.get .b)[(b.slot + 1).val]? = some .torn →
          (d'.countEntries Work.isErase < 4 → d'.anyEntry (fun w => w == .erase .b (b.slot + 1)) = true) ∧
          (d'.anyEntry (fun w => w == .erase .b (b.slot + 1)) = true →
            (maps.get .b)[((d'.ring.get .b).writePos + 1).val]? ≠ some .blank →
            d'.anyEntry (fun w => w == .erase .b ((d'.ring.get .b).writePos + 1)) = true)) ∧
        ∀ e, e ∈ d'.engine.queue → e.work.isErase = true) ∧
      d'.engine = { s.dev.engine with queue := d'.engine.queue, nextAge := d'.engine.nextAge } ∧
      d'.link = { s.dev.link with attention := { s.dev.link.attention with fault := d'.link.attention.fault } } ∧
      d' = { s.dev with
        psq := d'.psq, engine := d'.engine, ring := d'.ring, scan := d'.scan, journal := d'.journal, link := d'.link }

/-- The basis walk (R108) finds the newest record: where one VALID slot's sequence is no more than 32767 ahead of every
other's, the basis holds that sequence, in the first slot that does. -/
def Obligations.BasisIsNewest : Prop :=
  ∀ (map : List SlotClass) (i : Fin 16) (r : Record), map.length = 16 → map[i.val]? = some (.valid r) →
    (∀ (j : Fin 16) (q : Record), map[j.val]? = some (.valid q) → serialDistance r.seq q.seq ≤ 32767) →
    ∃ b, selectBasis map = some b ∧ b.record.seq = r.seq ∧ map[b.slot.val]? = some (.valid b.record) ∧
      ∀ (j : Fin 16) (q : Record), j < b.slot → map[j.val]? = some (.valid q) → q.seq ≠ r.seq

/-- A routine sample under way that completes in RUN with no reset request waiting (R73, R74, R75, R77, R78). In range: the
streak is 0, the temperature is kept and, unless SENSOR stands, published and merged into a present image (exhaust last,
the greater peak, dirty by the dirty delta); at T_LIMIT or above THERMAL stands. Out of range: the streak rises to 3 at
most, the image is untouched, and at 3 SENSOR stands and no temperature is published. With no sample of the pocket under
way none completes, and nothing changes (log entry 13). -/
def Obligations.RoutineSample : Prop :=
  ∀ (s : State) (p : Pocket) (c0 c1 c2 c3 code : Nat) (t : Int), code = (c0 + c1 + c2 + c3) / 4 →
    t = Params.convert s.dev.link.params code → s.dev.run = .run → s.dev.link.resetHold = false →
    ((s.dev.sns.get p).sampling ≠ .routine → exec (.routineSampleDone p c0 c1 c2 c3) s = .next s) ∧
    ((s.dev.sns.get p).sampling = .routine →
      ∃ d', exec (.routineSampleDone p c0 c1 c2 c3) s = .next { s with dev := d' } ∧
        (Params.code s.dev.link.params 0 ≤ code ∧ code ≤ Params.code s.dev.link.params 8 →
          d'.sns.get p =
            ⟨if (s.dev.psq.get p).blocking.sensor then none else some t, some (code, true), 0, some t, .none⟩ ∧
          (s.dev.link.params[6].toInt ≤ t → (d'.psq.get p).blocking.thermal = true ∧
            ((s.dev.psq.get p).blocking.thermal = false → d'.link.attention.fault = true)) ∧
          (t < s.dev.link.params[6].toInt → d'.psq = s.dev.psq ∧ d'.link = s.dev.link) ∧
          ((s.dev.psq.get p).blocking.sensor = true → d'.image = s.dev.image) ∧
          ((s.dev.psq.get p).blocking.sensor = false → ∀ im, s.dev.image.get p = some im →
            ∃ im', d'.image.get p = some im' ∧
              im'.body = { im.body with exhaustLast := t, exhaustPeak := max im.body.exhaustPeak t } ∧
              (im'.dirty = true ↔ im.dirty = true ∨ s.dev.link.params[7].toInt ≤ (t - im.exhaustRef).natAbs) ∧
              im' = { im with body := im'.body, dirty := im'.dirty, window := im'.window })) ∧
        (code < Params.code s.dev.link.params 0 ∨ Params.code s.dev.link.params 8 < code →
          (d'.sns.get p).streak = min 3 ((s.dev.sns.get p).streak + 1) ∧ (d'.sns.get p).recent = some (code, false) ∧
          (d'.sns.get p).sampling = .none ∧ (d'.sns.get p).lastInRange = (s.dev.sns.get p).lastInRange ∧
          ((s.dev.sns.get p).streak < 2 →
            (d'.sns.get p).published = (s.dev.sns.get p).published ∧ d'.psq = s.dev.psq ∧ d'.link = s.dev.link) ∧
          (2 ≤ (s.dev.sns.get p).streak →
            (d'.sns.get p).published = none ∧ (d'.psq.get p).blocking.sensor = true ∧
            ((s.dev.psq.get p).blocking.sensor = false → d'.link.attention.fault = true)) ∧
          d'.image = s.dev.image) ∧
        s.dev.sparesOther p d' ∧
        (∀ q, q ≠ p → d'.image.get q = s.dev.image.get q) ∧
        d'.link = { s.dev.link with attention := { s.dev.link.attention with fault := d'.link.attention.fault } } ∧
        d'.adc = s.dev.adc.endSample p ∧
        d' = { s.dev with psq := d'.psq, sns := d'.sns, adc := d'.adc, image := d'.image, link := d'.link })

/-- A restore sample under way that completes while STARTUP still waits for the scan or the other sample (R77, R78): in
range it publishes its temperature with the streak at 0; out of range it sets the streak to 3 at once and raises
SENSOR. STARTUP goes on. -/
def Obligations.RestoreSample : Prop :=
  ∀ (s : State) (p : Pocket) (c0 c1 c2 c3 code : Nat) (t : Int), code = (c0 + c1 + c2 + c3) / 4 →
    t = Params.convert s.dev.link.params code → s.dev.run = .startup → (s.dev.sns.get p).sampling = .restore →
    (s.dev.scan.state ≠ .done ∨ (s.dev.sns.get p.other).sampling ≠ .none) →
    ∃ d', exec (.restoreSampleDone p c0 c1 c2 c3) s = .next { s with dev := d' } ∧
      (Params.code s.dev.link.params 0 ≤ code ∧ code ≤ Params.code s.dev.link.params 8 →
        d'.sns.get p =
          ⟨if (s.dev.psq.get p).blocking.sensor then none else some t, some (code, true), 0, some t, .none⟩ ∧
        (s.dev.link.params[6].toInt ≤ t → (d'.psq.get p).blocking.thermal = true) ∧
        (t < s.dev.link.params[6].toInt → d'.psq = s.dev.psq ∧ d'.link = s.dev.link)) ∧
      (code < Params.code s.dev.link.params 0 ∨ Params.code s.dev.link.params 8 < code →
        (d'.sns.get p).streak = 3 ∧ (d'.sns.get p).recent = some (code, false) ∧ (d'.sns.get p).published = none ∧
        (d'.sns.get p).sampling = .none ∧ (d'.psq.get p).blocking.sensor = true ∧
        ((s.dev.psq.get p).blocking.sensor = false → d'.link.attention.fault = true) ∧ d'.image = s.dev.image) ∧
      d'.run = .startup ∧ s.dev.sparesOther p d' ∧
      d'.link = { s.dev.link with attention := { s.dev.link.attention with fault := d'.link.attention.fault } } ∧
      d'.adc = s.dev.adc.endSample p ∧
      d' = { s.dev with psq := d'.psq, sns := d'.sns, adc := d'.adc, image := d'.image, link := d'.link }

/-- STARTUP ends with the last thing it waited for (R13): a restore sample, with the scan done and the other sample taken
(R77, R78), or the last page of the scan, with both samples taken (R105). That command first does its own work, and from the
part it leaves (`d1`) STARTUP ends as `Dev.startupEnds` spells out (R14, R26, R42, R43, R75, R121, R122): every live basis is
planned from its inputs, and pocket A's routine sample begins (log entry 14). That all of it is one step is log entry 16. -/
def Obligations.StartupEnds : Prop :=
  ∀ s : State, s.dev.run = .startup → s.dev.link.resetHold = false → (∀ q, (s.dev.psq.get q).state = .vacant) →
    (∀ (p : Pocket) (c0 c1 c2 c3 code : Nat) (t : Int), code = (c0 + c1 + c2 + c3) / 4 →
      t = Params.convert s.dev.link.params code → (s.dev.sns.get p).sampling = .restore → s.dev.scan.state = .done →
      (s.dev.sns.get p.other).sampling = .none →
      ∃ (d' d1 : Dev), exec (.restoreSampleDone p c0 c1 c2 c3) s = .next { s with dev := d' } ∧ d1.startupEnds d' ∧
        (Params.code s.dev.link.params 0 ≤ code ∧ code ≤ Params.code s.dev.link.params 8 →
          d1.sns.get p =
            ⟨if (s.dev.psq.get p).blocking.sensor then none else some t, some (code, true), 0, some t, .none⟩ ∧
          (s.dev.link.params[6].toInt ≤ t → (d1.psq.get p).blocking.thermal = true) ∧
          (t < s.dev.link.params[6].toInt → d1.psq = s.dev.psq ∧ d1.link = s.dev.link)) ∧
        (code < Params.code s.dev.link.params 0 ∨ Params.code s.dev.link.params 8 < code →
          (d1.sns.get p).published = none ∧ (d1.sns.get p).streak = 3 ∧ (d1.psq.get p).blocking.sensor = true) ∧
        d1.psq.get p = { s.dev.psq.get p with blocking := (d1.psq.get p).blocking } ∧ s.dev.sparesOther p d1 ∧
        d1.link = { s.dev.link with attention := { s.dev.link.attention with fault := d1.link.attention.fault } } ∧
        d1 = { s.dev with psq := d1.psq, sns := d1.sns, adc := d1.adc, image := d1.image, link := d1.link }) ∧
    ∀ (misread : List Host.Cell) (c : SlotClass) (maps : Per (List SlotClass)), s.dev.scan.state = .scanning →
      (s.dev.journal.get .a).map.length = 16 → (s.dev.journal.get .b).map.length = 15 →
      (∀ q, (s.dev.sns.get q).sampling = .none) →
      (classify .b (overlay (s.array.page 31) misread) = .good c ∨
        classify .b (overlay (s.array.page 31) misread) = .bad ∧ 2 ≤ s.dev.scan.badReads ∧ c = .torn) →
      maps = ⟨(s.dev.journal.get .a).map, (s.dev.journal.get .b).map ++ [c]⟩ →
      ∃ (d' d1 : Dev), exec (.scanPageRead misread) s = .next { s with dev := d' } ∧ d1.startupEnds d' ∧
        d1.scan = ⟨.done, 0⟩ ∧
        (∀ q, (d1.journal.get q).map = maps.get q ∧ (d1.journal.get q).basis = selectBasis (maps.get q) ∧
          (.foreign ∈ maps.get q → (d1.psq.get q).blocking.ringCorrupt = true) ∧
          d1.psq.get q = { s.dev.psq.get q with
            advisory := { (s.dev.psq.get q).advisory with tornTail := (d1.psq.get q).advisory.tornTail }
            blocking := { (s.dev.psq.get q).blocking with ringCorrupt := (d1.psq.get q).blocking.ringCorrupt } }) ∧
        d1.link = { s.dev.link with attention := { s.dev.link.attention with fault := d1.link.attention.fault } } ∧
        d1 = { s.dev with
          psq := d1.psq, engine := d1.engine, ring := d1.ring, scan := d1.scan, journal := d1.journal, link := d1.link }

/-! ### Commits and the array (MERGE_WINDOW_EXPIRY, WRITE_VERIFY_DONE, ERASE_DONE, PARAM_OPERATION_DONE) -/

/-- A merge window that has reached its length in RUN, 30 s in STEADY and 10 s in WARY, stops and gives a PROGRESS
trigger (R65, R67): a pocket without an entry gets one, a queued entry takes no second, a write in flight gets a recommit
request. In PRESENT and in DIP, with no operation in flight, no commit in service or queued and no reset request waiting, the
engine serves the new entry in the same step, before every other kind (R85, R86): the write starts at once into a blank
target, with the snapshot of the image (R68, R88), and the erase of the target otherwise. With an operation in flight or a
reset request waiting the entry joins the queue (R85, R87). Before its length nothing changes. -/
def Obligations.MergeWindowExpiry : Prop :=
  ∀ (s : State) (p : Pocket) (im : Image) (n : Nat), s.dev.run = .run → s.dev.image.get p = some im →
    im.window = some n →
    (n < (if 8 ≤ s.dev.bkd.confidence then 30 else 10) → exec (.mergeWindowExpiry p) s = .next s) ∧
    ((if 8 ≤ s.dev.bkd.confidence then 30 else 10) ≤ n →
      ∃ d' im', exec (.mergeWindowExpiry p) s = .next { s with dev := d' } ∧
        d'.image.get p = some im' ∧ im'.window = none ∧ im'.body = im.body ∧
        ((s.dev.psq.get p).blocking.journalFail = false →
          (im.commit = .none → im'.commit = .queued .progress ∨ im'.commit = .inFlight .progress) ∧
          (∀ k, im.commit = .queued k → im'.commit = .queued k ∨ im'.commit = .inFlight k) ∧
          (∀ k, im.commit = .inFlight k → im'.commit = .inFlight k ∧
            im'.recommit = some (match im.recommit with | none => Kind.progress | some r => r))) ∧
        ((s.dev.psq.get p).blocking.journalFail = false → im.commit = .none →
          (s.dev.link.resetHold = true ∨ s.dev.engine.inFlight ≠ none →
            im' = { im with window := none, commit := .queued .progress } ∧
            d'.engine = { s.dev.engine with
              queue := s.dev.engine.queue ++ [⟨s.dev.engine.nextAge, .commit p⟩], nextAge := s.dev.engine.nextAge + 1 }) ∧
          (s.dev.bkd.monitor.state = .present ∨ s.dev.bkd.monitor.state = .dip → s.dev.link.resetHold = false →
            s.dev.engine.inFlight = none → s.dev.engine.service = none → (∀ q, s.dev.hasCommit q = false) →
            (s.dev.writable p → s.dev.startsWrite p im .progress d' ∧ d'.engine.queue = s.dev.engine.queue ∧
              d'.engine.service = some ⟨p, some ⟨im.body, im.cycle, .progress, none, none⟩⟩ ∧
              d'.image.get p.other = s.dev.image.get p.other ∧ d'.ring.get p.other = s.dev.ring.get p.other) ∧
            (¬s.dev.writable p → im' = { im with window := none, commit := .queued .progress } ∧
              d' = { s.dev with
                image := d'.image
                engine := { s.dev.engine with
                  inFlight := some (.erase p (s.dev.ring.get p).writePos .target), service := some ⟨p, none⟩
                  queue := s.dev.engine.queue.filter fun e => e.work != .erase p (s.dev.ring.get p).writePos
                  nextAge := s.dev.engine.nextAge + 1 } }))) ∧
        ((s.dev.psq.get p).blocking.journalFail = true → im'.recommit = im.recommit) ∧
        d' = { s.dev with
          image := d'.image, engine := d'.engine, ring := d'.ring, journal := d'.journal, link := d'.link })

/-- A write whose read-back matches completes its commit (R89, R69, R27, R34, R39, R43, R72, R116). The erased page that
it was written into holds the record, and every other byte is as before. In RUN, with no FORMAT of the pocket queued:
the record is the newest, the write position is the slot after it, and it heads the history list. L is cleared unless
the write was in flight at a loss. A record other than CLOSE gives the image its reference and ends its resume block; a
CLOSE vacates the pocket, or removes the mark of a pocket closed at STARTUP. The START reply, and the CHECKPOINT reply
that waits for this completion, are sent. An ERASE of the second slot after it is asked for where that slot is not blank
(R90). In LOSS_COMMIT (R16, R17, R95, R96) the record completes the same way, a SUSPEND recommit request is queued, and
from the part that this leaves (`d1`) the engine works on as `Dev.lossWorks` spells out. -/
def Obligations.WriteCompletes : Prop :=
  ∀ (s : State) (p : Pocket) (slot : Fin 16) (snap : Snapshot) (seq : Word) (beforeLoss : Bool),
    s.dev.engine.inFlight = some (.write p slot snap seq beforeLoss) → s.array.wf = true →
    (∀ a, slotPage p slot * 128 ≤ a → a < slotPage p slot * 128 + 128 → s.array.read a = 0xFF) →
    (s.dev.run = .run → s.dev.link.resetHold = false → s.dev.anyEntry (Work.isFormatOf p) = false →
      ∃ t, exec (.writeVerifyDone []) s = .next t ∧ t.pending = s.pending ∧
        (∀ a, t.array.read a =
          if slotPage p slot * 128 ≤ a ∧ a < slotPage p slot * 128 + 128 then
            (snap.record p seq).written.getD (a - slotPage p slot * 128) 0xFF
          else s.array.read a) ∧
        (t.dev.ring.get p).newest = some seq ∧ (t.dev.ring.get p).writePos = slot + 1 ∧ (t.dev.ring.get p).failures = 0 ∧
        (t.dev.ring.get p).completionAge = some s.dev.engine.completions ∧
        (t.dev.ring.get p).lastCycle = (s.dev.ring.get p).lastCycle ∧
        t.dev.journal.get p = { s.dev.journal.get p with
          history := (snap.record p seq :: (s.dev.journal.get p).history).take 16 } ∧
        (snap.kind ≠ .close → t.dev.psq.get p = s.dev.psq.get p ∧
          t.dev.bkd.facts.get p =
            (if beforeLoss then s.dev.bkd.facts.get p else { s.dev.bkd.facts.get p with losses := 0 }) ∧
          ∀ im, s.dev.image.get p = some im → ∃ im', t.dev.image.get p = some im' ∧
            im'.body = im.body ∧ im'.exhaustRef = snap.body.exhaustLast ∧ im'.resume = none ∧ im'.recommit = none ∧
            (∀ k, im.recommit = some k → im'.commit = .queued k ∨ im'.commit = .inFlight k) ∧
            (im.recommit = none → im.dirty = false → im'.commit = .none) ∧
            (im.recommit = none → im.dirty = true → (s.dev.psq.get p).blocking.journalFail = false →
              im'.commit = .queued .progress ∨ im'.commit = .inFlight .progress)) ∧
        (snap.kind = .close → (s.dev.psq.get p).state ≠ .vacant →
          (t.dev.psq.get p).state = .vacant ∧ (t.dev.psq.get p).mark = none ∧ (t.dev.psq.get p).choice = none ∧
          (t.dev.psq.get p).startKind = .warm ∧ (t.dev.psq.get p).advisory = (s.dev.psq.get p).advisory ∧
          t.dev.bkd.facts.get p = .clear ∧ t.dev.image.get p = none ∧
          (∀ e, s.dev.owed .endCycle (some p) = some e → ⟨0x85, [0, pocketIndexByte p]⟩ ∈ t.dev.link.transmit) ∧
          (∀ r, (s.dev.psq.get p).mark = some r → r = .door ∨ r = .guardDone ∨ r = .expired →
            t.dev.link.attention.closed = true)) ∧
        (snap.kind = .close → (s.dev.psq.get p).state = .vacant →
          t.dev.psq.get p = { s.dev.psq.get p with mark := none } ∧ t.dev.image.get p = none) ∧
        (∀ e, s.dev.owed .start (some p) = some e →
          ⟨0x82, [if e.clamped then 1 else 0, pocketIndexByte p] ++ leBytes 2 snap.cycle ++ wordBytes seq⟩
            ∈ t.dev.link.transmit ∧
          t.dev.owed .start (some p) = none) ∧
        (∀ e, s.dev.owed .checkpoint (some p) = some e → e.after = 0 →
          ⟨0x84, [0, pocketIndexByte p] ++ wordBytes seq⟩ ∈ t.dev.link.transmit ∧
          t.dev.owed .checkpoint (some p) = none) ∧
        ((s.dev.ring.get p).blank[slot + 2] = true ∨ 4 ≤ s.dev.countEntries Work.isErase →
          t.dev.anyEntry (fun w => w == .erase p (slot + 2)) = true →
          s.dev.anyEntry (fun w => w == .erase p (slot + 2)) = true) ∧
        ((s.dev.ring.get p).blank[slot + 2] = false → s.dev.countEntries Work.isErase < 4 →
          t.dev.anyEntry (fun w => w == .erase p (slot + 2)) = true ∨
          t.dev.engine.inFlight = some (.erase p (slot + 2) .entry)) ∧
        t.dev.plan = s.dev.plan ∧ s.dev.sparesOther p t.dev ∧
        t.dev = { s.dev with
          bkd := t.dev.bkd, psq := t.dev.psq, image := t.dev.image, engine := t.dev.engine, ring := t.dev.ring
          journal := t.dev.journal, link := t.dev.link }) ∧
    (s.dev.run = .lossCommit →
      (∀ im, s.dev.image.get p = some im → im.recommit = none → im.dirty = false) →
      ∃ (t : State) (d1 : Dev), exec (.writeVerifyDone []) s = .next t ∧ t.pending = s.pending ∧ d1.lossWorks t.dev ∧
        (∀ a, t.array.read a =
          if slotPage p slot * 128 ≤ a ∧ a < slotPage p slot * 128 + 128 then
            (snap.record p seq).written.getD (a - slotPage p slot * 128) 0xFF
          else s.array.read a) ∧
        d1.ring = s.dev.ring.set p { s.dev.ring.get p with
          newest := some seq, writePos := slot + 1, failures := 0, completionAge := some s.dev.engine.completions } ∧
        (d1.journal.get p).history = (snap.record p seq :: (s.dev.journal.get p).history).take 16 ∧
        (snap.kind ≠ .close → d1.psq = s.dev.psq ∧
          d1.bkd.facts.get p =
            (if beforeLoss then s.dev.bkd.facts.get p else { s.dev.bkd.facts.get p with losses := 0 }) ∧
          (∀ im k, s.dev.image.get p = some im → im.recommit = some k → d1.hasCommit p = true ∧
            d1.image.get p = some { im with
              commit := .queued k, recommit := none, exhaustRef := snap.body.exhaustLast, resume := none }) ∧
          (∀ im, s.dev.image.get p = some im → im.recommit = none → d1.hasCommit p = s.dev.hasCommit p ∧
            d1.image.get p = some { im with
              commit := .none, exhaustRef := snap.body.exhaustLast, resume := none })) ∧
        (snap.kind = .close → (s.dev.psq.get p).state ≠ .vacant →
          (d1.psq.get p).state = .vacant ∧ (d1.psq.get p).mark = none ∧ d1.bkd.facts.get p = .clear ∧
          d1.image.get p = none ∧ d1.hasCommit p = s.dev.hasCommit p) ∧
        d1.hasCommit p.other = s.dev.hasCommit p.other ∧ d1.image.get p.other = s.dev.image.get p.other ∧
        d1.engine.inFlight = none ∧ d1.engine.service = none ∧ s.dev.sparesOther p d1 ∧
        d1 = { s.dev with
          bkd := d1.bkd, psq := d1.psq, image := d1.image, engine := d1.engine, ring := d1.ring, journal := d1.journal
          link := d1.link })

/-- A write that fails its verify (R92, R93, R96): no written byte of its page has become an erased one (R79). In RUN, a
first failure raises WRITE_RETRY, moves the write position to the next slot, leaves the image as it is, and retries the
same snapshot there at once, under the next sequence number, after an erase where that slot is not blank. A second ends
the commit in JOURNAL_FAIL: an unmarked pocket keeps its state and its image's body, pending count and dirty flag,
without an entry; a marked one closes without a record; START, END and CHECKPOINT replies that were waiting carry
FAULTED. In LOSS_COMMIT a first write from before the loss is not retried: its commit ends without a record, a CLOSE's
mark goes, and its SUSPEND recommit request is queued; a second failure is JOURNAL_FAIL; and from the part that this
leaves (`d1`) the engine works on as `Dev.lossWorks` spells out. A SUSPEND write is retried in the next slot where the
reserve is at V_WRITE or above and that slot is blank, and skipped otherwise. The model's choices: every waiting
CHECKPOINT is answered FAULTED (log entry 19), a marked pocket is closed by the failure of any commit (log entry 20),
and a first write from before the loss whose failure count already stands at 1 ends in JOURNAL_FAIL (log entry 21). -/
def Obligations.WriteFails : Prop :=
  ∀ (s : State) (p : Pocket) (slot : Fin 16) (snap : Snapshot) (seq : Word) (beforeLoss : Bool) (damage : List Host.Cell)
    (page : List Byte), s.dev.engine.inFlight = some (.write p slot snap seq beforeLoss) →
    page = programmed (s.array.page (slotPage p slot)) (snap.record p seq).written damage →
    page ≠ pageOf (snap.record p seq).written →
    (∀ i, i < 128 → (s.array.page (slotPage p slot)).getD i 0 ≠ 0xFF → page.getD i 0xFF ≠ 0xFF) ∧
    (beforeLoss = false → s.dev.run = .run → s.dev.link.resetHold = false →
    ∃ t, exec (.writeVerifyDone damage) s = .next t ∧ t.pending = s.pending ∧
      t.array = s.array.setPage (slotPage p slot) page ∧
      ((s.dev.ring.get p).failures = 0 → s.dev.engine.service = some ⟨p, some snap⟩ →
        (t.dev.psq.get p).advisory.writeRetry = true ∧
        ((s.dev.psq.get p).advisory.writeRetry = false → t.dev.link.attention.fault = true) ∧
        (t.dev.ring.get p).writePos = slot + 1 ∧ (t.dev.ring.get p).failures = 1 ∧ t.dev.image = s.dev.image ∧
        t.dev.engine.service = some ⟨p, some snap⟩ ∧
        ((s.dev.ring.get p).blank[slot + 1] = true →
          t.dev.engine.inFlight = some (.write p (slot + 1) snap ((s.dev.ring.get p).lastSeq + 1) false) ∧
          (t.dev.ring.get p).lastSeq = (s.dev.ring.get p).lastSeq + 1) ∧
        ((s.dev.ring.get p).blank[slot + 1] = false →
          t.dev.engine.inFlight = some (.erase p (slot + 1) .target) ∧
          (t.dev.ring.get p).lastSeq = (s.dev.ring.get p).lastSeq)) ∧
      ((s.dev.ring.get p).failures ≠ 0 → s.dev.anyEntry (Work.isFormatOf p) = false →
        (t.dev.psq.get p).blocking.journalFail = true ∧
        ((s.dev.psq.get p).blocking.journalFail = false → t.dev.link.attention.fault = true) ∧
        (t.dev.ring.get p).writePos = slot + 1 ∧ (t.dev.ring.get p).failures = 0 ∧
        ((s.dev.psq.get p).mark = none → (t.dev.psq.get p).state = (s.dev.psq.get p).state ∧
          t.dev.bkd = s.dev.bkd ∧
          ∀ im, s.dev.image.get p = some im → t.dev.image.get p =
            some { im with commit := .none, recommit := none, closeReason := none, window := none }) ∧
        ((s.dev.psq.get p).mark ≠ none → (s.dev.psq.get p).state ≠ .vacant →
          (t.dev.psq.get p).state = .vacant ∧ (t.dev.psq.get p).mark = none ∧ t.dev.image.get p = none ∧
          t.dev.bkd.facts.get p = .clear ∧
          ∀ e, s.dev.owed .endCycle (some p) = some e → ⟨0x85, [5, pocketIndexByte p]⟩ ∈ t.dev.link.transmit) ∧
        (∀ e, s.dev.owed .start (some p) = some e →
          ⟨0x82, [5, pocketIndexByte p] ++ leBytes 2 snap.cycle ++ [0, 0]⟩ ∈ t.dev.link.transmit) ∧
        (∀ e, s.dev.owed .checkpoint (some p) = some e → ⟨0x84, [5, pocketIndexByte p]⟩ ∈ t.dev.link.transmit)) ∧
      s.dev.sparesOther p t.dev ∧
      t.dev = { s.dev with
        bkd := t.dev.bkd, psq := t.dev.psq, image := t.dev.image, engine := t.dev.engine, ring := t.dev.ring
        journal := t.dev.journal, link := t.dev.link }) ∧
    (s.dev.run = .lossCommit →
      (beforeLoss = true ∨ (s.dev.ring.get p).failures ≠ 0 →
        ∃ (t : State) (d1 : Dev), exec (.writeVerifyDone damage) s = .next t ∧ t.pending = s.pending ∧
          t.array = s.array.setPage (slotPage p slot) page ∧ d1.lossWorks t.dev ∧
          d1.ring = s.dev.ring.set p { s.dev.ring.get p with writePos := slot + 1, failures := 0 } ∧
          ((s.dev.ring.get p).failures = 0 →
            (d1.psq.get p).advisory.writeRetry = true ∧ d1.bkd = s.dev.bkd ∧
            (d1.psq.get p).mark = (if snap.kind = .close then none else (s.dev.psq.get p).mark) ∧
            (∀ im k, s.dev.image.get p = some im → im.recommit = some k → d1.hasCommit p = true ∧
              d1.image.get p = some { im with
                commit := .queued k, recommit := none
                closeReason := if snap.kind = .close then none else im.closeReason }) ∧
            (∀ im, s.dev.image.get p = some im → im.recommit = none → d1.hasCommit p = s.dev.hasCommit p ∧
              d1.image.get p = some { im with
                commit := .none, closeReason := if snap.kind = .close then none else im.closeReason })) ∧
          ((s.dev.ring.get p).failures ≠ 0 →
            (d1.psq.get p).blocking.journalFail = true ∧ d1.hasCommit p = s.dev.hasCommit p ∧
            ((s.dev.psq.get p).mark = none → d1.bkd = s.dev.bkd ∧ ∀ im, s.dev.image.get p = some im →
              d1.image.get p = some { im with commit := .none, recommit := none, closeReason := none, window := none })) ∧
          d1.hasCommit p.other = s.dev.hasCommit p.other ∧ d1.image.get p.other = s.dev.image.get p.other ∧
          d1.engine.inFlight = none ∧ d1.engine.service = none ∧ s.dev.sparesOther p d1 ∧
          d1 = { s.dev with
            bkd := d1.bkd, psq := d1.psq, image := d1.image, engine := d1.engine, ring := d1.ring, link := d1.link }) ∧
      (beforeLoss = false → (s.dev.ring.get p).failures = 0 → s.dev.engine.service = some ⟨p, some snap⟩ →
        ∃ t, exec (.writeVerifyDone damage) s = .next t ∧ t.pending = s.pending ∧
          t.array = s.array.setPage (slotPage p slot) page ∧
          (s.dev.reserve.level < 360 → s.dev.powersDown t.dev) ∧
          (360 ≤ s.dev.reserve.level → (s.dev.ring.get p).blank[slot + 1] = true →
            t.dev.run = .lossCommit ∧ (t.dev.psq.get p).advisory.writeRetry = true ∧ t.dev.image = s.dev.image ∧
            t.dev.engine.inFlight = some (.write p (slot + 1) snap ((s.dev.ring.get p).lastSeq + 1) false) ∧
            (t.dev.ring.get p).failures = 1 ∧ t.dev.bkd = s.dev.bkd) ∧
          (360 ≤ s.dev.reserve.level → (s.dev.ring.get p).blank[slot + 1] = false → s.dev.hasCommit p = false →
            s.dev.hasCommit p.other = false → s.dev.powersDown t.dev)))

/-- An ERASE ends (R91, R88, R94). The page holds what the erase left. In RUN, every byte all ones marks the slot blank;
any other leaves it not blank and raises WRITE_RETRY. After a passed erase of a commit's target its write starts at once
under the next sequence number, with a snapshot of the image, or with the same snapshot for a retry; after a failed one,
the first failure of its commit, the commit stays in service and its target becomes the next slot, written at once where
it is blank and erased otherwise. A failed one that is the second failure of its commit ends it in JOURNAL_FAIL as a
failed write does (R93), with no sequence number consumed and no erase asked for; that a marked pocket is then closed,
and every waiting CHECKPOINT answered FAULTED, are the model's choices (log entries 19 and 20). After an ERASE entry's
erase the engine selects as `Dev.selects` spells out, so that in DIP another ERASE entry waits (R86). In LOSS_COMMIT the
blank map and WRITE_RETRY are as in RUN; the commit of a retry that the loss found in its target erase ends without a
record whatever the erase gives, its SUSPEND recommit request queued and a CLOSE's mark removed (R94); and from the part
that this leaves (`d1`) the engine works on as `Dev.lossWorks` spells out. -/
def Obligations.EraseEnds : Prop :=
  ∀ (s : State) (p : Pocket) (slot : Fin 16) (purpose : ErasePurpose) (residue : List Host.Cell) (page : List Byte),
    s.dev.engine.inFlight = some (.erase p slot purpose) → page = overlay (List.replicate 128 0xFF) residue →
    (s.dev.run = .run → s.dev.link.resetHold = false →
    ∃ t, exec (.eraseDone residue) s = .next t ∧ t.pending = s.pending ∧
      t.array = s.array.setPage (slotPage p slot) page ∧
      (purpose ≠ .target → s.dev.engine.service = none → s.dev.anyEntry Work.isCommit = false →
        (t.dev.ring.get p).blank[slot] = erasedPage page ∧ t.dev.image = s.dev.image) ∧
      (erasedPage page = true → t.dev.psq = s.dev.psq) ∧
      (erasedPage page = false → (t.dev.psq.get p).advisory.writeRetry = true ∧
        ((s.dev.psq.get p).advisory.writeRetry = false → t.dev.link.attention.fault = true)) ∧
      (purpose = .target → erasedPage page = true → s.dev.engine.service = some ⟨p, none⟩ →
        (s.dev.ring.get p).writePos = slot → ∀ im k, s.dev.image.get p = some im → im.commit = .queued k →
          t.dev.engine.inFlight = some (.write p slot (im.snapshot k) ((s.dev.ring.get p).lastSeq + 1) false) ∧
          (t.dev.ring.get p).lastSeq = (s.dev.ring.get p).lastSeq + 1 ∧ (t.dev.ring.get p).blank[slot] = false ∧
          t.dev.image.get p = some { im with commit := .inFlight k, pending := 0, dirty := false, window := none }) ∧
      (purpose = .target → erasedPage page = false → (s.dev.ring.get p).failures = 0 →
        s.dev.engine.service = some ⟨p, none⟩ → (s.dev.ring.get p).blank[slot + 1] = false →
        (t.dev.ring.get p).writePos = slot + 1 ∧ (t.dev.ring.get p).failures = 1 ∧
        (t.dev.ring.get p).lastSeq = (s.dev.ring.get p).lastSeq ∧ (t.dev.ring.get p).blank[slot] = false ∧
        t.dev.engine.inFlight = some (.erase p (slot + 1) .target) ∧ t.dev.image = s.dev.image) ∧
      (∀ snap, purpose = .target → erasedPage page = true → s.dev.engine.service = some ⟨p, some snap⟩ →
        (s.dev.ring.get p).writePos = slot →
        t.dev.engine.inFlight = some (.write p slot snap ((s.dev.ring.get p).lastSeq + 1) false) ∧
        (t.dev.ring.get p).lastSeq = (s.dev.ring.get p).lastSeq + 1 ∧ t.dev.image = s.dev.image) ∧
      (purpose = .target → erasedPage page = false → (s.dev.ring.get p).failures = 0 →
        s.dev.engine.service = some ⟨p, none⟩ → (s.dev.ring.get p).blank[slot + 1] = true →
        ∀ im k, s.dev.image.get p = some im → im.commit = .queued k →
          (t.dev.ring.get p).writePos = slot + 1 ∧ (t.dev.ring.get p).failures = 1 ∧
          t.dev.engine.inFlight = some (.write p (slot + 1) (im.snapshot k) ((s.dev.ring.get p).lastSeq + 1) false) ∧
          (t.dev.ring.get p).lastSeq = (s.dev.ring.get p).lastSeq + 1 ∧
          t.dev.image.get p = some { im with commit := .inFlight k, pending := 0, dirty := false, window := none }) ∧
      (∀ v, purpose = .target → erasedPage page = false → (s.dev.ring.get p).failures ≠ 0 →
        s.dev.engine.service = some ⟨p, v⟩ → s.dev.anyEntry (Work.isFormatOf p) = false →
        (t.dev.psq.get p).blocking.journalFail = true ∧
        ((s.dev.psq.get p).blocking.journalFail = false → t.dev.link.attention.fault = true) ∧
        t.dev.ring.get p = { s.dev.ring.get p with
          writePos := slot + 1, failures := 0, blank := (s.dev.ring.get p).blank.set slot false } ∧
        t.dev.engine.service ≠ some ⟨p, v⟩ ∧ t.dev.hasCommit p = false ∧
        (∀ q i, t.dev.anyEntry (· == .erase q i) = true → s.dev.anyEntry (· == .erase q i) = true) ∧
        ((s.dev.psq.get p).mark = none → (t.dev.psq.get p).state = (s.dev.psq.get p).state ∧
          t.dev.bkd = s.dev.bkd ∧
          ∀ im, s.dev.image.get p = some im → t.dev.image.get p =
            some { im with commit := .none, recommit := none, closeReason := none, window := none }) ∧
        ((s.dev.psq.get p).mark ≠ none → (s.dev.psq.get p).state ≠ .vacant →
          (t.dev.psq.get p).state = .vacant ∧ (t.dev.psq.get p).mark = none ∧ t.dev.image.get p = none ∧
          t.dev.bkd.facts.get p = .clear ∧
          ∀ e, s.dev.owed .endCycle (some p) = some e → ⟨0x85, [5, pocketIndexByte p]⟩ ∈ t.dev.link.transmit) ∧
        (∀ e, s.dev.owed .start (some p) = some e →
          (∀ snap, v = some snap →
            ⟨0x82, [5, pocketIndexByte p] ++ leBytes 2 snap.cycle ++ [0, 0]⟩ ∈ t.dev.link.transmit) ∧
          ∀ im, v = none → s.dev.image.get p = some im →
            ⟨0x82, [5, pocketIndexByte p] ++ leBytes 2 im.cycle ++ [0, 0]⟩ ∈ t.dev.link.transmit) ∧
        (∀ e, s.dev.owed .checkpoint (some p) = some e → ⟨0x84, [5, pocketIndexByte p]⟩ ∈ t.dev.link.transmit)) ∧
      (purpose = .entry → s.dev.engine.service = none →
        ∃ d1 : Dev, d1.selects t.dev ∧
          d1.ring = s.dev.ring.set p { s.dev.ring.get p with
            blank := (s.dev.ring.get p).blank.set slot (erasedPage page) } ∧
          d1.engine = { s.dev.engine with inFlight := none } ∧
          (erasedPage page = true → d1.psq = s.dev.psq ∧ d1.link = s.dev.link) ∧
          d1 = { s.dev with psq := d1.psq, engine := d1.engine, ring := d1.ring, link := d1.link }) ∧
      s.dev.sparesOther p t.dev ∧
      t.dev = { s.dev with
        bkd := t.dev.bkd, psq := t.dev.psq, image := t.dev.image, engine := t.dev.engine, ring := t.dev.ring
        journal := t.dev.journal, link := t.dev.link }) ∧
    (s.dev.run = .lossCommit → s.dev.anyEntry (Work.isFormatOf p) = false →
      (s.dev.engine.service = none → purpose ≠ .target ∨ erasedPage page = true ∨ (s.dev.ring.get p).failures = 0 →
        ∃ (t : State) (d1 : Dev), exec (.eraseDone residue) s = .next t ∧ t.pending = s.pending ∧
          t.array = s.array.setPage (slotPage p slot) page ∧ d1.lossWorks t.dev ∧
          (d1.ring.get p).blank = (s.dev.ring.get p).blank.set slot (erasedPage page) ∧
          (purpose = .target → erasedPage page = false →
            (d1.ring.get p).writePos = slot + 1 ∧ (d1.ring.get p).failures = 1) ∧
          (purpose ≠ .target ∨ erasedPage page = true → d1.ring = s.dev.ring.set p { s.dev.ring.get p with
            blank := (d1.ring.get p).blank }) ∧
          (erasedPage page = false → (d1.psq.get p).advisory.writeRetry = true) ∧
          d1.engine = { s.dev.engine with inFlight := none } ∧
          d1 = { s.dev with psq := d1.psq, engine := d1.engine, ring := d1.ring, link := d1.link }) ∧
      ∀ snap, purpose = .target → s.dev.engine.service = some ⟨p, some snap⟩ →
        ∃ (t : State) (d1 : Dev), exec (.eraseDone residue) s = .next t ∧ t.pending = s.pending ∧
          t.array = s.array.setPage (slotPage p slot) page ∧ d1.lossWorks t.dev ∧
          d1.ring = s.dev.ring.set p { s.dev.ring.get p with
            blank := (s.dev.ring.get p).blank.set slot (erasedPage page), failures := 0
            writePos := if erasedPage page then (s.dev.ring.get p).writePos else slot + 1 } ∧
          (d1.psq.get p).mark = (if snap.kind = .close then none else (s.dev.psq.get p).mark) ∧
          (d1.psq.get p).blocking = (s.dev.psq.get p).blocking ∧
          (∀ im k, s.dev.image.get p = some im → im.recommit = some k → d1.hasCommit p = true ∧
            d1.image.get p = some { im with
              commit := .queued k, recommit := none
              closeReason := if snap.kind = .close then none else im.closeReason }) ∧
          (∀ im, s.dev.image.get p = some im → im.recommit = none → d1.hasCommit p = s.dev.hasCommit p ∧
            d1.image.get p = some { im with
              commit := .none, closeReason := if snap.kind = .close then none else im.closeReason }) ∧
          d1.hasCommit p.other = s.dev.hasCommit p.other ∧ d1.image.get p.other = s.dev.image.get p.other ∧
          d1.engine.inFlight = none ∧ d1.engine.service = none ∧ s.dev.sparesOther p d1 ∧
          d1 = { s.dev with psq := d1.psq, image := d1.image, engine := d1.engine, ring := d1.ring, link := d1.link })

/-- A FORMAT's erase ends (R100, R103, R114, R116), with no commit waiting. After slot 15 the entry leaves the queue: the
numbering restarts, the basis and the history list are gone, and its reply is OK where every erase passed, FAULTED where
one failed. Before it the entry moves on, and where the next slot is not blank, and nothing else waits, its erase starts. -/
def Obligations.FormatEnds : Prop :=
  ∀ (s : State) (p : Pocket) (slot : Fin 16) (next : Fin 16) (failed : Bool) (age : Nat) (residue : List Host.Cell)
    (passed : Bool),
    s.dev.engine.inFlight = some (.erase p slot .format) → s.dev.run = .run → s.dev.link.resetHold = false →
    s.dev.engine.service = none → s.dev.engine.queue = [⟨age, .format p next failed⟩] →
    passed = erasedPage (overlay (List.replicate 128 0xFF) residue) →
    ∃ t, exec (.eraseDone residue) s = .next t ∧ t.pending = s.pending ∧
      (slot = 15 →
        t.dev.engine.inFlight = none ∧ t.dev.engine.queue = [] ∧
        t.dev.ring.get p = ⟨0, (s.dev.ring.get p).blank.set 15 passed, 0, none, 0, none, 0⟩ ∧
        t.dev.journal.get p = { s.dev.journal.get p with basis := none, history := [] } ∧
        (∀ e, s.dev.owed .format (some p) = some e →
          ⟨0x8B, [if failed || !passed then 5 else 0, pocketIndexByte p]⟩ ∈ t.dev.link.transmit ∧
          t.dev.owed .format (some p) = none)) ∧
      (slot.val < 15 → s.dev.bkd.monitor.state = .present → (s.dev.ring.get p).blank[slot + 1] = false →
        t.dev.engine.inFlight = some (.erase p (slot + 1) .format) ∧
        t.dev.engine.queue = [⟨age, .format p (slot + 1) (failed || !passed)⟩] ∧
        t.dev.journal = s.dev.journal ∧ t.dev.link.deferred = s.dev.link.deferred) ∧
      t.dev.image = s.dev.image ∧ t.dev.bkd = s.dev.bkd ∧ t.dev.plan = s.dev.plan

/-- A PARAM operation ends (R97, R98): page 32 holds the image, and no other byte changes. Where the read-back matches,
PARAM_DEFAULT is cleared and the PARAM_STORE reply is OK; where it differs a second time, the reply is FAULTED; a first
time, the store starts again with a fresh image, with no commit waiting and mains PRESENT. The parameters in force are
unchanged. In LOSS_COMMIT no reply is sent, none being owed, and the engine works on as `Dev.lossWorks` spells out. -/
def Obligations.ParamOperationEnds : Prop :=
  ∀ (s : State) (ws : List Word) (second : Bool) (age : Nat) (damage : List Host.Cell) (page : List Byte),
    s.dev.engine.inFlight = some (.param ws second age) → page = overlay (pageOf (imageBytes ws)) damage →
    (s.dev.run = .run → s.dev.link.resetHold = false →
    ∃ t, exec (.paramOperationDone damage) s = .next t ∧ t.pending = s.pending ∧
      t.array = s.array.setPage 32 page ∧ t.dev.link.params = s.dev.link.params ∧
      (page = pageOf (imageBytes ws) → t.dev.faults = { s.dev.faults with paramDefault := false } ∧
        ∀ e, s.dev.owed .paramStore none = some e → ⟨0x8E, [0]⟩ ∈ t.dev.link.transmit) ∧
      (page ≠ pageOf (imageBytes ws) → t.dev.faults = s.dev.faults) ∧
      (page ≠ pageOf (imageBytes ws) → second = true →
        ∀ e, s.dev.owed .paramStore none = some e → ⟨0x8E, [5]⟩ ∈ t.dev.link.transmit) ∧
      (page ≠ pageOf (imageBytes ws) → second = false → s.dev.engine.service = none →
        s.dev.anyEntry Work.isCommit = false → s.dev.anyEntry Work.isParam = false →
        s.dev.bkd.monitor.state = .present →
        t.dev.engine.inFlight = some (.param (Params.image s.dev.link.params) true age) ∧
        t.dev.link = s.dev.link) ∧
      t.dev = { s.dev with
        faults := t.dev.faults, image := t.dev.image, engine := t.dev.engine, ring := t.dev.ring
        journal := t.dev.journal, link := t.dev.link }) ∧
    (s.dev.run = .lossCommit → s.dev.engine.service = none →
      ∃ (t : State) (d1 : Dev), exec (.paramOperationDone damage) s = .next t ∧ t.pending = s.pending ∧
        t.array = s.array.setPage 32 page ∧ d1.lossWorks t.dev ∧
        d1.faults = (if page = pageOf (imageBytes ws) then { s.dev.faults with paramDefault := false } else s.dev.faults) ∧
        (∀ q, d1.hasCommit q = s.dev.hasCommit q) ∧ d1.engine.inFlight = none ∧ d1.engine.service = none ∧
        (s.dev.link.deferred = [] → d1.link = s.dev.link) ∧
        d1 = { s.dev with faults := d1.faults, engine := d1.engine, link := d1.link })

/-! ### Resumption and tumbling (HEATER_GRANT, BURST_END, PERIOD_BOUNDARY) -/

/-- A heater grant (R143, R46, R59): in RUN with mains PRESENT, the reserve ready, no reset request waiting and the
stagger count at the length of the mode in force, the head leaves the queue, the count restarts, and the pocket goes to
DRYING, released, its image rebuilt from the basis with the outages of L and the figures of its choice, a RESUME commit
queued. Where one of these does not hold there is no grant and nothing changes. -/
def Obligations.HeaterGrant : Prop :=
  ∀ (s : State) (p : Pocket) (rest : List Pocket), s.dev.arbiter.queue = p :: rest →
    (s.dev.run = .run → s.dev.link.resetHold = false → s.dev.bkd.monitor.state = .present →
      s.dev.reserve.ready = true → (if 8 ≤ s.dev.bkd.confidence then 20 else 45) ≤ s.dev.arbiter.stagger →
      ∀ c b, (s.dev.psq.get p).choice = some c → c.outcome = .reheat → (s.dev.journal.get p).basis = some b →
      ∃ d' im, exec .heaterGrant s = .next { s with dev := d' } ∧
        d'.arbiter = ⟨rest, 0⟩ ∧
        d'.psq = s.dev.psq.set p { s.dev.psq.get p with state := .drying, startKind := .warm, choice := none } ∧
        d'.bkd = { s.dev.bkd with facts := s.dev.bkd.facts.set p .clear } ∧
        d'.image.get p = some im ∧ im.cycle = b.record.cycle ∧
        im.body = { b.record.body with
          phase := .drying, heat := c.heat, cool := c.cool
          outages := min 255 (b.record.body.outages + (s.dev.bkd.facts.get p).losses) } ∧
        im.exhaustRef = b.record.body.exhaustLast ∧
        im.resume = (s.dev.plan.get p).map (fun pl => ⟨.reheat, pl.reason, pl.basisSeq, pl.stall, pl.tNow⟩) ∧
        ((s.dev.psq.get p).blocking.journalFail = false →
          im.commit = .queued .resume ∨ im.commit = .inFlight .resume) ∧
        d' = { s.dev with
          arbiter := d'.arbiter, psq := d'.psq, bkd := d'.bkd, image := d'.image, engine := d'.engine, ring := d'.ring
          journal := d'.journal, link := d'.link }) ∧
    (s.dev.run ≠ .run ∨ s.dev.link.resetHold = true ∨ s.dev.bkd.monitor.state ≠ .present ∨
      s.dev.reserve.ready = false ∨ s.dev.arbiter.stagger < (if 8 ≤ s.dev.bkd.confidence then 20 else 45) →
      exec .heaterGrant s = .next s)

/-- A burst end (R155, R40, R63): MOTOR_RUN_x falls, the count falls by 1 and is handed to the image, which is dirty with
its pending count as it was. With bursts still owed the timer rests, toggles its direction where reverse is 1, and
MOTOR_REV_x takes the direction it then has. A course exhausted leaves the timer IDLE and FORWARD with its staged program
discarded and MOTOR_REV_x low, and the pocket is closed with GUARD_DONE: marked, or, under JOURNAL_FAIL, VACANT. Before the
position reaches on, nothing happens. -/
def Obligations.BurstEnd : Prop :=
  ∀ (s : State) (p : Pocket) (g : GuardProgram), (s.dev.tmb.get p).state = .burst → (s.dev.tmb.get p).active = some g →
    ((s.dev.tmb.get p).position < g.on → exec (.burstEnd p) s = .next s) ∧
    (g.on ≤ (s.dev.tmb.get p).position →
      ∃ d', exec (.burstEnd p) s = .next { s with dev := d' } ∧
        d'.motorRun p = false ∧
        (2 ≤ (s.dev.tmb.get p).burstsLeft →
          d'.tmb.get p = { s.dev.tmb.get p with
            state := .rest
            burstsLeft := (s.dev.tmb.get p).burstsLeft - 1
            direction :=
              if g.reverse = 1 then
                match (s.dev.tmb.get p).direction with
                | .forward => .reverse
                | .reverse => .forward
              else (s.dev.tmb.get p).direction } ∧
          (d'.motorRev p = true ↔ (s.dev.tmb.get p).direction = if g.reverse = 1 then .forward else .reverse) ∧
          (∀ im, s.dev.image.get p = some im → ∃ im', d'.image.get p = some im' ∧
            im' = { im with
              body := { im.body with burstsLeft := (s.dev.tmb.get p).burstsLeft - 1 }
              dirty := true
              window := im'.window }) ∧
          d' = { s.dev with tmb := d'.tmb, image := d'.image }) ∧
        ((s.dev.tmb.get p).burstsLeft ≤ 1 →
          d'.tmb.get p = ⟨.idle, none, none, 0, 0, none, .forward⟩ ∧ d'.motorRev p = false ∧
          ((s.dev.psq.get p).state = .anticrease → (s.dev.psq.get p).mark = none →
            ((s.dev.psq.get p).blocking.journalFail = false →
              d'.psq = s.dev.psq.set p { s.dev.psq.get p with mark := some .guardDone } ∧
              ∀ im, s.dev.image.get p = some im → ∃ im', d'.image.get p = some im' ∧
                im'.body = { im.body with burstsLeft := 0 } ∧
                (im.commit = .none → im'.commit = .queued .close ∨ im'.commit = .inFlight .close)) ∧
            ((s.dev.psq.get p).blocking.journalFail = true →
              (d'.psq.get p).state = .vacant ∧ d'.image.get p = none ∧ d'.bkd.facts.get p = .clear ∧
              d'.link.attention.closed = true))) ∧
        (∀ q, q ≠ p → d'.tmb.get q = s.dev.tmb.get q ∧ d'.psq.get q = s.dev.psq.get q ∧
          d'.bkd.facts.get q = s.dev.bkd.facts.get q) ∧
        d' = { s.dev with
          tmb := d'.tmb, psq := d'.psq, image := d'.image, engine := d'.engine, ring := d'.ring
          journal := d'.journal, bkd := d'.bkd, link := d'.link })

/-- A period boundary (R154, R158): the position returns to 0 and a new burst starts. A staged program becomes the active
one with a fresh count, both are handed to the image, and with reverse 0 the direction is FORWARD. Before the position
reaches the period, nothing happens. -/
def Obligations.PeriodBoundary : Prop :=
  ∀ (s : State) (p : Pocket) (g : GuardProgram), (s.dev.tmb.get p).state = .rest → (s.dev.tmb.get p).active = some g →
    ((s.dev.tmb.get p).position < g.period → exec (.periodBoundary p) s = .next s) ∧
    (g.period ≤ (s.dev.tmb.get p).position →
      ((s.dev.tmb.get p).staged = none →
        exec (.periodBoundary p) s = .next { s with dev := { s.dev with
          tmb := s.dev.tmb.set p { s.dev.tmb.get p with state := .burst, position := 0 } } }) ∧
      (∀ h, (s.dev.tmb.get p).staged = some h →
        ∃ d', exec (.periodBoundary p) s = .next { s with dev := d' } ∧
          d'.tmb = s.dev.tmb.set p ⟨.burst, some h, none, h.bursts, 0, none,
            if h.reverse = 0 then .forward else (s.dev.tmb.get p).direction⟩ ∧
          (∀ q, q ≠ p → d'.image.get q = s.dev.image.get q) ∧
          (∀ im, s.dev.image.get p = some im → ∃ im', d'.image.get p = some im' ∧
            im' = { im with
              body := { im.body with guard := h, burstsLeft := h.bursts }, dirty := true, window := im'.window }) ∧
          d' = { s.dev with tmb := d'.tmb, image := d'.image }))

/-! ### The link port (SYNC_BYTE, RX_GAP_TIMEOUT, FRAME_DISCARD, UNKNOWN_REQUEST_TYPE, REPLY_SENT) -/

/-- Reception (R163). A sync byte in HUNTING starts a frame. A gap discards a partial frame, and so do a byte with a bad
stop bit, a length above 56, and a whole frame whose sum is not 0. A whole frame whose sum is 0 is dispatched as its last
byte arrives: its bytes do what the command of that request with that payload does. A frame as the part itself sends it
(R165) is received whole, with its type and payload. That the rest of a frame's bytes come as one command, and that a
request command needs the receiver in its frame, are the model's choices (log entry 2). -/
def Obligations.FrameReception : Prop :=
  (∀ s : State, s.dev.run ≠ .backup → s.dev.link.receiver = .hunting →
    exec .syncByte s = .next { s with dev := { s.dev with
      link := { s.dev.link with receiver := .inFrame ⟨none, none, [], 0⟩, gapMs := 0 } } }) ∧
  (∀ (s : State) (f : RxFrame), s.dev.run ≠ .backup → s.dev.link.receiver = .inFrame f →
    exec .rxGapTimeout s = .next { s with dev := { s.dev with
      link := { s.dev.link with receiver := .hunting, gapMs := 0 } } } ∧
    (∀ b, exec (.frameDiscard [b] true) s = .next { s with dev := { s.dev with
      link := { s.dev.link with receiver := .hunting, gapMs := 0 } } }) ∧
    (f = ⟨none, none, [], 0⟩ → ∀ (n type check : Byte) (payload : List Byte),
      (56 < n.toNat → exec (.frameDiscard [n] false) s = .next { s with dev := { s.dev with
        link := { s.dev.link with receiver := .hunting, gapMs := 0 } } }) ∧
      (payload.length = n.toNat → n.toNat ≤ 56 → (payload.foldl (· + ·) (n + type)) + check ≠ 0 →
        exec (.frameDiscard (n :: type :: payload ++ [check]) false) s = .next { s with dev := { s.dev with
          link := { s.dev.link with receiver := .hunting, gapMs := 0 } } }) ∧
      (payload.length = n.toNat → n.toNat ≤ 56 → (payload.foldl (· + ·) (n + type)) + check = 0 →
        (∀ c q, requestOf c = some (q, payload) → c.wellFormed = true → type = BitVec.ofNat 8 q.code →
          exec (.frameDiscard (n :: type :: payload ++ [check]) false) s = exec c s) ∧
        ((type.toNat = 0 ∨ 14 < type.toNat) →
          exec (.frameDiscard (n :: type :: payload ++ [check]) false) s =
            exec (.unknownRequestType type payload) s)))) ∧
  ∀ r : Reply, r.payload.length ≤ 56 →
    ∃ (body : List Byte) (check : Byte) (f : RxFrame), r.frame = syncValue :: body ++ [check] ∧
      Receiver.run false (syncValue :: body) .hunting = some (.inFrame f) ∧ f.take check = .completed r.type r.payload

/-- The checks before dispatch, in their order (R164, R165, R170, R176), for every request command whose frame is the one
the receiver is in (log entry 2): no room or the reset
hold discards; LENGTH alone; POCKET with the byte as received; UNKNOWN; STATE outside RUN for all but STATUS; BUSY for a
deferred duplicate. Each changes nothing but the receiver and the transmit list. -/
def Obligations.LinkChecks : Prop :=
  ∀ (c : Instr) (q : Request) (payload : List Byte) (s : State), requestOf c = some (q, payload) → c.wellFormed = true →
    s.dev.run ≠ .backup → s.dev.link.receiver.begins (BitVec.ofNat 8 q.code) payload = true →
    (s.dev.link.resetHold = true ∨ 10 ≤ s.dev.link.transmit.length + s.dev.link.deferred.length →
      exec c s = .next { s with dev := { s.dev with link := { s.dev.link with receiver := .hunting, gapMs := 0 } } }) ∧
    (s.dev.linkFree →
      (q.lengthOk payload = false → exec c s = .next { s with dev := s.dev.replied q.replyType [7] }) ∧
      (q.lengthOk payload = true →
        (q.namesPocket = true → pocketOf payload = none →
          exec c s = .next { s with dev := s.dev.replied q.replyType [8, payload.getD 0 0] }) ∧
        (q.namesPocket = false → q.enumsOk payload = false →
          exec c s = .next { s with dev := s.dev.replied q.replyType [6] }) ∧
        (q.namesPocket = false → q.enumsOk payload = true → s.dev.run ≠ .run → q ≠ .status →
          exec c s = .next { s with dev := s.dev.replied q.replyType [2] }) ∧
        (q = .paramStore → s.dev.run = .run → (s.dev.owed q none).isSome = true →
          exec c s = .next { s with dev := s.dev.replied q.replyType [4] }) ∧
        ∀ p, q.namesPocket = true → pocketOf payload = some p →
          (q.enumsOk payload = false →
            exec c s = .next { s with dev := s.dev.replied q.replyType [6, pocketIndexByte p] }) ∧
          (q.enumsOk payload = true → s.dev.run ≠ .run →
            (q = .report → exec c s = .next { s with
              dev := s.dev.replied q.replyType [2, pocketIndexByte p, BitVec.ofNat 8 (s.dev.pendingCount p)] }) ∧
            (q ≠ .report → exec c s = .next { s with dev := s.dev.replied q.replyType [2, pocketIndexByte p] })) ∧
          (q.enumsOk payload = true → s.dev.run = .run → q.deferrable = true → (s.dev.owed q (some p)).isSome = true →
            exec c s = .next { s with dev := s.dev.replied q.replyType [4, pocketIndexByte p] })))

/-- A frame of no request type, the one the receiver is in (log entry 2), is answered UNKNOWN with the result alone (R164,
R165), or discarded under the reset hold or without room. The reply in transmission leaves the list when its last byte has
been sent (R166). TXD carries the oldest reply, idles high with none, and is released in BACKUP (R12, R166, R179). -/
def Obligations.UnknownTypeAndReplySent : Prop :=
  (∀ (s : State) (type : Byte) (payload : List Byte), s.dev.run ≠ .backup → payload.length ≤ 56 →
    (type.toNat = 0 ∨ 14 < type.toNat) → s.dev.link.receiver.begins type payload = true →
    (s.dev.linkFree →
      exec (.unknownRequestType type payload) s = .next { s with dev := s.dev.replied (type + 0x80) [6] }) ∧
    (¬s.dev.linkFree →
      exec (.unknownRequestType type payload) s = .next { s with dev := { s.dev with
        link := { s.dev.link with receiver := .hunting, gapMs := 0 } } })) ∧
  (∀ (s : State) (r : Reply) (rest : List Reply), s.dev.link.transmit = r :: rest →
    exec .replySent s = .next { s with dev := { s.dev with link := { s.dev.link with transmit := rest } } } ∧
    (s.dev.run ≠ .backup → s.dev.txdPin = .sending r.frame)) ∧
  ∀ d : Dev, (d.run ≠ .backup → d.link.transmit = [] → d.txdPin = .steady .high) ∧
    (d.run = .backup → d.txdPin = .steady .released)

/-- STATUS in every run state in which the main domain is powered (R168, R56): the reply is the snapshot of the 46 bytes
of Table 11-6, every attention cause and COLD_START leave their sets, ATTN is released, and nothing else of the part
changes but the model's count of free values, which stand for the sequence bytes of a pocket with no completed record
(log entry 7). That the bits which Table 11-6 does not name are 0 is the model's choice (log entry 42). Before it, and in
every state, ATTN is pulled low exactly while the causes are not empty, the main domain is powered and it is not held
(R167, R179). The receiver is in the frame (log entry 2). -/
def Obligations.Status : Prop :=
  (∀ d : Dev, (d.attnPin = .low ↔ d.run ≠ .backup ∧ ¬(d.run = .startup ∧ d.link.resetHold = true) ∧
      (d.link.attention.planReady = true ∨ d.link.attention.closed = true ∨ d.link.attention.fault = true ∨
        d.link.attention.supply = true)) ∧
    (d.attnPin = .low ∨ d.attnPin = .released)) ∧
  ∀ s : State, s.dev.run ≠ .backup → s.dev.linkFree → s.dev.link.receiver.begins 0x01 [] = true →
    ∃ d', exec (.status []) s = .next { s with dev := d' } ∧ d'.attnPin = .released ∧
      d' = { s.dev with
        faults := { s.dev.faults with coldStart := false }
        freeCount := s.dev.freeCount + 1
        link := { s.dev.link with
          receiver := .hunting, gapMs := 0, attention := ⟨false, false, false, false⟩
          transmit := s.dev.link.transmit ++ [⟨0x81, s.dev.statusPayload⟩] } } ∧
    s.dev.statusPayload.length = 46 ∧
    (∀ at_, at_ = (fun i => s.dev.statusPayload.getD i 0xEE) →
      at_ 0 = 0 ∧
      at_ 1 = (match s.dev.run with | .startup => 0 | .run => 1 | .lossCommit => 2 | .backup => 3) ∧
      at_ 2 = BitVec.ofNat 8
        ((match s.dev.bkd.monitor.state with | .present => 0 | .dip => 1 | .absent => 2 | .qualifying => 3) +
          (if s.dev.settle.flag then 4 else 0) + (if s.dev.bkd.confidence ≤ 7 then 8 else 0)) ∧
      at_ 3 = BitVec.ofNat 8 s.dev.bkd.confidence ∧
      at_ 4 = BitVec.ofNat 8 s.dev.reserve.level ∧ at_ 5 = BitVec.ofNat 8 (s.dev.reserve.level / 256) ∧
      at_ 6 = BitVec.ofNat 8
        ((if s.dev.reserve.ready then 1 else 0) + (if s.dev.faults.paramDefault then 2 else 0) +
          (if s.dev.faults.reserveLow then 4 else 0) + (if s.dev.faults.coldStart then 8 else 0) +
          (if s.dev.engine.inFlight = none then 0 else 16)) ∧
      at_ 7 = BitVec.ofNat 8
        ((if s.dev.link.attention.planReady then 1 else 0) + (if s.dev.link.attention.closed then 2 else 0) +
          (if s.dev.link.attention.fault then 4 else 0) + (if s.dev.link.attention.supply then 8 else 0)) ∧
      at_ 8 = BitVec.ofNat 8 s.dev.engine.queue.length ∧
      at_ 9 = (match s.dev.arbiter.queue with
        | [] => 15
        | [p] => BitVec.ofNat 8 (pocketIndex p + 12)
        | p :: q :: _ => BitVec.ofNat 8 (pocketIndex p + 4 * pocketIndex q)) ∧
      at_ 10 = BitVec.ofNat 8 s.dev.arbiter.stagger ∧
      at_ 11 = (if 8 ≤ s.dev.bkd.confidence then 20 else 45)) ∧
    ∀ p off, off = 12 + 17 * pocketIndex p → ∀ at_, at_ = (fun i => s.dev.statusPayload.getD (off + i) 0xEE) →
      at_ 0 = (match (s.dev.psq.get p).state with
        | .vacant => 0 | .drying => 1 | .cooling => 2 | .anticrease => 3
        | .suspended => 4 | .planned => 5 | .waitstart => 6) ∧
      at_ 1 = (match (s.dev.psq.get p).mark with
        | none => 0 | some .ended => 1 | some .door => 2 | some .guardDone => 3
        | some .expired => 4 | some .discarded => 5) ∧
      at_ 2 = BitVec.ofNat 8
        ((if (s.dev.psq.get p).doorOpen then 1 else 0) + (if (s.dev.bkd.facts.get p).suspended then 2 else 0) +
          (if (s.dev.bkd.facts.get p).latch then 4 else 0) +
          (match s.dev.image.get p with | none => 0 | some im => 8 + if im.dirty then 16 else 0) +
          (if (s.dev.tmb.get p).staged = none then 0 else 32) + (if s.dev.motorRun p then 64 else 0) +
          (if s.dev.motorRev p then 128 else 0)) ∧
      at_ 3 = BitVec.ofNat 8
        ((if (s.dev.psq.get p).advisory.tornTail then 1 else 0) + (if (s.dev.psq.get p).advisory.staleBasis then 2 else 0) +
          (if (s.dev.psq.get p).advisory.writeRetry then 4 else 0) +
          (if (s.dev.psq.get p).blocking.journalFail then 8 else 0) +
          (if (s.dev.psq.get p).blocking.ringCorrupt then 16 else 0) +
          (if (s.dev.psq.get p).blocking.thermal then 32 else 0) +
          (if (s.dev.psq.get p).blocking.sensor then 64 else 0)) ∧
      at_ 4 = BitVec.ofNat 8 (s.dev.bkd.facts.get p).stall ∧ at_ 5 = BitVec.ofNat 8 ((s.dev.bkd.facts.get p).stall / 256) ∧
      at_ 6 = BitVec.ofNat 8 ((s.dev.bkd.facts.get p).stall / 65536) ∧
      at_ 7 = BitVec.ofNat 8 (s.dev.bkd.facts.get p).losses ∧
      at_ 8 = (match s.dev.image.get p with | none => 0 | some im => BitVec.ofNat 8 im.pending) ∧
      (∀ w : Word, w = (match (s.dev.sns.get p).published with | none => 0x8000 | some t => BitVec.ofInt 16 t) →
        at_ 9 = w.setWidth 8 ∧ at_ 10 = (w >>> 8).setWidth 8) ∧
      at_ 11 = BitVec.ofNat 8
        ((match (s.dev.tmb.get p).state with | .idle => 0 | .burst => 1 | .rest => 2 | .paused => 3) +
          (if (s.dev.ring.get p).newest = none then 0 else 128)) ∧
      at_ 12 = BitVec.ofNat 8 (s.dev.tmb.get p).burstsLeft ∧
      at_ 13 = BitVec.ofNat 8 (s.dev.tmb.get p).position ∧ at_ 14 = BitVec.ofNat 8 ((s.dev.tmb.get p).position / 256) ∧
      ∀ w, (s.dev.ring.get p).newest = some w → at_ 15 = w.setWidth 8 ∧ at_ 16 = (w >>> 8).setWidth 8

/-! ### Cycle requests (START, REPORT, CHECKPOINT, END, GUARD) -/

/-- START (R33, R34, R58, R169). On a VACANT pocket without a mark, a queued FORMAT or a blocking fault it is accepted:
the advisory set, the plan and the basis go, a new cycle number is taken, the image holds the clamped figures of the
request (or the default guard program), the pocket is DRYING with start kind WARM, a START commit is queued, and the reply
is owed, CLAMPED where a figure was clamped. Otherwise it is refused with STATE, BUSY or FAULTED, in that order. -/
def Obligations.Start : Prop :=
  ∀ (s : State) (p : Pocket) (payload : List Byte), Admitted .start payload s.dev → pocketOf payload = some p →
    ((s.dev.psq.get p).state ≠ .vacant ∨ (s.dev.psq.get p).mark ≠ none →
      exec (.start payload) s = .next { s with dev := s.dev.replied 0x82 [2, pocketIndexByte p] }) ∧
    ((s.dev.psq.get p).state = .vacant → (s.dev.psq.get p).mark = none →
      (s.dev.anyEntry (Work.isFormatOf p) = true →
        exec (.start payload) s = .next { s with dev := s.dev.replied 0x82 [4, pocketIndexByte p] }) ∧
      (s.dev.anyEntry (Work.isFormatOf p) = false → (s.dev.psq.get p).blocking ≠ .empty →
        exec (.start payload) s = .next { s with dev := s.dev.replied 0x82 [5, pocketIndexByte p] }) ∧
      (s.dev.anyEntry (Work.isFormatOf p) = false → (s.dev.psq.get p).blocking = .empty →
        ∀ g, g = (if payload.length = 11 then guardOfBytes payload 6 else Params.defaultGuard s.dev.link.params) →
        ∃ d' im clamped, exec (.start payload) s = .next { s with dev := d' } ∧
          d'.psq = s.dev.psq.set p
            { s.dev.psq.get p with state := .drying, startKind := .warm, advisory := ⟨false, false, false⟩ } ∧
          d'.plan = s.dev.plan.set p none ∧
          d'.journal.get p = { s.dev.journal.get p with basis := none } ∧
          d'.image.get p = some im ∧
          im.body = ⟨.drying, min (fieldValue payload 1 1) 63, min (fieldValue payload 2 2) 14400,
            min (fieldValue payload 4 2) 3600, 0, 0, 0, 0, im.body.exhaustLast, im.body.exhaustLast, 0, clampGuard g,
            (clampGuard g).bursts⟩ ∧
          im.exhaustRef = im.body.exhaustLast ∧
          (∀ t, (s.dev.sns.get p).published = some t ∨
            (s.dev.sns.get p).published = none ∧ (s.dev.sns.get p).lastInRange = some t → im.body.exhaustLast = t) ∧
          im.cycle = (if (s.dev.ring.get p).lastCycle = 0 ∨ 65535 ≤ (s.dev.ring.get p).lastCycle then 1
            else (s.dev.ring.get p).lastCycle + 1) ∧
          (d'.ring.get p).lastCycle = im.cycle ∧
          (im.commit = .queued .start ∨ im.commit = .inFlight .start) ∧
          ⟨.start, some p, clamped, 0⟩ ∈ d'.link.deferred ∧
          (clamped = true ↔ 63 < fieldValue payload 1 1 ∨ 14400 < fieldValue payload 2 2 ∨
            3600 < fieldValue payload 4 2 ∨ clampGuard g ≠ g) ∧
          s.dev.linkServed d' ∧
          d' = { s.dev with
            psq := d'.psq, image := d'.image, engine := d'.engine, ring := d'.ring, journal := d'.journal
            plan := d'.plan, link := d'.link, freeCount := s.dev.freeCount + 1 }))

/-- REPORT (R35, R36, R60 to R62, R153, R170). Refusals carry the pending count and change nothing: STATE, then ORDER,
then BUSY at 15. A taken report merges the fields its mask names, adds 1 to the pending count and says so; a move to
COOLING, and the fifteenth report, have a commit given. A move to ANTICREASE starts a full course of the image's program,
in BURST or, outside PRESENT, PAUSED; with the door reading OPEN the pocket is closed with DOOR and no burst. The reply's
pending count is taken before the engine selects work, and reads 0 where the report itself closed the pocket: the model's
choices (log entry 27). -/
def Obligations.Report : Prop :=
  ∀ (s : State) (p : Pocket) (payload : List Byte), Admitted .report payload s.dev → pocketOf payload = some p →
    ((s.dev.psq.get p).state.active = false ∨ (s.dev.psq.get p).mark ≠ none →
      exec (.report payload) s = .next { s with
        dev := s.dev.replied 0x83 [2, pocketIndexByte p, BitVec.ofNat 8 (s.dev.pendingCount p)] }) ∧
    ∀ im, (s.dev.psq.get p).state.active = true → (s.dev.psq.get p).mark = none → s.dev.image.get p = some im →
      (∀ ph, reportField payload 0 = some ph → ph ≠ (s.dev.psq.get p).state.code →
        ¬((s.dev.psq.get p).state = .drying ∧ ph = 2) → ¬((s.dev.psq.get p).state = .cooling ∧ ph = 3) →
        exec (.report payload) s = .next { s with
          dev := s.dev.replied 0x83 [3, pocketIndexByte p, BitVec.ofNat 8 im.pending] }) ∧
      ((reportField payload 0 = none ∨ reportField payload 0 = some (s.dev.psq.get p).state.code ∨
          (s.dev.psq.get p).state = .drying ∧ reportField payload 0 = some 2 ∨
          (s.dev.psq.get p).state = .cooling ∧ reportField payload 0 = some 3) →
        (15 ≤ im.pending →
          exec (.report payload) s = .next { s with
            dev := s.dev.replied 0x83 [4, pocketIndexByte p, BitVec.ofNat 8 im.pending] }) ∧
        (im.pending < 15 →
          ∃ d', exec (.report payload) s = .next { s with dev := d' } ∧
            ⟨0x83, [if reportClamped payload im.body then 1 else 0, pocketIndexByte p,
              BitVec.ofNat 8 (if (s.dev.psq.get p).state = .cooling ∧ reportField payload 0 = some 3 ∧
                (s.dev.psq.get p).doorOpen = true ∧ (s.dev.psq.get p).blocking.journalFail = true then 0
                else im.pending + 1)]⟩ ∈ d'.link.transmit ∧
            (reportField payload 0 = none ∨ reportField payload 0 = some (s.dev.psq.get p).state.code →
              d'.psq = s.dev.psq ∧ d'.tmb = s.dev.tmb ∧ d'.bkd = s.dev.bkd ∧
              ∃ im', d'.image.get p = some im' ∧ im'.body = mergeReport payload im.body ∧
                (im.pending = 14 → im.commit = .none → (s.dev.psq.get p).blocking.journalFail = false →
                  im'.commit = .queued .progress ∨ im'.commit = .inFlight .progress)) ∧
            ((s.dev.psq.get p).state = .drying → reportField payload 0 = some 2 →
              d'.psq = s.dev.psq.set p { s.dev.psq.get p with state := .cooling } ∧ d'.tmb = s.dev.tmb ∧
              d'.bkd = s.dev.bkd ∧ d'.heatPermit p = false ∧
              ∃ im', d'.image.get p = some im' ∧ im'.body = { mergeReport payload im.body with phase := .cooling } ∧
                (im.commit = .none → (s.dev.psq.get p).blocking.journalFail = false →
                  im'.commit = .queued .phase ∨ im'.commit = .inFlight .phase)) ∧
            ((s.dev.psq.get p).state = .cooling → reportField payload 0 = some 3 →
              ((s.dev.psq.get p).doorOpen = false →
                d'.psq = s.dev.psq.set p { s.dev.psq.get p with state := .anticrease } ∧ d'.bkd = s.dev.bkd ∧
                d'.tmb = s.dev.tmb.set p
                  (if s.dev.bkd.monitor.state = .present then
                    ⟨.burst, some im.body.guard, none, im.body.guard.bursts, 0, none, .forward⟩
                   else ⟨.paused, some im.body.guard, none, im.body.guard.bursts, 0, some .burst, .forward⟩) ∧
                ∃ im', d'.image.get p = some im' ∧
                  im'.body = { mergeReport payload im.body with phase := .anticrease, burstsLeft := im.body.guard.bursts }) ∧
              ((s.dev.psq.get p).doorOpen = true →
                (d'.tmb.get p).state = .idle ∧
                ((s.dev.psq.get p).blocking.journalFail = false →
                  d'.psq = s.dev.psq.set p { s.dev.psq.get p with state := .anticrease, mark := some .door }) ∧
                ((s.dev.psq.get p).blocking.journalFail = true →
                  (d'.psq.get p).state = .vacant ∧ d'.image.get p = none))) ∧
            s.dev.sparesOther p d' ∧ s.dev.linkServed d' ∧
            d' = { s.dev with
              psq := d'.psq, image := d'.image, engine := d'.engine, ring := d'.ring, journal := d'.journal
              tmb := d'.tmb, bkd := d'.bkd, link := d'.link }))

/-- What a taken report makes of each body field it may name (R60, R61): REPLACE fields clamped, ADD fields stopping at
65535, every other field, and every field the mask does not name, as it was, and CLAMPED exactly where a figure was
clamped or a sum stopped. -/
def Obligations.ReportMerge : Prop :=
  ∀ (payload : List Byte) (b : Body), b.energy ≤ 65535 → b.runTime ≤ 65535 →
    (∀ v, reportField payload 1 = some v → (mergeReport payload b).heat = min v 14400) ∧
    (∀ v, reportField payload 2 = some v → (mergeReport payload b).cool = min v 3600) ∧
    (∀ v, reportField payload 3 = some v → (mergeReport payload b).stage = min v 2) ∧
    (∀ v, reportField payload 4 = some v → (mergeReport payload b).moisture = v) ∧
    (∀ v, reportField payload 5 = some v → (mergeReport payload b).energy = min 65535 (b.energy + v)) ∧
    (∀ v, reportField payload 6 = some v → (mergeReport payload b).runTime = min 65535 (b.runTime + v)) ∧
    (reportField payload 1 = none → (mergeReport payload b).heat = b.heat) ∧
    (reportField payload 2 = none → (mergeReport payload b).cool = b.cool) ∧
    (reportField payload 3 = none → (mergeReport payload b).stage = b.stage) ∧
    (reportField payload 4 = none → (mergeReport payload b).moisture = b.moisture) ∧
    (reportField payload 5 = none → (mergeReport payload b).energy = b.energy) ∧
    (reportField payload 6 = none → (mergeReport payload b).runTime = b.runTime) ∧
    (∀ i, i ≤ 6 → (reportField payload i = none ↔ (payload.getD 1 0).getLsbD i = false)) ∧
    ((payload.getD 1 0).toNat % 128 ≤ 1 → mergeReport payload b = b) ∧
    (mergeReport payload b).phase = b.phase ∧ (mergeReport payload b).program = b.program ∧
    (mergeReport payload b).exhaustLast = b.exhaustLast ∧ (mergeReport payload b).exhaustPeak = b.exhaustPeak ∧
    (mergeReport payload b).outages = b.outages ∧ (mergeReport payload b).guard = b.guard ∧
    (mergeReport payload b).burstsLeft = b.burstsLeft ∧
    (reportClamped payload b = true ↔
      (∃ v, reportField payload 1 = some v ∧ 14400 < v) ∨ (∃ v, reportField payload 2 = some v ∧ 3600 < v) ∨
      (∃ v, reportField payload 3 = some v ∧ 2 < v) ∨ (∃ v, reportField payload 5 = some v ∧ 65535 < b.energy + v) ∨
      (∃ v, reportField payload 6 = some v ∧ 65535 < b.runTime + v))

/-- CHECKPOINT (R72, R170). Outside an unmarked cycle it is refused with STATE; under JOURNAL_FAIL it is answered FAULTED.
A clean image without an entry is answered at once with the newest completed sequence. A dirty one gets a PROGRESS entry,
and the reply is owed to its completion; so it is to a queued entry's, and to a clean write's in flight. A write in flight
under a dirty image gets a recommit request, and the reply is owed to the completion after its own. -/
def Obligations.Checkpoint : Prop :=
  ∀ (s : State) (p : Pocket) (payload : List Byte), Admitted .checkpoint payload s.dev → pocketOf payload = some p →
    ((s.dev.psq.get p).state.active = false ∨ (s.dev.psq.get p).mark ≠ none →
      exec (.checkpoint payload) s = .next { s with dev := s.dev.replied 0x84 [2, pocketIndexByte p] }) ∧
    ∀ im, (s.dev.psq.get p).state.active = true → (s.dev.psq.get p).mark = none → s.dev.image.get p = some im →
      ((s.dev.psq.get p).blocking.journalFail = true →
        exec (.checkpoint payload) s = .next { s with dev := s.dev.replied 0x84 [5, pocketIndexByte p] }) ∧
      ((s.dev.psq.get p).blocking.journalFail = false →
        (im.commit = .none → im.dirty = false → ∀ w, (s.dev.ring.get p).newest = some w →
          exec (.checkpoint payload) s = .next { s with
            dev := s.dev.replied 0x84 ([0, pocketIndexByte p] ++ wordBytes w) }) ∧
        (im.commit = .none → im.dirty = true →
          ∃ d' im', exec (.checkpoint payload) s = .next { s with dev := d' } ∧
            d'.image.get p = some im' ∧ im'.body = im.body ∧
            (im'.commit = .queued .progress ∨ im'.commit = .inFlight .progress) ∧
            ⟨.checkpoint, some p, false, 0⟩ ∈ d'.link.deferred ∧ s.dev.linkServed d' ∧
            d' = { s.dev with
              image := d'.image, engine := d'.engine, ring := d'.ring, journal := d'.journal, link := d'.link }) ∧
        ((∃ k, im.commit = .queued k) ∨ (∃ k, im.commit = .inFlight k) ∧ im.dirty = false →
          exec (.checkpoint payload) s = .next { s with dev := { s.dev with link := { s.dev.link with
            receiver := .hunting, gapMs := 0
            deferred := s.dev.link.deferred ++ [⟨.checkpoint, some p, false, 0⟩] } } }) ∧
        (∀ k, im.commit = .inFlight k → im.dirty = true →
          exec (.checkpoint payload) s = .next { s with dev := { s.dev with
            image := s.dev.image.set p (some { im with
              recommit := some (match im.recommit with | none => .progress | some r => r) })
            link := { s.dev.link with
              receiver := .hunting, gapMs := 0
              deferred := s.dev.link.deferred ++ [⟨.checkpoint, some p, false, 1⟩] } } }))

/-- END (R37, R38, R59, R148, R169). In an unmarked cycle the pocket is marked END and keeps its state, its timer stops,
its permit is withdrawn and a CLOSE commit is given. In PLANNED or WAITSTART it is marked DISCARDED, its choice and its
place in the grant queue go, and its image is rebuilt from the basis. The reply is owed. Under JOURNAL_FAIL the closure
takes effect at once and the reply is FAULTED. VACANT, SUSPENDED, or a mark refuses it with STATE. That a head leaving the
queue gives the next pocket no grant in the same step, though R143's conditions may hold of it then, is the model's choice:
the grant is a command of its own (log entry 17). -/
def Obligations.EndCycle : Prop :=
  ∀ (s : State) (p : Pocket) (payload : List Byte), Admitted .endCycle payload s.dev → pocketOf payload = some p →
    ((s.dev.psq.get p).state = .vacant ∨ (s.dev.psq.get p).state = .suspended ∨ (s.dev.psq.get p).mark ≠ none →
      exec (.endCycle payload) s = .next { s with dev := s.dev.replied 0x85 [2, pocketIndexByte p] }) ∧
    ((s.dev.psq.get p).mark = none → (s.dev.psq.get p).state ≠ .vacant → (s.dev.psq.get p).state ≠ .suspended →
      ∃ d', exec (.endCycle payload) s = .next { s with dev := d' } ∧
        (d'.tmb.get p).state = .idle ∧ d'.heatPermit p = false ∧ d'.motorRun p = false ∧
        ((s.dev.psq.get p).blocking.journalFail = true →
          (d'.psq.get p).state = .vacant ∧ (d'.psq.get p).mark = none ∧ d'.image.get p = none ∧
          d'.bkd.facts.get p = .clear ∧ d'.plan = s.dev.plan ∧
          (s.dev.link.transmit ++ [⟨0x85, [5, pocketIndexByte p]⟩]) <+: d'.link.transmit) ∧
        ((s.dev.psq.get p).blocking.journalFail = false →
          ⟨.endCycle, some p, false, 0⟩ ∈ d'.link.deferred ∧ d'.bkd = s.dev.bkd ∧
          ((s.dev.psq.get p).state.active = true →
            d'.psq = s.dev.psq.set p { s.dev.psq.get p with mark := some .ended } ∧ d'.arbiter = s.dev.arbiter ∧
            ∀ im, s.dev.image.get p = some im → ∃ im', d'.image.get p = some im' ∧ im'.body = im.body ∧
              (im.commit = .none → im'.commit = .queued .close ∨ im'.commit = .inFlight .close) ∧
              (∀ k, im.commit = .inFlight k → im'.commit = .inFlight k ∧ im'.recommit = some .close)) ∧
          ((s.dev.psq.get p).state.waiting = true →
            d'.psq = s.dev.psq.set p { s.dev.psq.get p with mark := some .discarded, choice := none } ∧
            p ∉ d'.arbiter.queue ∧ d'.arbiter.stagger = s.dev.arbiter.stagger ∧
            ∀ b, (s.dev.journal.get p).basis = some b → ∃ im, d'.image.get p = some im ∧
              im.cycle = b.record.cycle ∧ im.closeReason = some .discarded ∧
              im.body = { b.record.body with
                outages := min 255 (b.record.body.outages + (s.dev.bkd.facts.get p).losses) } ∧
              (im.commit = .queued .close ∨ im.commit = .inFlight .close))) ∧
        s.dev.sparesOther p d' ∧ s.dev.linkServed d' ∧
        d' = { s.dev with
          psq := d'.psq, tmb := d'.tmb, image := d'.image, engine := d'.engine, ring := d'.ring
          journal := d'.journal, bkd := d'.bkd, arbiter := d'.arbiter, link := d'.link })

/-- GUARD (R157, R63). In DRYING and COOLING the clamped program replaces the image's at once and dirties it, with the
pending count and the bursts remaining as they were; in ANTICREASE it is staged in the timer. The reply carries the
program as clamped (R152: on to 2 to 60, period to on + 5 to 600, bursts to 1 to 255, reverse to 0 or 1), CLAMPED where a
field changed. Outside an unmarked cycle it is refused with STATE. -/
def Obligations.Guard : Prop :=
  ∀ (s : State) (p : Pocket) (payload : List Byte) (g : GuardProgram), Admitted .guard payload s.dev →
    pocketOf payload = some p → g = clampGuard (guardOfBytes payload 1) →
    (2 ≤ g.on ∧ g.on ≤ 60 ∧ g.on + 5 ≤ g.period ∧ g.period ≤ 600 ∧ 1 ≤ g.bursts ∧ g.bursts ≤ 255 ∧ g.reverse ≤ 1) ∧
    (∀ r, r = guardOfBytes payload 1 →
      (2 ≤ r.on → r.on ≤ 60 → g.on = r.on) ∧ (g.on + 5 ≤ r.period → r.period ≤ 600 → g.period = r.period) ∧
      (1 ≤ r.bursts → r.bursts ≤ 255 → g.bursts = r.bursts) ∧ (g.reverse = 0 ↔ r.reverse = 0)) ∧
    ((s.dev.psq.get p).state.active = false ∨ (s.dev.psq.get p).mark ≠ none →
      exec (.guard payload) s = .next { s with dev := s.dev.replied 0x88 [2, pocketIndexByte p] }) ∧
    ((s.dev.psq.get p).state.active = true → (s.dev.psq.get p).mark = none →
      ∃ d', exec (.guard payload) s = .next { s with dev := d' } ∧
        d'.link = (s.dev.replied 0x88 ([if g = guardOfBytes payload 1 then 0 else 1, pocketIndexByte p] ++
          guardBytes g)).link ∧
        ((s.dev.psq.get p).state = .anticrease →
          d'.tmb = s.dev.tmb.set p { s.dev.tmb.get p with staged := some g } ∧ d'.image = s.dev.image) ∧
        ((s.dev.psq.get p).state ≠ .anticrease → d'.tmb = s.dev.tmb ∧
          ∀ im, s.dev.image.get p = some im → ∃ im', d'.image = s.dev.image.set p (some im') ∧
            im' = { im with body := { im.body with guard := g }, dirty := true, window := im'.window }) ∧
        d' = { s.dev with tmb := d'.tmb, image := d'.image, link := d'.link })

/-! ### Plans, choices, faults and history (PLAN, HISTORY, RESUME, CLEAR) -/

/-- PLAN and HISTORY are answered at once and change nothing (R117, R138): the plan record in the layout of Table 11-5 or
the byte 0 where none is present, and the record at place k of the history list or the byte 0. That the flags D and stale
are sent as 1 for set and 0 for clear is the model's choice (log entry 41). -/
def Obligations.PlanAndHistory : Prop :=
  ∀ (s : State) (p : Pocket) (payload : List Byte), pocketOf payload = some p →
    (Admitted .plan payload s.dev →
      (s.dev.plan.get p = none →
        exec (.plan payload) s = .next { s with dev := s.dev.replied 0x86 [0, pocketIndexByte p, 0] }) ∧
      ∀ pl, s.dev.plan.get p = some pl →
        exec (.plan payload) s = .next { s with
          dev := s.dev.replied 0x86 ([0, pocketIndexByte p, 1, BitVec.ofNat 8 pl.outcome.code, BitVec.ofNat 8 pl.reason.code] ++
            leBytes 2 pl.basisSeq.toNat ++ [BitVec.ofNat 8 pl.basisPhase.code] ++ leBytes 3 pl.stall ++
            [if pl.latch then 1 else 0, BitVec.ofNat 8 pl.outages] ++
            leBytes 2 (match pl.tNow with | some t => (BitVec.ofInt 16 t).toNat | none => 0x8000) ++
            leBytes 2 (BitVec.ofInt 16 pl.tLast).toNat ++ leBytes 2 pl.heat ++ leBytes 2 pl.cool ++
            [BitVec.ofNat 8 pl.bursts, BitVec.ofNat 8 pl.guard.on] ++ leBytes 2 pl.guard.period ++
            [BitVec.ofNat 8 pl.guard.bursts, BitVec.ofNat 8 pl.guard.reverse, if pl.stale then 1 else 0]) }) ∧
    (Admitted .history payload s.dev →
      ((s.dev.journal.get p).history[secondByte payload]? = none →
        exec (.history payload) s = .next { s with
          dev := s.dev.replied 0x8A [0, pocketIndexByte p, payload.getD 1 0, 0] }) ∧
      ∀ r, (s.dev.journal.get p).history[secondByte payload]? = some r →
        exec (.history payload) s = .next { s with
          dev := s.dev.replied 0x8A ([0, pocketIndexByte p, payload.getD 1 0, 1] ++ r.bytes) })

/-- RESUME outside PLANNED or under a closing mark is refused with STATE; ACCEPT of a HOLD plan with STATE; REHEAT
against any plan but REHEAT with ORDER (R44, R133, R134). ACCEPT or REHEAT on a REHEAT plan gives WAITSTART with the
plan's figures and the tail of the grant queue, and is answered OK; it waits there even where R143's conditions hold
already, the model's choice: a grant is a command of its own (log entry 17). -/
def Obligations.ResumeHeat : Prop :=
  ∀ (s : State) (p : Pocket) (payload : List Byte), Admitted .resume payload s.dev → pocketOf payload = some p →
    (((s.dev.psq.get p).state ≠ .planned ∨ (s.dev.psq.get p).mark ≠ none) →
      ∀ c n, (c, n) ∈ [(Instr.resumeAccept payload, 0), (.resumeReheat payload, 1), (.resumeCool payload, 2),
          (.resumeGuard payload, 3), (.resumeClose payload, 4)] → secondByte payload = n →
        exec c s = .next { s with dev := s.dev.replied 0x87 [2, pocketIndexByte p] }) ∧
    ∀ pl b, (s.dev.psq.get p).state = .planned → (s.dev.psq.get p).mark = none →
      s.dev.plan.get p = some pl → (s.dev.journal.get p).basis = some b →
      (pl.outcome = .hold → secondByte payload = 0 →
        exec (.resumeAccept payload) s = .next { s with dev := s.dev.replied 0x87 [2, pocketIndexByte p] }) ∧
      (pl.outcome ≠ .reheat → secondByte payload = 1 →
        exec (.resumeReheat payload) s = .next { s with dev := s.dev.replied 0x87 [3, pocketIndexByte p] }) ∧
      (pl.outcome = .reheat → ∀ c n, (c, n) ∈ [(Instr.resumeAccept payload, 0), (.resumeReheat payload, 1)] →
        secondByte payload = n →
        ∃ d', exec c s = .next { s with dev := d' } ∧
          d'.psq = s.dev.psq.set p
            { s.dev.psq.get p with
              state := .waitstart, choice := some ⟨.reheat, pl.heat, pl.cool, pl.bursts, pl.guard⟩ } ∧
          d'.arbiter = { s.dev.arbiter with queue := s.dev.arbiter.queue ++ [p] } ∧
          (s.dev.link.transmit ++ [⟨0x87, [0, pocketIndexByte p]⟩]) <+: d'.link.transmit ∧
          s.dev.linkServed d' ∧
          d' = { s.dev with
            psq := d'.psq, arbiter := d'.arbiter, image := d'.image, engine := d'.engine, ring := d'.ring
            journal := d'.journal, link := d'.link })

/-- RESUME to COOL, GUARD and CLOSE (R44, R133 to R136, R139). The choice is the plan's own for a COOL plan, the cool
computation of the plan's temperature for COOL, a full course of the basis program for GUARD. With mains PRESENT and the
reserve ready the pocket leaves WAITSTART at once: its facts are released, its image is rebuilt with the figures, and it
is COOLING or ANTICREASE (with the door reading OPEN closed with DOOR). Otherwise it waits in WAITSTART outside the grant
queue. CLOSE marks the pocket DISCARDED and rebuilds its image. -/
def Obligations.ResumeConservative : Prop :=
  ∀ (s : State) (p : Pocket) (payload : List Byte) (pl : Plan) (b : Basis), Admitted .resume payload s.dev →
    pocketOf payload = some p → (s.dev.psq.get p).state = .planned → (s.dev.psq.get p).mark = none →
    s.dev.plan.get p = some pl → (s.dev.journal.get p).basis = some b →
    (∀ c ch,
      (pl.outcome = .cool ∧ ch = ⟨.cool, pl.heat, pl.cool, pl.bursts, pl.guard⟩ ∧
          (c = .resumeAccept payload ∧ secondByte payload = 0 ∨ c = .resumeCool payload ∧ secondByte payload = 2) ∨
        (pl.outcome = .reheat ∨ pl.outcome = .hold) ∧ c = .resumeCool payload ∧ secondByte payload = 2 ∧
          ch = ⟨.cool, b.record.body.heat,
            (match pl.tNow with
              | none => max (Params.cMin s.dev.link.params) b.record.body.cool
              | some t =>
                match coolComputation s.dev.link.params b.record.body.cool b.record.body.exhaustLast t with
                | .cool n => n
                | .guard => Params.cMin s.dev.link.params),
            b.record.body.burstsLeft, b.record.body.guard⟩ ∨
        (pl.outcome = .reheat ∨ pl.outcome = .cool ∨ pl.outcome = .hold) ∧ c = .resumeGuard payload ∧
          secondByte payload = 3 ∧
          ch = ⟨.guard, b.record.body.heat, b.record.body.cool, b.record.body.guard.bursts, b.record.body.guard⟩) →
      ∃ d', exec c s = .next { s with dev := d' } ∧
        ⟨0x87, [0, pocketIndexByte p]⟩ ∈ d'.link.transmit ∧
        ((s.dev.bkd.monitor.state ≠ .present ∨ s.dev.reserve.ready = false) →
          d'.psq = s.dev.psq.set p { s.dev.psq.get p with state := .waitstart, choice := some ch } ∧
          d'.tmb = s.dev.tmb ∧ d'.bkd = s.dev.bkd) ∧
        (s.dev.bkd.monitor.state = .present → s.dev.reserve.ready = true →
          (ch.outcome = .cool ∨ (s.dev.psq.get p).doorOpen = false →
            d'.psq = s.dev.psq.set p { s.dev.psq.get p with
              state := (if ch.outcome = .cool then .cooling else .anticrease), startKind := .warm, choice := none } ∧
            d'.bkd = { s.dev.bkd with facts := s.dev.bkd.facts.set p .clear } ∧
            d'.tmb = (if ch.outcome = .cool then s.dev.tmb else
              s.dev.tmb.set p ⟨.burst, some ch.guard, none, ch.bursts, 0, none, .forward⟩) ∧
            ∃ im, d'.image.get p = some im ∧ im.cycle = b.record.cycle ∧
              im.exhaustRef = b.record.body.exhaustLast ∧
              im.body = (if ch.outcome = .cool then
                  { b.record.body with
                    phase := .cooling, cool := ch.cool
                    outages := min 255 (b.record.body.outages + (s.dev.bkd.facts.get p).losses) }
                else
                  { b.record.body with
                    phase := .anticrease, guard := ch.guard, burstsLeft := ch.bursts
                    outages := min 255 (b.record.body.outages + (s.dev.bkd.facts.get p).losses) }) ∧
              im.resume = some ⟨ch.outcome, pl.reason, pl.basisSeq, pl.stall, pl.tNow⟩ ∧
              ((s.dev.psq.get p).blocking.journalFail = false →
                im.commit = .queued .resume ∨ im.commit = .inFlight .resume) ∧
              ((s.dev.psq.get p).blocking.journalFail = true → im.commit = .none)) ∧
          (ch.outcome = .guard → (s.dev.psq.get p).doorOpen = true →
            (d'.tmb.get p).state = .idle ∧ d'.bkd = { s.dev.bkd with facts := s.dev.bkd.facts.set p .clear } ∧
            ((s.dev.psq.get p).blocking.journalFail = false →
              (d'.psq.get p).state = .anticrease ∧ (d'.psq.get p).mark = some .door) ∧
            ((s.dev.psq.get p).blocking.journalFail = true →
              (d'.psq.get p).state = .vacant ∧ d'.image.get p = none))) ∧
        d'.plan = s.dev.plan ∧ d'.arbiter = s.dev.arbiter ∧ s.dev.sparesOther p d' ∧ s.dev.linkServed d' ∧
        d' = { s.dev with
          psq := d'.psq, tmb := d'.tmb, bkd := d'.bkd, image := d'.image, engine := d'.engine, ring := d'.ring
          journal := d'.journal, link := d'.link }) ∧
    (pl.outcome ≠ .close → secondByte payload = 4 →
      ∃ d', exec (.resumeClose payload) s = .next { s with dev := d' } ∧
        p ∉ d'.arbiter.queue ∧ ⟨0x87, [0, pocketIndexByte p]⟩ ∈ d'.link.transmit ∧
        ((s.dev.psq.get p).blocking.journalFail = false →
          d'.psq = s.dev.psq.set p { s.dev.psq.get p with mark := some .discarded, choice := none } ∧
          d'.bkd = s.dev.bkd ∧
          ∃ im, d'.image.get p = some im ∧ im.cycle = b.record.cycle ∧ im.closeReason = some .discarded ∧
            im.body = { b.record.body with
              outages := min 255 (b.record.body.outages + (s.dev.bkd.facts.get p).losses) } ∧
            (im.commit = .queued .close ∨ im.commit = .inFlight .close)) ∧
        ((s.dev.psq.get p).blocking.journalFail = true →
          (d'.psq.get p).state = .vacant ∧ (d'.psq.get p).mark = none ∧ d'.image.get p = none ∧
          d'.bkd.facts.get p = .clear) ∧
        d'.plan = s.dev.plan ∧ s.dev.sparesOther p d' ∧ s.dev.linkServed d' ∧
        d' = { s.dev with
          psq := d'.psq, tmb := d'.tmb, bkd := d'.bkd, image := d'.image, engine := d'.engine, ring := d'.ring
          journal := d'.journal, arbiter := d'.arbiter, link := d'.link })

/-- CLEAR of all advisory faults or of one (R54). The named faults leave the set, the blocking set stays, and the reply
is OK. Only where one was removed from a pocket in PLANNED without a mark is the plan computed again, from the faults
that are left; a REHEAT, COOL or HOLD plan leaves the pocket PLANNED with PLAN_READY raised, a CLOSE plan marks it. -/
def Obligations.ClearAdvisory : Prop :=
  ∀ (s : State) (p : Pocket) (payload : List Byte) (c : Instr) (left : Advisory),
    Admitted .clear payload s.dev → pocketOf payload = some p →
    (c = .clearAllAdvisory payload ∧ secondByte payload = 16 ∧ left = ⟨false, false, false⟩ ∨
      c = .clearAdvisoryFault payload ∧
        (secondByte payload = 1 ∧ left = { (s.dev.psq.get p).advisory with tornTail := false } ∨
          secondByte payload = 2 ∧ left = { (s.dev.psq.get p).advisory with staleBasis := false } ∨
          secondByte payload = 3 ∧ left = { (s.dev.psq.get p).advisory with writeRetry := false })) →
    ∃ d', exec c s = .next { s with dev := d' } ∧
      (d'.psq.get p).advisory = left ∧ (d'.psq.get p).blocking = (s.dev.psq.get p).blocking ∧
      ⟨0x89, [0, pocketIndexByte p]⟩ ∈ d'.link.transmit ∧
      (left = (s.dev.psq.get p).advisory ∨ (s.dev.psq.get p).state ≠ .planned ∨ (s.dev.psq.get p).mark ≠ none →
        d'.psq = s.dev.psq.set p { s.dev.psq.get p with advisory := left } ∧ d'.plan = s.dev.plan ∧
        d'.arbiter = s.dev.arbiter ∧ d'.bkd = s.dev.bkd ∧ d'.tmb = s.dev.tmb) ∧
      (left ≠ (s.dev.psq.get p).advisory → (s.dev.psq.get p).state = .planned → (s.dev.psq.get p).mark = none →
        ∀ b pl, (s.dev.journal.get p).basis = some b →
          pl = decidePlan s.dev.link.params { s.dev.psq.get p with advisory := left } (s.dev.bkd.facts.get p)
            (s.dev.tNow p) b.record →
          d'.plan = s.dev.plan.set p (some pl) ∧
          (pl.outcome = .reheat ∨ pl.outcome = .cool ∨ pl.outcome = .hold →
            d'.psq = s.dev.psq.set p { s.dev.psq.get p with advisory := left, choice := none } ∧
            d'.link.attention.planReady = true ∧ d'.bkd = s.dev.bkd) ∧
          (pl.outcome = .close → (s.dev.psq.get p).blocking.journalFail = false →
            d'.psq = s.dev.psq.set p
              { s.dev.psq.get p with
                advisory := left, choice := none
                mark := some (if pl.reason = .door then .door else .expired) } ∧ d'.bkd = s.dev.bkd)) ∧
      s.dev.sparesOther p d' ∧ s.dev.linkServed d' ∧
      d' = { s.dev with
        psq := d'.psq, tmb := d'.tmb, bkd := d'.bkd, image := d'.image, engine := d'.engine, ring := d'.ring
        journal := d'.journal, plan := d'.plan, arbiter := d'.arbiter, link := d'.link }

/-- CLEAR naming a blocking fault (R55): STATE but in VACANT, and for RING_CORRUPT, THERMAL and SENSOR in PLANNED without
a mark; OK with nothing changed where the fault is absent; FAULTED while its condition stands (THERMAL: no in-range value
below T_LIMIT kept; SENSOR: the latest sample not in range). Otherwise it is removed and answered OK, and in PLANNED the
plan is computed again without it. That STATE comes first though the fault is absent, that an absent fault is answered OK
without its condition, and that VACANT counts under a mark too, are the model's choices (log entry 18); so is the in-range
value that stands for T_now where none is published (log entry 38). -/
def Obligations.ClearBlocking : Prop :=
  ∀ (s : State) (p : Pocket) (payload : List Byte) (stands : Bool) (left : Blocking) (gone : Bool),
    Admitted .clear payload s.dev → pocketOf payload = some p →
    (secondByte payload = 4 ∧ stands = (s.dev.psq.get p).blocking.journalFail ∧
        left = { (s.dev.psq.get p).blocking with journalFail := false } ∧ gone = true ∨
      secondByte payload = 5 ∧ stands = (s.dev.psq.get p).blocking.ringCorrupt ∧
        left = { (s.dev.psq.get p).blocking with ringCorrupt := false } ∧ gone = true ∨
      secondByte payload = 6 ∧ stands = (s.dev.psq.get p).blocking.thermal ∧
        left = { (s.dev.psq.get p).blocking with thermal := false } ∧
        gone = (match (s.dev.sns.get p).lastInRange with
          | some t => decide (t < Params.tLimit s.dev.link.params)
          | none => false) ∨
      secondByte payload = 7 ∧ stands = (s.dev.psq.get p).blocking.sensor ∧
        left = { (s.dev.psq.get p).blocking with sensor := false } ∧
        gone = (match (s.dev.sns.get p).recent with
          | some x => x.2
          | none => false)) →
    ((s.dev.psq.get p).state ≠ .vacant → ((s.dev.psq.get p).state ≠ .planned ∨ (s.dev.psq.get p).mark ≠ none ∨
        secondByte payload = 4) →
      exec (.clearBlockingFault payload) s = .next { s with dev := s.dev.replied 0x89 [2, pocketIndexByte p] }) ∧
    ((s.dev.psq.get p).state = .vacant ∨
        (s.dev.psq.get p).state = .planned ∧ (s.dev.psq.get p).mark = none ∧ secondByte payload ≠ 4 →
      (stands = false →
        exec (.clearBlockingFault payload) s = .next { s with dev := s.dev.replied 0x89 [0, pocketIndexByte p] }) ∧
      (stands = true → gone = false →
        exec (.clearBlockingFault payload) s = .next { s with dev := s.dev.replied 0x89 [5, pocketIndexByte p] }) ∧
      (stands = true → gone = true →
        ∃ d', exec (.clearBlockingFault payload) s = .next { s with dev := d' } ∧
          (d'.psq.get p).blocking = left ∧ (d'.psq.get p).advisory = (s.dev.psq.get p).advisory ∧
          ⟨0x89, [0, pocketIndexByte p]⟩ ∈ d'.link.transmit ∧
          ((s.dev.psq.get p).state = .vacant →
            d'.psq = s.dev.psq.set p { s.dev.psq.get p with blocking := left } ∧ d'.plan = s.dev.plan ∧
            d'.arbiter = s.dev.arbiter ∧ d'.bkd = s.dev.bkd ∧ d'.tmb = s.dev.tmb) ∧
          ((s.dev.psq.get p).state = .planned → ∀ b, (s.dev.journal.get p).basis = some b →
            d'.plan = s.dev.plan.set p (some (decidePlan s.dev.link.params
              { s.dev.psq.get p with blocking := left } (s.dev.bkd.facts.get p)
              (if left.sensor then none else
                match (s.dev.sns.get p).published with
                | some t => some t
                | none => (s.dev.sns.get p).lastInRange) b.record))) ∧
          s.dev.sparesOther p d' ∧ s.dev.linkServed d' ∧
          d' = { s.dev with
            psq := d'.psq, tmb := d'.tmb, bkd := d'.bkd, image := d'.image, engine := d'.engine, ring := d'.ring
            journal := d'.journal, plan := d'.plan, arbiter := d'.arbiter, link := d'.link }))

/-! ### The array and the parameters (FORMAT, PARAM_READ, PARAM_WRITE, PARAM_STORE) -/

/-- FORMAT (R99, R100) is refused with STATE outside VACANT without a mark, and with BUSY while a FORMAT entry is queued.
Taken, the pocket's ERASE entries go and the entry joins with next slot 0; behind an operation in flight nothing more
happens, and over a ring that is all blank it completes at once: the numbering, the basis and the history are reset and
the reply is OK. That its blank slots pass within one selection is the model's choice (log entry 40). PARAM_STORE (R97,
R172) is refused with BUSY while a PARAM entry is queued; taken, it is queued behind an operation in flight, and with mains
PRESENT and no commit waiting it starts at once with the words in force. In DIP either entry is queued and nothing starts
(R86). -/
def Obligations.FormatAndParamStore : Prop :=
  ∀ (s : State) (payload : List Byte),
    (Admitted .format payload s.dev → ∀ p, pocketOf payload = some p →
      ((s.dev.psq.get p).state ≠ .vacant ∨ (s.dev.psq.get p).mark ≠ none →
        exec (.format payload) s = .next { s with dev := s.dev.replied 0x8B [2, pocketIndexByte p] }) ∧
      ((s.dev.psq.get p).state = .vacant → (s.dev.psq.get p).mark = none →
        (s.dev.anyEntry Work.isFormat = true →
          exec (.format payload) s = .next { s with dev := s.dev.replied 0x8B [4, pocketIndexByte p] }) ∧
        (s.dev.anyEntry Work.isFormat = false → s.dev.engine.inFlight ≠ none →
          exec (.format payload) s = .next { s with dev := { s.dev with
            engine := { s.dev.engine with
              queue := (s.dev.engine.queue.filter fun e => !e.work.isEraseOf p) ++ [⟨s.dev.engine.nextAge, .format p 0 false⟩]
              nextAge := s.dev.engine.nextAge + 1 }
            link := { s.dev.link with
              receiver := .hunting, gapMs := 0, deferred := s.dev.link.deferred ++ [⟨.format, some p, false, 0⟩] } } }) ∧
        (s.dev.engine.inFlight = none → s.dev.engine.service = none → s.dev.engine.queue = [] →
          s.dev.bkd.monitor.state = .present → (s.dev.ring.get p).blank = Vector.replicate 16 true →
          exec (.format payload) s = .next { s with dev := { s.dev with
            engine := { s.dev.engine with nextAge := s.dev.engine.nextAge + 1 }
            ring := s.dev.ring.set p ⟨0, (s.dev.ring.get p).blank, 0, none, 0, none, 0⟩
            journal := s.dev.journal.set p { s.dev.journal.get p with basis := none, history := [] }
            link := { s.dev.link with
              receiver := .hunting, gapMs := 0, transmit := s.dev.link.transmit ++ [⟨0x8B, [0, pocketIndexByte p]⟩] } } }) ∧
        (s.dev.engine.inFlight = none → s.dev.engine.service = none → s.dev.engine.queue = [] →
          s.dev.bkd.monitor.state = .present → (s.dev.ring.get p).blank[0] = false →
          exec (.format payload) s = .next { s with dev := { s.dev with
            engine := { s.dev.engine with
              inFlight := some (.erase p 0 .format), queue := [⟨s.dev.engine.nextAge, .format p 0 false⟩]
              nextAge := s.dev.engine.nextAge + 1 }
            link := { s.dev.link with
              receiver := .hunting, gapMs := 0
              deferred := s.dev.link.deferred ++ [⟨.format, some p, false, 0⟩] } } }) ∧
        (s.dev.engine.inFlight = none → s.dev.engine.service = none → s.dev.anyEntry Work.isCommit = false →
          s.dev.anyEntry Work.isFormat = false → s.dev.bkd.monitor.state = .dip →
          exec (.format payload) s = .next { s with dev := { s.dev with
            engine := { s.dev.engine with
              queue := (s.dev.engine.queue.filter fun e => !e.work.isEraseOf p) ++ [⟨s.dev.engine.nextAge, .format p 0 false⟩]
              nextAge := s.dev.engine.nextAge + 1 }
            link := { s.dev.link with
              receiver := .hunting, gapMs := 0
              deferred := s.dev.link.deferred ++ [⟨.format, some p, false, 0⟩] } } }))) ∧
    (Admitted .paramStore payload s.dev →
      (s.dev.anyEntry Work.isParam = true →
        exec (.paramStore payload) s = .next { s with dev := s.dev.replied 0x8E [4] }) ∧
      (s.dev.anyEntry Work.isParam = false → s.dev.engine.inFlight ≠ none →
        exec (.paramStore payload) s = .next { s with dev := { s.dev with
          engine := { s.dev.engine with
            queue := s.dev.engine.queue ++ [⟨s.dev.engine.nextAge, .param false⟩], nextAge := s.dev.engine.nextAge + 1 }
          link := { s.dev.link with
            receiver := .hunting, gapMs := 0, deferred := s.dev.link.deferred ++ [⟨.paramStore, none, false, 0⟩] } } }) ∧
      (s.dev.engine.inFlight = none → s.dev.engine.service = none → s.dev.engine.queue = [] →
        s.dev.bkd.monitor.state = .present →
        ∃ ws, exec (.paramStore payload) s = .next { s with dev := { s.dev with
          engine := { s.dev.engine with
            inFlight := some (.param ws false s.dev.engine.nextAge), nextAge := s.dev.engine.nextAge + 1 }
          link := { s.dev.link with
            receiver := .hunting, gapMs := 0, deferred := s.dev.link.deferred ++ [⟨.paramStore, none, false, 0⟩] } } } ∧
          ws.length = 41 ∧ ws.take 40 = s.dev.link.params.toList ∧ ws.foldl (· + ·) 0 = 0) ∧
      (s.dev.engine.inFlight = none → s.dev.engine.service = none → s.dev.anyEntry Work.isCommit = false →
        s.dev.anyEntry Work.isParam = false → s.dev.bkd.monitor.state = .dip →
        exec (.paramStore payload) s = .next { s with dev := { s.dev with
          engine := { s.dev.engine with
            queue := s.dev.engine.queue ++ [⟨s.dev.engine.nextAge, .param false⟩], nextAge := s.dev.engine.nextAge + 1 }
          link := { s.dev.link with
            receiver := .hunting, gapMs := 0, deferred := s.dev.link.deferred ++ [⟨.paramStore, none, false, 0⟩] } } }))

/-- PARAM_READ answers with the word in force and changes nothing (R174). PARAM_WRITE is refused with STATE unless both
pockets are VACANT; taken, the word clamped to the range of Table 11-8, signed where the unit is °C, is in force at once
and in the reply; after a table code each later code that does not lie above the one before it becomes that one plus 1
(R76); CLAMPED where a word in force is not what was asked for. Index 20 also sets both strict copies (R53). A dip gap
no longer than the absence time acts at once: PRESENT goes to DIP, QUALIFYING to ABSENT (R5). -/
def Obligations.ParamReadWrite : Prop :=
  ∀ (s : State) (payload : List Byte) (i : Fin 40), (payload.getD 0 0).toNat = i.val →
    (Admitted .paramRead payload s.dev →
      exec (.paramRead payload) s = .next { s with
        dev := s.dev.replied 0x8C ([0, payload.getD 0 0] ++ leBytes 2 s.dev.link.params[i].toNat) }) ∧
    (Admitted .paramWrite payload s.dev →
      ((s.dev.psq.get .a).state ≠ .vacant ∨ (s.dev.psq.get .b).state ≠ .vacant →
        exec (.paramWrite payload) s = .next { s with dev := s.dev.replied 0x8D [2] }) ∧
      ((s.dev.psq.get .a).state = .vacant → (s.dev.psq.get .b).state = .vacant →
        ∃ (d' : Dev) (pr : Params), exec (.paramWrite payload) s = .next { s with dev := d' } ∧
          (∀ lo hi : Nat,
            (i.val, lo, hi) ∈ [(0, 0, 65535), (1, 0, 1023), (2, 0, 14400), (3, 1, 255), (5, 0, 3600), (8, 2, 60),
                (9, 7, 600), (10, 1, 255), (11, 0, 1), (20, 0, 3), (21, 10, 60)] ∨
              12 ≤ i.val ∧ i.val ≤ 19 ∧ lo = 0 ∧ hi = 65535 →
            pr = s.dev.link.params.set i (BitVec.ofNat 16 (max lo (min hi (fieldValue payload 1 2))))) ∧
          (∀ lo hi : Int,
            (i.val = 4 ∨ 23 ≤ i.val ∧ i.val % 2 = 1) ∧ lo = -20 ∧ hi = 150 ∨ i.val = 6 ∧ lo = 60 ∧ hi = 150 ∨
              i.val = 7 ∧ lo = 1 ∧ hi = 20 →
            pr = s.dev.link.params.set i
              (BitVec.ofInt 16 (max lo (min hi (BitVec.ofNat 16 (fieldValue payload 1 2)).toInt)))) ∧
          (∀ (k : Fin 9) (q : Params), i.val = 22 + 2 * k.val →
            q = s.dev.link.params.set i (BitVec.ofNat 16 (max k.val (min (4087 + k.val) (fieldValue payload 1 2)))) →
            pr.code 0 = q.code 0 ∧
            (∀ j : Fin 9, 0 < j.val → pr.code j =
              if q.code j ≤ pr.code (prevBreakpoint j) then (pr.code (prevBreakpoint j) + 1) % 65536 else q.code j) ∧
            ∀ x : Fin 40, ¬(24 ≤ x.val ∧ x.val % 2 = 0) → pr[x] = q[x]) ∧
          d'.link = { s.dev.link with
            receiver := .hunting, gapMs := 0, params := pr
            transmit := s.dev.link.transmit ++ [⟨0x8D,
              [if pr = s.dev.link.params.set i (BitVec.ofNat 16 (fieldValue payload 1 2)) then 0 else 1, payload.getD 0 0] ++
                leBytes 2 pr[i].toNat⟩] } ∧
          (i.val ≠ 20 → d'.psq = s.dev.psq) ∧
          (i.val = 20 → ∀ p, d'.psq.get p =
            { s.dev.psq.get p with strict := pr[(20 : Fin 40)].getLsbD (pocketIndex p) }) ∧
          (i.val ≠ 21 ∨ s.dev.link.loaded = true ∧ s.dev.bkd.monitor.absence < pr[(21 : Fin 40)].toNat →
            d'.bkd = s.dev.bkd ∧ d'.tmb = s.dev.tmb ∧ d'.settle = s.dev.settle) ∧
          (i.val = 21 → s.dev.link.loaded = true → pr[(21 : Fin 40)].toNat ≤ s.dev.bkd.monitor.absence →
            d'.bkd.monitor.state =
              (match s.dev.bkd.monitor.state with
                | .present => .dip
                | .dip => .dip
                | .absent => .absent
                | .qualifying => .absent) ∧
            d'.bkd.facts = s.dev.bkd.facts ∧ d'.bkd.confidence = s.dev.bkd.confidence) ∧
          d' = { s.dev with
            psq := d'.psq, bkd := d'.bkd, tmb := d'.tmb, settle := d'.settle, link := d'.link }))

/-! ### The planner -/

/-- The decision of R122 to R127, over every basis and input: the outcome and reason are a pair of Table 7-3; each gate
holds exactly on its condition, in their order; past the gates each reason of steps 6 to 8 comes exactly on its own, EXPIRED
and GUARD NORMAL by the bursts used up in the stall, LONG_STALL and OUTAGE_LIMIT by their limits, COLD_LOAD by T_CD; the
inputs and the basis figures are recorded (R130). The cases of a period of 0 and of an absent T_now past the gates, which no
run meets, are left open (log entries 6 and 7). -/
def Obligations.PlanDecision : Prop :=
  ∀ (pr : Params) (q : Sequencer) (f : Facts) (tNow : Option Int) (r : Record) (pl : Plan) (nEff : Nat),
    pl = decidePlan pr q f tNow r → nEff = min 255 (r.body.outages + f.losses) →
    (pl.outcome, pl.reason) ∈ [(ResumeOutcome.hold, PlanReason.noBackup), (.hold, .mismatch), (.hold, .blocked),
      (.hold, .strict), (.close, .door), (.close, .expired), (.guard, .normal), (.cool, .normal), (.guard, .coldLoad),
      (.cool, .outageLimit), (.hold, .longStall), (.reheat, .normal)] ∧
    (q.startKind = .cold ↔ pl.reason = .noBackup) ∧
    (q.startKind = .warm ∧ f.suspended = false ↔ pl.reason = .mismatch) ∧
    (q.startKind = .warm ∧ f.suspended = true ∧ q.blocking ≠ .empty ↔ pl.reason = .blocked) ∧
    (q.startKind = .warm ∧ f.suspended = true ∧ q.blocking = .empty ∧ q.strict = true ∧ q.advisory ≠ .empty ↔
      pl.reason = .strict) ∧
    (q.startKind = .warm ∧ f.suspended = true ∧ q.blocking = .empty ∧ (q.strict = false ∨ q.advisory = .empty) ∧
      f.latch = true ↔ pl.reason = .door) ∧
    (∀ past : Prop, (past ↔ q.startKind = .warm ∧ f.suspended = true ∧ q.blocking = .empty ∧
        (q.strict = false ∨ q.advisory = .empty) ∧ f.latch = false) →
      (pl.reason = .expired → past ∧ r.body.phase = .anticrease) ∧
      (0 < r.body.guard.period →
        (pl.reason = .expired ↔ past ∧ r.body.phase = .anticrease ∧
          r.body.burstsLeft ≤ f.stall / r.body.guard.period) ∧
        (pl.outcome = .guard ∧ pl.reason = .normal ↔ past ∧ r.body.phase = .anticrease ∧
          f.stall / r.body.guard.period < r.body.burstsLeft)) ∧
      (pl.reason = .longStall ↔ past ∧ r.body.phase = .drying ∧ nEff < Params.nMax pr ∧ Params.sMaxHeat pr < f.stall) ∧
      (pl.outcome = .reheat ↔ past ∧ r.body.phase = .drying ∧ nEff < Params.nMax pr ∧ f.stall ≤ Params.sMaxHeat pr) ∧
      (pl.reason = .outageLimit → past ∧ r.body.phase = .drying ∧ Params.nMax pr ≤ nEff) ∧
      (∀ t, tNow = some t →
        (pl.reason = .outageLimit ↔
          past ∧ r.body.phase = .drying ∧ Params.nMax pr ≤ nEff ∧ Params.tCd pr < t) ∧
        (pl.outcome = .cool ∧ pl.reason = .normal ↔ past ∧ r.body.phase = .cooling ∧ Params.tCd pr < t) ∧
        (pl.reason = .coldLoad ↔ past ∧
          (r.body.phase = .cooling ∨ r.body.phase = .drying ∧ Params.nMax pr ≤ nEff) ∧ t ≤ Params.tCd pr))) ∧
    pl.basisSeq = r.seq ∧ pl.basisPhase = r.body.phase ∧ pl.stall = f.stall ∧ pl.latch = f.latch ∧
    pl.outages = nEff ∧ pl.tNow = tNow ∧ pl.tLast = r.body.exhaustLast ∧
    pl.guard = r.body.guard ∧ (pl.stale = true ↔ f.suspended = true ∧ r.kind ≠ some .suspend) ∧
    (pl.outcome = .hold ∨ pl.outcome = .close →
      pl.heat = r.body.heat ∧ pl.cool = r.body.cool ∧ pl.bursts = r.body.burstsLeft) ∧
    (pl.outcome = .cool → pl.heat = r.body.heat ∧ pl.bursts = r.body.burstsLeft ∧
      ∀ t, tNow = some t → coolComputation pr r.body.cool r.body.exhaustLast t = .cool pl.cool) ∧
    (pl.outcome = .guard → pl.heat = r.body.heat ∧ pl.cool = r.body.cool ∧
      (r.body.phase = .anticrease → 0 < r.body.guard.period → 1 ≤ pl.bursts ∧
        pl.bursts = r.body.burstsLeft - f.stall / r.body.guard.period) ∧
      (r.body.phase ≠ .anticrease → pl.bursts = r.body.guard.bursts))

/-- The reheat computation (R128), in a plan with outcome REHEAT: H′ = min(14400, H + E), where E is the least whole
number of sixteenths that covers ΔT × K_REHEAT, no more than E_MAX, and 0 where K_REHEAT or E_MAX is 0; C′, B′ and the
guard program are the basis values, and H′ lies between H and min(14400, H + E_MAX). -/
def Obligations.ReheatComputation : Prop :=
  ∀ (pr : Params) (q : Sequencer) (f : Facts) (tNow : Int) (r : Record) (pl : Plan),
    pl = decidePlan pr q f (some tNow) r → pl.outcome = .reheat →
    ∃ dT e : Nat, (dT : Int) = max 0 (r.body.exhaustLast - tNow) ∧
      e ≤ Params.eMax pr ∧
      (e < Params.eMax pr → dT * Params.kReheat pr ≤ 16 * e ∧ 16 * e < dT * Params.kReheat pr + 16) ∧
      (e = Params.eMax pr → 16 * e < dT * Params.kReheat pr + 16) ∧
      (Params.kReheat pr = 0 ∨ Params.eMax pr = 0 ∨ r.body.exhaustLast ≤ tNow → e = 0) ∧
      (-20 ≤ tNow → r.body.exhaustLast ≤ 150 → Params.kReheat pr ≤ 1023 → dT * Params.kReheat pr ≤ 173910) ∧
      pl.heat = min 14400 (r.body.heat + e) ∧
      pl.cool = r.body.cool ∧ pl.bursts = r.body.burstsLeft ∧ pl.guard = r.body.guard ∧
      (r.body.heat ≤ 14400 → r.body.heat ≤ pl.heat) ∧
      pl.heat ≤ min 14400 (r.body.heat + Params.eMax pr)

/-- The cool computation (R129): GUARD exactly at or below T_CD, with a full course of the basis program; otherwise COOL,
with max(C_MIN, C) where the basis gives no usable slope, and else with the least whole number of seconds that covers
C × (T_now − T_CD) / (T_last − T_CD), kept between C_MIN and max(C_MIN, C); the scaled figure never exceeds C. -/
def Obligations.CoolComputation : Prop :=
  ∀ (pr : Params) (cool : Nat) (tLast tNow : Int),
    (coolComputation pr cool tLast tNow = .guard ↔ tNow ≤ Params.tCd pr) ∧
    (∀ (r : Record) (f : Facts) (why : PlanReason) (pl : Plan), pl = coolPlan pr r f (some tNow) why →
      tNow ≤ Params.tCd pr →
      pl.outcome = .guard ∧ pl.guard = r.body.guard ∧ pl.bursts = r.body.guard.bursts) ∧
    ∀ c, coolComputation pr cool tLast tNow = .cool c →
      Params.cMin pr ≤ c ∧ c ≤ max (Params.cMin pr) cool ∧ (Params.cMin pr ≤ 3600 → cool ≤ 3600 → c ≤ 3600) ∧
      (tLast ≤ Params.tCd pr ∨ tLast ≤ tNow → c = max (Params.cMin pr) cool) ∧
      (Params.tCd pr < tLast → tNow < tLast →
        0 < tNow - Params.tCd pr ∧ 0 < tLast - Params.tCd pr ∧
        ∃ n : Nat, n ≤ cool ∧ (cool : Int) * (tNow - Params.tCd pr) ≤ n * (tLast - Params.tCd pr) ∧
          (n : Int) * (tLast - Params.tCd pr) < cool * (tNow - Params.tCd pr) + (tLast - Params.tCd pr) ∧
          c = max (Params.cMin pr) n)

/-! ### Conversion and records -/

/-- The conversion of a mean code (R75, R76), over a table whose codes rise and whose temperatures lie in −20 to 150: at
a breakpoint it gives that breakpoint's temperature, whichever segment is taken; within a segment it lies between the
two temperatures, and the rounding is within half a degree of the line. -/
def Obligations.ConversionTable : Prop :=
  ∀ pr : Params, pr.legal →
    (∀ k : Fin 9, pr.convert (pr.code k) = pr.temp k) ∧
    ∀ (k : Fin 9) (code : Nat), 0 < k.val → pr.code (prevBreakpoint k) ≤ code → code ≤ pr.code k →
      min (pr.temp (prevBreakpoint k)) (pr.temp k) ≤ pr.convert code ∧
      pr.convert code ≤ max (pr.temp (prevBreakpoint k)) (pr.temp k) ∧
      ∀ line gap : Int, line = ((code : Int) - pr.code (prevBreakpoint k)) * (pr.temp k - pr.temp (prevBreakpoint k)) →
        gap = (pr.code k : Int) - pr.code (prevBreakpoint k) →
        2 * (gap * (pr.convert code - pr.temp (prevBreakpoint k)) - line) ≤ gap ∧
        2 * (line - gap * (pr.convert code - pr.temp (prevBreakpoint k))) ≤ gap

/-- A record reads back as it was written (R80, R106, Table 11-7): a page that holds a whole record, written for a pocket
with a sequence number, is VALID for that pocket with every field as written, FOREIGN for the other, TORN when only a
part of the record was reached, and BLANK when none was. The plan block of a RESUME record and the close reason of a CLOSE
record read back at their offsets. -/
def Obligations.RecordRoundTrip : Prop :=
  ∀ (p : Pocket) (snap : Snapshot) (seq : Word), 1 ≤ snap.cycle → snap.cycle ≤ 65535 →
    (snap.kind = .resume → snap.resume ≠ none) → (snap.kind = .close → snap.closeReason ≠ none) →
    snap.body.program ≤ 255 → snap.body.heat ≤ 65535 → snap.body.cool ≤ 65535 → snap.body.stage ≤ 255 →
    snap.body.moisture ≤ 255 → snap.body.energy ≤ 65535 → snap.body.runTime ≤ 65535 →
    -32768 ≤ snap.body.exhaustLast → snap.body.exhaustLast ≤ 32767 →
    -32768 ≤ snap.body.exhaustPeak → snap.body.exhaustPeak ≤ 32767 → snap.body.outages ≤ 255 →
    snap.body.guard.on ≤ 255 → snap.body.guard.period ≤ 65535 → snap.body.guard.bursts ≤ 255 →
    snap.body.guard.reverse ≤ 255 → snap.body.burstsLeft ≤ 255 →
    ∀ r, r = snap.record p seq →
    classify p (pageOf r.written) = .good (.valid r) ∧
    classify p.other (pageOf r.written) = .good .foreign ∧
    (∀ n, 0 < n → n < r.written.length → ∀ q, classify q (pageOf (r.written.take n)) = .good .torn) ∧
    (∀ q, classify q (pageOf []) = .good .blank) ∧
    r.pocket = pocketIndex p ∧ r.kind = some snap.kind ∧ r.cycle = snap.cycle ∧ r.seq = seq ∧ r.body = snap.body ∧
    (∀ x, snap.kind = .resume → snap.resume = some x → x.stall ≤ 16777215 →
      fieldValue r.bytes 29 1 = x.outcome.code ∧ fieldValue r.bytes 30 1 = x.reason.code ∧
      BitVec.ofNat 16 (fieldValue r.bytes 31 2) = x.basisSeq ∧ fieldValue r.bytes 33 3 = x.stall ∧
      (x.temperature = none → fieldValue r.bytes 36 2 = 0x8000) ∧
      ∀ t, x.temperature = some t → -32768 ≤ t → t ≤ 32767 → fieldInt r.bytes 36 = t) ∧
    ∀ c, snap.kind = .close → snap.closeReason = some c → fieldValue r.bytes 29 1 = c.code

/-! ### Laws of every step -/

/-- Every step keeps the retention array in its canonical form, whatever state it starts from; and only a collapse and
the end of an operation change it. -/
def Obligations.ArrayKeepsItsForm : Prop :=
  (∀ s t : State, s.array.wf = true → step s = .next t → t.array.wf = true) ∧
  ∀ (c : Instr) (s t : State), (∀ reached kept, c ≠ .backupCollapse reached kept) → (∀ x, c ≠ .writeVerifyDone x) →
    (∀ x, c ≠ .eraseDone x) → (∀ x, c ≠ .paramOperationDone x) → exec c s = .next t →
    t.array = s.array ∧ t.pending = s.pending

/-- Every step keeps each law of Sys2Proof/Safety.lean, whatever state it starts from: the pending counts (R62), the room
of the link (R164), the ranges of the backup items (R1, R7, Table 2-2), the stall law (R26), the darkness of BACKUP
(R17; that a dark item holds its start value is the model's choice, log entry 4), the capacity of the queue (Table 5-2) and
the legality of the parameter words (R76, R174, R175). -/
def Obligations.LawsKept : Prop :=
  ∀ s t : State, step s = .next t →
    (s.dev.pendingBounded → t.dev.pendingBounded) ∧ (s.dev.linkRoom → t.dev.linkRoom) ∧
    (s.dev.backupRanges → t.dev.backupRanges) ∧ (s.dev.stallLaw → t.dev.stallLaw) ∧
    (s.dev.darkIsLost → t.dev.darkIsLost) ∧ (s.dev.eraseCapacity → t.dev.eraseCapacity) ∧
    (Params.legal s.dev.link.params → Params.legal t.dev.link.params)

/-- A pocket becomes DRYING only by an accepted START of a VACANT pocket, by a grant to the head of the queue with mains
PRESENT, the reserve ready and the stagger length passed (R32, R33, R46, R143), or as bytes on RXD complete a frame, whose
request is then dispatched (R163; log entry 2); so a heater permit that rises in a pocket that was not DRYING rises by one of
these. HEAT_PERMIT_x is high exactly while the six conditions of R50 hold, is driven low otherwise, and is released in
BACKUP (R179). -/
def Obligations.DryingBeginsByStartOrGrant : Prop :=
  (∀ (c : Instr) (s t : State) (p : Pocket), exec c s = .next t → (s.dev.psq.get p).state ≠ .drying →
    ((t.dev.psq.get p).state = .drying →
      (∃ payload, c = .start payload ∧ pocketOf payload = some p ∧ (s.dev.psq.get p).state = .vacant ∧
        (s.dev.psq.get p).mark = none ∧ (s.dev.psq.get p).blocking = .empty ∧ s.dev.run = .run) ∨
      (c = .heaterGrant ∧ s.dev.arbiter.queue.head? = some p ∧ s.dev.run = .run ∧ s.dev.link.resetHold = false ∧
        s.dev.bkd.monitor.state = .present ∧ s.dev.reserve.ready = true ∧
        s.dev.staggerLength ≤ s.dev.arbiter.stagger) ∨
      (∃ bytes bad, c = .frameDiscard bytes bad ∧ s.dev.link.receiver.run bad bytes = none ∧ s.dev.run = .run ∧
        s.dev.link.resetHold = false)) ∧
    (t.dev.heatPermit p = true → c = .heaterGrant ∨ (∃ payload, c = .start payload) ∨
      ∃ bytes bad, c = .frameDiscard bytes bad ∧ s.dev.link.receiver.run bad bytes = none)) ∧
  ∀ (d : Dev) (p : Pocket),
    (d.heatPermitPin p = .high ↔ d.run = .run ∧ (d.psq.get p).state = .drying ∧ (d.psq.get p).mark = none ∧
      d.bkd.monitor.state = .present ∧ d.settle.flag = false ∧ d.reserve.ready = true ∧
      (d.psq.get p).blocking = ⟨false, false, false, false⟩ ∧ d.link.resetHold = false) ∧
    (d.run ≠ .backup → d.heatPermitPin p ≠ .high → d.heatPermitPin p = .low) ∧
    (d.run = .backup → d.heatPermitPin p = .released)
end

