-- ==== Sys2Proof/Laws/State.lean ====
section
/-! SUPPORT. What each named update of the part does to each field, and the items of a pair of pockets. -/

namespace Sys2Proof

variable {α : Type}

/-! ### Pairs of items -/

@[simp] theorem Per.get_a (x : Per α) : x.get .a = x.a := rfl
@[simp] theorem Per.get_b (x : Per α) : x.get .b = x.b := rfl
@[simp] theorem Per.both_get (v : α) (p : Pocket) : (Per.both v).get p = v := by cases p <;> rfl

@[simp] theorem Per.set_get_self (x : Per α) (p : Pocket) (v : α) : (x.set p v).get p = v := by cases p <;> rfl

theorem Per.set_get_of_ne (x : Per α) {p q : Pocket} (v : α) (h : q ≠ p) : (x.set p v).get q = x.get q := by
  cases p <;> cases q <;> first | rfl | exact absurd rfl h

@[simp] theorem Per.set_a_a (x : Per α) (v : α) : (x.set .a v).a = v := rfl
@[simp] theorem Per.set_a_b (x : Per α) (v : α) : (x.set .a v).b = x.b := rfl
@[simp] theorem Per.set_b_a (x : Per α) (v : α) : (x.set .b v).a = x.a := rfl
@[simp] theorem Per.set_b_b (x : Per α) (v : α) : (x.set .b v).b = v := rfl

@[simp] theorem Per.set_get_same (x : Per α) (p : Pocket) : x.set p (x.get p) = x := by cases p <;> rfl

theorem Pocket.other_ne (p : Pocket) : p.other ≠ p := by cases p <;> decide

theorem Per.ext_get {x y : Per α} (h : ∀ p, x.get p = y.get p) : x = y := by
  cases x; cases y
  exact congr (congrArg Per.mk (h .a)) (h .b)

namespace Machine

/-! ### Dev.setPins -/

@[simp] theorem Dev.setPins_pins (v : Pins) (d : Dev) : (d.setPins v).pins = v := rfl
@[simp] theorem Dev.setPins_bkd (v : Pins) (d : Dev) : (d.setPins v).bkd = d.bkd := rfl
@[simp] theorem Dev.setPins_run (v : Pins) (d : Dev) : (d.setPins v).run = d.run := rfl
@[simp] theorem Dev.setPins_settle (v : Pins) (d : Dev) : (d.setPins v).settle = d.settle := rfl
@[simp] theorem Dev.setPins_reserve (v : Pins) (d : Dev) : (d.setPins v).reserve = d.reserve := rfl
@[simp] theorem Dev.setPins_adc (v : Pins) (d : Dev) : (d.setPins v).adc = d.adc := rfl
@[simp] theorem Dev.setPins_faults (v : Pins) (d : Dev) : (d.setPins v).faults = d.faults := rfl
@[simp] theorem Dev.setPins_sns (v : Pins) (d : Dev) : (d.setPins v).sns = d.sns := rfl
@[simp] theorem Dev.setPins_psq (v : Pins) (d : Dev) : (d.setPins v).psq = d.psq := rfl
@[simp] theorem Dev.setPins_image (v : Pins) (d : Dev) : (d.setPins v).image = d.image := rfl
@[simp] theorem Dev.setPins_engine (v : Pins) (d : Dev) : (d.setPins v).engine = d.engine := rfl
@[simp] theorem Dev.setPins_ring (v : Pins) (d : Dev) : (d.setPins v).ring = d.ring := rfl
@[simp] theorem Dev.setPins_scan (v : Pins) (d : Dev) : (d.setPins v).scan = d.scan := rfl
@[simp] theorem Dev.setPins_journal (v : Pins) (d : Dev) : (d.setPins v).journal = d.journal := rfl
@[simp] theorem Dev.setPins_plan (v : Pins) (d : Dev) : (d.setPins v).plan = d.plan := rfl
@[simp] theorem Dev.setPins_arbiter (v : Pins) (d : Dev) : (d.setPins v).arbiter = d.arbiter := rfl
@[simp] theorem Dev.setPins_tmb (v : Pins) (d : Dev) : (d.setPins v).tmb = d.tmb := rfl
@[simp] theorem Dev.setPins_link (v : Pins) (d : Dev) : (d.setPins v).link = d.link := rfl
@[simp] theorem Dev.setPins_freeCount (v : Pins) (d : Dev) : (d.setPins v).freeCount = d.freeCount := rfl

/-! ### Dev.setBkd -/

@[simp] theorem Dev.setBkd_pins (v : Backup) (d : Dev) : (d.setBkd v).pins = d.pins := rfl
@[simp] theorem Dev.setBkd_bkd (v : Backup) (d : Dev) : (d.setBkd v).bkd = v := rfl
@[simp] theorem Dev.setBkd_run (v : Backup) (d : Dev) : (d.setBkd v).run = d.run := rfl
@[simp] theorem Dev.setBkd_settle (v : Backup) (d : Dev) : (d.setBkd v).settle = d.settle := rfl
@[simp] theorem Dev.setBkd_reserve (v : Backup) (d : Dev) : (d.setBkd v).reserve = d.reserve := rfl
@[simp] theorem Dev.setBkd_adc (v : Backup) (d : Dev) : (d.setBkd v).adc = d.adc := rfl
@[simp] theorem Dev.setBkd_faults (v : Backup) (d : Dev) : (d.setBkd v).faults = d.faults := rfl
@[simp] theorem Dev.setBkd_sns (v : Backup) (d : Dev) : (d.setBkd v).sns = d.sns := rfl
@[simp] theorem Dev.setBkd_psq (v : Backup) (d : Dev) : (d.setBkd v).psq = d.psq := rfl
@[simp] theorem Dev.setBkd_image (v : Backup) (d : Dev) : (d.setBkd v).image = d.image := rfl
@[simp] theorem Dev.setBkd_engine (v : Backup) (d : Dev) : (d.setBkd v).engine = d.engine := rfl
@[simp] theorem Dev.setBkd_ring (v : Backup) (d : Dev) : (d.setBkd v).ring = d.ring := rfl
@[simp] theorem Dev.setBkd_scan (v : Backup) (d : Dev) : (d.setBkd v).scan = d.scan := rfl
@[simp] theorem Dev.setBkd_journal (v : Backup) (d : Dev) : (d.setBkd v).journal = d.journal := rfl
@[simp] theorem Dev.setBkd_plan (v : Backup) (d : Dev) : (d.setBkd v).plan = d.plan := rfl
@[simp] theorem Dev.setBkd_arbiter (v : Backup) (d : Dev) : (d.setBkd v).arbiter = d.arbiter := rfl
@[simp] theorem Dev.setBkd_tmb (v : Backup) (d : Dev) : (d.setBkd v).tmb = d.tmb := rfl
@[simp] theorem Dev.setBkd_link (v : Backup) (d : Dev) : (d.setBkd v).link = d.link := rfl
@[simp] theorem Dev.setBkd_freeCount (v : Backup) (d : Dev) : (d.setBkd v).freeCount = d.freeCount := rfl

/-! ### Dev.setRun -/

@[simp] theorem Dev.setRun_pins (v : RunState) (d : Dev) : (d.setRun v).pins = d.pins := rfl
@[simp] theorem Dev.setRun_bkd (v : RunState) (d : Dev) : (d.setRun v).bkd = d.bkd := rfl
@[simp] theorem Dev.setRun_run (v : RunState) (d : Dev) : (d.setRun v).run = v := rfl
@[simp] theorem Dev.setRun_settle (v : RunState) (d : Dev) : (d.setRun v).settle = d.settle := rfl
@[simp] theorem Dev.setRun_reserve (v : RunState) (d : Dev) : (d.setRun v).reserve = d.reserve := rfl
@[simp] theorem Dev.setRun_adc (v : RunState) (d : Dev) : (d.setRun v).adc = d.adc := rfl
@[simp] theorem Dev.setRun_faults (v : RunState) (d : Dev) : (d.setRun v).faults = d.faults := rfl
@[simp] theorem Dev.setRun_sns (v : RunState) (d : Dev) : (d.setRun v).sns = d.sns := rfl
@[simp] theorem Dev.setRun_psq (v : RunState) (d : Dev) : (d.setRun v).psq = d.psq := rfl
@[simp] theorem Dev.setRun_image (v : RunState) (d : Dev) : (d.setRun v).image = d.image := rfl
@[simp] theorem Dev.setRun_engine (v : RunState) (d : Dev) : (d.setRun v).engine = d.engine := rfl
@[simp] theorem Dev.setRun_ring (v : RunState) (d : Dev) : (d.setRun v).ring = d.ring := rfl
@[simp] theorem Dev.setRun_scan (v : RunState) (d : Dev) : (d.setRun v).scan = d.scan := rfl
@[simp] theorem Dev.setRun_journal (v : RunState) (d : Dev) : (d.setRun v).journal = d.journal := rfl
@[simp] theorem Dev.setRun_plan (v : RunState) (d : Dev) : (d.setRun v).plan = d.plan := rfl
@[simp] theorem Dev.setRun_arbiter (v : RunState) (d : Dev) : (d.setRun v).arbiter = d.arbiter := rfl
@[simp] theorem Dev.setRun_tmb (v : RunState) (d : Dev) : (d.setRun v).tmb = d.tmb := rfl
@[simp] theorem Dev.setRun_link (v : RunState) (d : Dev) : (d.setRun v).link = d.link := rfl
@[simp] theorem Dev.setRun_freeCount (v : RunState) (d : Dev) : (d.setRun v).freeCount = d.freeCount := rfl

/-! ### Dev.setSettle -/

@[simp] theorem Dev.setSettle_pins (v : Settle) (d : Dev) : (d.setSettle v).pins = d.pins := rfl
@[simp] theorem Dev.setSettle_bkd (v : Settle) (d : Dev) : (d.setSettle v).bkd = d.bkd := rfl
@[simp] theorem Dev.setSettle_run (v : Settle) (d : Dev) : (d.setSettle v).run = d.run := rfl
@[simp] theorem Dev.setSettle_settle (v : Settle) (d : Dev) : (d.setSettle v).settle = v := rfl
@[simp] theorem Dev.setSettle_reserve (v : Settle) (d : Dev) : (d.setSettle v).reserve = d.reserve := rfl
@[simp] theorem Dev.setSettle_adc (v : Settle) (d : Dev) : (d.setSettle v).adc = d.adc := rfl
@[simp] theorem Dev.setSettle_faults (v : Settle) (d : Dev) : (d.setSettle v).faults = d.faults := rfl
@[simp] theorem Dev.setSettle_sns (v : Settle) (d : Dev) : (d.setSettle v).sns = d.sns := rfl
@[simp] theorem Dev.setSettle_psq (v : Settle) (d : Dev) : (d.setSettle v).psq = d.psq := rfl
@[simp] theorem Dev.setSettle_image (v : Settle) (d : Dev) : (d.setSettle v).image = d.image := rfl
@[simp] theorem Dev.setSettle_engine (v : Settle) (d : Dev) : (d.setSettle v).engine = d.engine := rfl
@[simp] theorem Dev.setSettle_ring (v : Settle) (d : Dev) : (d.setSettle v).ring = d.ring := rfl
@[simp] theorem Dev.setSettle_scan (v : Settle) (d : Dev) : (d.setSettle v).scan = d.scan := rfl
@[simp] theorem Dev.setSettle_journal (v : Settle) (d : Dev) : (d.setSettle v).journal = d.journal := rfl
@[simp] theorem Dev.setSettle_plan (v : Settle) (d : Dev) : (d.setSettle v).plan = d.plan := rfl
@[simp] theorem Dev.setSettle_arbiter (v : Settle) (d : Dev) : (d.setSettle v).arbiter = d.arbiter := rfl
@[simp] theorem Dev.setSettle_tmb (v : Settle) (d : Dev) : (d.setSettle v).tmb = d.tmb := rfl
@[simp] theorem Dev.setSettle_link (v : Settle) (d : Dev) : (d.setSettle v).link = d.link := rfl
@[simp] theorem Dev.setSettle_freeCount (v : Settle) (d : Dev) : (d.setSettle v).freeCount = d.freeCount := rfl

/-! ### Dev.setReserve -/

@[simp] theorem Dev.setReserve_pins (v : Reserve) (d : Dev) : (d.setReserve v).pins = d.pins := rfl
@[simp] theorem Dev.setReserve_bkd (v : Reserve) (d : Dev) : (d.setReserve v).bkd = d.bkd := rfl
@[simp] theorem Dev.setReserve_run (v : Reserve) (d : Dev) : (d.setReserve v).run = d.run := rfl
@[simp] theorem Dev.setReserve_settle (v : Reserve) (d : Dev) : (d.setReserve v).settle = d.settle := rfl
@[simp] theorem Dev.setReserve_reserve (v : Reserve) (d : Dev) : (d.setReserve v).reserve = v := rfl
@[simp] theorem Dev.setReserve_adc (v : Reserve) (d : Dev) : (d.setReserve v).adc = d.adc := rfl
@[simp] theorem Dev.setReserve_faults (v : Reserve) (d : Dev) : (d.setReserve v).faults = d.faults := rfl
@[simp] theorem Dev.setReserve_sns (v : Reserve) (d : Dev) : (d.setReserve v).sns = d.sns := rfl
@[simp] theorem Dev.setReserve_psq (v : Reserve) (d : Dev) : (d.setReserve v).psq = d.psq := rfl
@[simp] theorem Dev.setReserve_image (v : Reserve) (d : Dev) : (d.setReserve v).image = d.image := rfl
@[simp] theorem Dev.setReserve_engine (v : Reserve) (d : Dev) : (d.setReserve v).engine = d.engine := rfl
@[simp] theorem Dev.setReserve_ring (v : Reserve) (d : Dev) : (d.setReserve v).ring = d.ring := rfl
@[simp] theorem Dev.setReserve_scan (v : Reserve) (d : Dev) : (d.setReserve v).scan = d.scan := rfl
@[simp] theorem Dev.setReserve_journal (v : Reserve) (d : Dev) : (d.setReserve v).journal = d.journal := rfl
@[simp] theorem Dev.setReserve_plan (v : Reserve) (d : Dev) : (d.setReserve v).plan = d.plan := rfl
@[simp] theorem Dev.setReserve_arbiter (v : Reserve) (d : Dev) : (d.setReserve v).arbiter = d.arbiter := rfl
@[simp] theorem Dev.setReserve_tmb (v : Reserve) (d : Dev) : (d.setReserve v).tmb = d.tmb := rfl
@[simp] theorem Dev.setReserve_link (v : Reserve) (d : Dev) : (d.setReserve v).link = d.link := rfl
@[simp] theorem Dev.setReserve_freeCount (v : Reserve) (d : Dev) : (d.setReserve v).freeCount = d.freeCount := rfl

/-! ### Dev.setAdc -/

@[simp] theorem Dev.setAdc_pins (v : Adc) (d : Dev) : (d.setAdc v).pins = d.pins := rfl
@[simp] theorem Dev.setAdc_bkd (v : Adc) (d : Dev) : (d.setAdc v).bkd = d.bkd := rfl
@[simp] theorem Dev.setAdc_run (v : Adc) (d : Dev) : (d.setAdc v).run = d.run := rfl
@[simp] theorem Dev.setAdc_settle (v : Adc) (d : Dev) : (d.setAdc v).settle = d.settle := rfl
@[simp] theorem Dev.setAdc_reserve (v : Adc) (d : Dev) : (d.setAdc v).reserve = d.reserve := rfl
@[simp] theorem Dev.setAdc_adc (v : Adc) (d : Dev) : (d.setAdc v).adc = v := rfl
@[simp] theorem Dev.setAdc_faults (v : Adc) (d : Dev) : (d.setAdc v).faults = d.faults := rfl
@[simp] theorem Dev.setAdc_sns (v : Adc) (d : Dev) : (d.setAdc v).sns = d.sns := rfl
@[simp] theorem Dev.setAdc_psq (v : Adc) (d : Dev) : (d.setAdc v).psq = d.psq := rfl
@[simp] theorem Dev.setAdc_image (v : Adc) (d : Dev) : (d.setAdc v).image = d.image := rfl
@[simp] theorem Dev.setAdc_engine (v : Adc) (d : Dev) : (d.setAdc v).engine = d.engine := rfl
@[simp] theorem Dev.setAdc_ring (v : Adc) (d : Dev) : (d.setAdc v).ring = d.ring := rfl
@[simp] theorem Dev.setAdc_scan (v : Adc) (d : Dev) : (d.setAdc v).scan = d.scan := rfl
@[simp] theorem Dev.setAdc_journal (v : Adc) (d : Dev) : (d.setAdc v).journal = d.journal := rfl
@[simp] theorem Dev.setAdc_plan (v : Adc) (d : Dev) : (d.setAdc v).plan = d.plan := rfl
@[simp] theorem Dev.setAdc_arbiter (v : Adc) (d : Dev) : (d.setAdc v).arbiter = d.arbiter := rfl
@[simp] theorem Dev.setAdc_tmb (v : Adc) (d : Dev) : (d.setAdc v).tmb = d.tmb := rfl
@[simp] theorem Dev.setAdc_link (v : Adc) (d : Dev) : (d.setAdc v).link = d.link := rfl
@[simp] theorem Dev.setAdc_freeCount (v : Adc) (d : Dev) : (d.setAdc v).freeCount = d.freeCount := rfl

/-! ### Dev.setFaults -/

@[simp] theorem Dev.setFaults_pins (v : DeviceFaults) (d : Dev) : (d.setFaults v).pins = d.pins := rfl
@[simp] theorem Dev.setFaults_bkd (v : DeviceFaults) (d : Dev) : (d.setFaults v).bkd = d.bkd := rfl
@[simp] theorem Dev.setFaults_run (v : DeviceFaults) (d : Dev) : (d.setFaults v).run = d.run := rfl
@[simp] theorem Dev.setFaults_settle (v : DeviceFaults) (d : Dev) : (d.setFaults v).settle = d.settle := rfl
@[simp] theorem Dev.setFaults_reserve (v : DeviceFaults) (d : Dev) : (d.setFaults v).reserve = d.reserve := rfl
@[simp] theorem Dev.setFaults_adc (v : DeviceFaults) (d : Dev) : (d.setFaults v).adc = d.adc := rfl
@[simp] theorem Dev.setFaults_faults (v : DeviceFaults) (d : Dev) : (d.setFaults v).faults = v := rfl
@[simp] theorem Dev.setFaults_sns (v : DeviceFaults) (d : Dev) : (d.setFaults v).sns = d.sns := rfl
@[simp] theorem Dev.setFaults_psq (v : DeviceFaults) (d : Dev) : (d.setFaults v).psq = d.psq := rfl
@[simp] theorem Dev.setFaults_image (v : DeviceFaults) (d : Dev) : (d.setFaults v).image = d.image := rfl
@[simp] theorem Dev.setFaults_engine (v : DeviceFaults) (d : Dev) : (d.setFaults v).engine = d.engine := rfl
@[simp] theorem Dev.setFaults_ring (v : DeviceFaults) (d : Dev) : (d.setFaults v).ring = d.ring := rfl
@[simp] theorem Dev.setFaults_scan (v : DeviceFaults) (d : Dev) : (d.setFaults v).scan = d.scan := rfl
@[simp] theorem Dev.setFaults_journal (v : DeviceFaults) (d : Dev) : (d.setFaults v).journal = d.journal := rfl
@[simp] theorem Dev.setFaults_plan (v : DeviceFaults) (d : Dev) : (d.setFaults v).plan = d.plan := rfl
@[simp] theorem Dev.setFaults_arbiter (v : DeviceFaults) (d : Dev) : (d.setFaults v).arbiter = d.arbiter := rfl
@[simp] theorem Dev.setFaults_tmb (v : DeviceFaults) (d : Dev) : (d.setFaults v).tmb = d.tmb := rfl
@[simp] theorem Dev.setFaults_link (v : DeviceFaults) (d : Dev) : (d.setFaults v).link = d.link := rfl
@[simp] theorem Dev.setFaults_freeCount (v : DeviceFaults) (d : Dev) : (d.setFaults v).freeCount = d.freeCount := rfl

/-! ### Dev.setEngine -/

@[simp] theorem Dev.setEngine_pins (v : Engine) (d : Dev) : (d.setEngine v).pins = d.pins := rfl
@[simp] theorem Dev.setEngine_bkd (v : Engine) (d : Dev) : (d.setEngine v).bkd = d.bkd := rfl
@[simp] theorem Dev.setEngine_run (v : Engine) (d : Dev) : (d.setEngine v).run = d.run := rfl
@[simp] theorem Dev.setEngine_settle (v : Engine) (d : Dev) : (d.setEngine v).settle = d.settle := rfl
@[simp] theorem Dev.setEngine_reserve (v : Engine) (d : Dev) : (d.setEngine v).reserve = d.reserve := rfl
@[simp] theorem Dev.setEngine_adc (v : Engine) (d : Dev) : (d.setEngine v).adc = d.adc := rfl
@[simp] theorem Dev.setEngine_faults (v : Engine) (d : Dev) : (d.setEngine v).faults = d.faults := rfl
@[simp] theorem Dev.setEngine_sns (v : Engine) (d : Dev) : (d.setEngine v).sns = d.sns := rfl
@[simp] theorem Dev.setEngine_psq (v : Engine) (d : Dev) : (d.setEngine v).psq = d.psq := rfl
@[simp] theorem Dev.setEngine_image (v : Engine) (d : Dev) : (d.setEngine v).image = d.image := rfl
@[simp] theorem Dev.setEngine_engine (v : Engine) (d : Dev) : (d.setEngine v).engine = v := rfl
@[simp] theorem Dev.setEngine_ring (v : Engine) (d : Dev) : (d.setEngine v).ring = d.ring := rfl
@[simp] theorem Dev.setEngine_scan (v : Engine) (d : Dev) : (d.setEngine v).scan = d.scan := rfl
@[simp] theorem Dev.setEngine_journal (v : Engine) (d : Dev) : (d.setEngine v).journal = d.journal := rfl
@[simp] theorem Dev.setEngine_plan (v : Engine) (d : Dev) : (d.setEngine v).plan = d.plan := rfl
@[simp] theorem Dev.setEngine_arbiter (v : Engine) (d : Dev) : (d.setEngine v).arbiter = d.arbiter := rfl
@[simp] theorem Dev.setEngine_tmb (v : Engine) (d : Dev) : (d.setEngine v).tmb = d.tmb := rfl
@[simp] theorem Dev.setEngine_link (v : Engine) (d : Dev) : (d.setEngine v).link = d.link := rfl
@[simp] theorem Dev.setEngine_freeCount (v : Engine) (d : Dev) : (d.setEngine v).freeCount = d.freeCount := rfl

/-! ### Dev.setScan -/

@[simp] theorem Dev.setScan_pins (v : Scanner) (d : Dev) : (d.setScan v).pins = d.pins := rfl
@[simp] theorem Dev.setScan_bkd (v : Scanner) (d : Dev) : (d.setScan v).bkd = d.bkd := rfl
@[simp] theorem Dev.setScan_run (v : Scanner) (d : Dev) : (d.setScan v).run = d.run := rfl
@[simp] theorem Dev.setScan_settle (v : Scanner) (d : Dev) : (d.setScan v).settle = d.settle := rfl
@[simp] theorem Dev.setScan_reserve (v : Scanner) (d : Dev) : (d.setScan v).reserve = d.reserve := rfl
@[simp] theorem Dev.setScan_adc (v : Scanner) (d : Dev) : (d.setScan v).adc = d.adc := rfl
@[simp] theorem Dev.setScan_faults (v : Scanner) (d : Dev) : (d.setScan v).faults = d.faults := rfl
@[simp] theorem Dev.setScan_sns (v : Scanner) (d : Dev) : (d.setScan v).sns = d.sns := rfl
@[simp] theorem Dev.setScan_psq (v : Scanner) (d : Dev) : (d.setScan v).psq = d.psq := rfl
@[simp] theorem Dev.setScan_image (v : Scanner) (d : Dev) : (d.setScan v).image = d.image := rfl
@[simp] theorem Dev.setScan_engine (v : Scanner) (d : Dev) : (d.setScan v).engine = d.engine := rfl
@[simp] theorem Dev.setScan_ring (v : Scanner) (d : Dev) : (d.setScan v).ring = d.ring := rfl
@[simp] theorem Dev.setScan_scan (v : Scanner) (d : Dev) : (d.setScan v).scan = v := rfl
@[simp] theorem Dev.setScan_journal (v : Scanner) (d : Dev) : (d.setScan v).journal = d.journal := rfl
@[simp] theorem Dev.setScan_plan (v : Scanner) (d : Dev) : (d.setScan v).plan = d.plan := rfl
@[simp] theorem Dev.setScan_arbiter (v : Scanner) (d : Dev) : (d.setScan v).arbiter = d.arbiter := rfl
@[simp] theorem Dev.setScan_tmb (v : Scanner) (d : Dev) : (d.setScan v).tmb = d.tmb := rfl
@[simp] theorem Dev.setScan_link (v : Scanner) (d : Dev) : (d.setScan v).link = d.link := rfl
@[simp] theorem Dev.setScan_freeCount (v : Scanner) (d : Dev) : (d.setScan v).freeCount = d.freeCount := rfl

/-! ### Dev.setArbiter -/

@[simp] theorem Dev.setArbiter_pins (v : Arbiter) (d : Dev) : (d.setArbiter v).pins = d.pins := rfl
@[simp] theorem Dev.setArbiter_bkd (v : Arbiter) (d : Dev) : (d.setArbiter v).bkd = d.bkd := rfl
@[simp] theorem Dev.setArbiter_run (v : Arbiter) (d : Dev) : (d.setArbiter v).run = d.run := rfl
@[simp] theorem Dev.setArbiter_settle (v : Arbiter) (d : Dev) : (d.setArbiter v).settle = d.settle := rfl
@[simp] theorem Dev.setArbiter_reserve (v : Arbiter) (d : Dev) : (d.setArbiter v).reserve = d.reserve := rfl
@[simp] theorem Dev.setArbiter_adc (v : Arbiter) (d : Dev) : (d.setArbiter v).adc = d.adc := rfl
@[simp] theorem Dev.setArbiter_faults (v : Arbiter) (d : Dev) : (d.setArbiter v).faults = d.faults := rfl
@[simp] theorem Dev.setArbiter_sns (v : Arbiter) (d : Dev) : (d.setArbiter v).sns = d.sns := rfl
@[simp] theorem Dev.setArbiter_psq (v : Arbiter) (d : Dev) : (d.setArbiter v).psq = d.psq := rfl
@[simp] theorem Dev.setArbiter_image (v : Arbiter) (d : Dev) : (d.setArbiter v).image = d.image := rfl
@[simp] theorem Dev.setArbiter_engine (v : Arbiter) (d : Dev) : (d.setArbiter v).engine = d.engine := rfl
@[simp] theorem Dev.setArbiter_ring (v : Arbiter) (d : Dev) : (d.setArbiter v).ring = d.ring := rfl
@[simp] theorem Dev.setArbiter_scan (v : Arbiter) (d : Dev) : (d.setArbiter v).scan = d.scan := rfl
@[simp] theorem Dev.setArbiter_journal (v : Arbiter) (d : Dev) : (d.setArbiter v).journal = d.journal := rfl
@[simp] theorem Dev.setArbiter_plan (v : Arbiter) (d : Dev) : (d.setArbiter v).plan = d.plan := rfl
@[simp] theorem Dev.setArbiter_arbiter (v : Arbiter) (d : Dev) : (d.setArbiter v).arbiter = v := rfl
@[simp] theorem Dev.setArbiter_tmb (v : Arbiter) (d : Dev) : (d.setArbiter v).tmb = d.tmb := rfl
@[simp] theorem Dev.setArbiter_link (v : Arbiter) (d : Dev) : (d.setArbiter v).link = d.link := rfl
@[simp] theorem Dev.setArbiter_freeCount (v : Arbiter) (d : Dev) : (d.setArbiter v).freeCount = d.freeCount := rfl

/-! ### Dev.setLink -/

@[simp] theorem Dev.setLink_pins (v : Link) (d : Dev) : (d.setLink v).pins = d.pins := rfl
@[simp] theorem Dev.setLink_bkd (v : Link) (d : Dev) : (d.setLink v).bkd = d.bkd := rfl
@[simp] theorem Dev.setLink_run (v : Link) (d : Dev) : (d.setLink v).run = d.run := rfl
@[simp] theorem Dev.setLink_settle (v : Link) (d : Dev) : (d.setLink v).settle = d.settle := rfl
@[simp] theorem Dev.setLink_reserve (v : Link) (d : Dev) : (d.setLink v).reserve = d.reserve := rfl
@[simp] theorem Dev.setLink_adc (v : Link) (d : Dev) : (d.setLink v).adc = d.adc := rfl
@[simp] theorem Dev.setLink_faults (v : Link) (d : Dev) : (d.setLink v).faults = d.faults := rfl
@[simp] theorem Dev.setLink_sns (v : Link) (d : Dev) : (d.setLink v).sns = d.sns := rfl
@[simp] theorem Dev.setLink_psq (v : Link) (d : Dev) : (d.setLink v).psq = d.psq := rfl
@[simp] theorem Dev.setLink_image (v : Link) (d : Dev) : (d.setLink v).image = d.image := rfl
@[simp] theorem Dev.setLink_engine (v : Link) (d : Dev) : (d.setLink v).engine = d.engine := rfl
@[simp] theorem Dev.setLink_ring (v : Link) (d : Dev) : (d.setLink v).ring = d.ring := rfl
@[simp] theorem Dev.setLink_scan (v : Link) (d : Dev) : (d.setLink v).scan = d.scan := rfl
@[simp] theorem Dev.setLink_journal (v : Link) (d : Dev) : (d.setLink v).journal = d.journal := rfl
@[simp] theorem Dev.setLink_plan (v : Link) (d : Dev) : (d.setLink v).plan = d.plan := rfl
@[simp] theorem Dev.setLink_arbiter (v : Link) (d : Dev) : (d.setLink v).arbiter = d.arbiter := rfl
@[simp] theorem Dev.setLink_tmb (v : Link) (d : Dev) : (d.setLink v).tmb = d.tmb := rfl
@[simp] theorem Dev.setLink_link (v : Link) (d : Dev) : (d.setLink v).link = v := rfl
@[simp] theorem Dev.setLink_freeCount (v : Link) (d : Dev) : (d.setLink v).freeCount = d.freeCount := rfl

/-! ### Dev.setFreeCount -/

@[simp] theorem Dev.setFreeCount_pins (v : Nat) (d : Dev) : (d.setFreeCount v).pins = d.pins := rfl
@[simp] theorem Dev.setFreeCount_bkd (v : Nat) (d : Dev) : (d.setFreeCount v).bkd = d.bkd := rfl
@[simp] theorem Dev.setFreeCount_run (v : Nat) (d : Dev) : (d.setFreeCount v).run = d.run := rfl
@[simp] theorem Dev.setFreeCount_settle (v : Nat) (d : Dev) : (d.setFreeCount v).settle = d.settle := rfl
@[simp] theorem Dev.setFreeCount_reserve (v : Nat) (d : Dev) : (d.setFreeCount v).reserve = d.reserve := rfl
@[simp] theorem Dev.setFreeCount_adc (v : Nat) (d : Dev) : (d.setFreeCount v).adc = d.adc := rfl
@[simp] theorem Dev.setFreeCount_faults (v : Nat) (d : Dev) : (d.setFreeCount v).faults = d.faults := rfl
@[simp] theorem Dev.setFreeCount_sns (v : Nat) (d : Dev) : (d.setFreeCount v).sns = d.sns := rfl
@[simp] theorem Dev.setFreeCount_psq (v : Nat) (d : Dev) : (d.setFreeCount v).psq = d.psq := rfl
@[simp] theorem Dev.setFreeCount_image (v : Nat) (d : Dev) : (d.setFreeCount v).image = d.image := rfl
@[simp] theorem Dev.setFreeCount_engine (v : Nat) (d : Dev) : (d.setFreeCount v).engine = d.engine := rfl
@[simp] theorem Dev.setFreeCount_ring (v : Nat) (d : Dev) : (d.setFreeCount v).ring = d.ring := rfl
@[simp] theorem Dev.setFreeCount_scan (v : Nat) (d : Dev) : (d.setFreeCount v).scan = d.scan := rfl
@[simp] theorem Dev.setFreeCount_journal (v : Nat) (d : Dev) : (d.setFreeCount v).journal = d.journal := rfl
@[simp] theorem Dev.setFreeCount_plan (v : Nat) (d : Dev) : (d.setFreeCount v).plan = d.plan := rfl
@[simp] theorem Dev.setFreeCount_arbiter (v : Nat) (d : Dev) : (d.setFreeCount v).arbiter = d.arbiter := rfl
@[simp] theorem Dev.setFreeCount_tmb (v : Nat) (d : Dev) : (d.setFreeCount v).tmb = d.tmb := rfl
@[simp] theorem Dev.setFreeCount_link (v : Nat) (d : Dev) : (d.setFreeCount v).link = d.link := rfl
@[simp] theorem Dev.setFreeCount_freeCount (v : Nat) (d : Dev) : (d.setFreeCount v).freeCount = v := rfl

/-! ### Dev.setSns -/

@[simp] theorem Dev.setSns_pins (p : Pocket) (v : Sensor) (d : Dev) : (d.setSns p v).pins = d.pins := rfl
@[simp] theorem Dev.setSns_bkd (p : Pocket) (v : Sensor) (d : Dev) : (d.setSns p v).bkd = d.bkd := rfl
@[simp] theorem Dev.setSns_run (p : Pocket) (v : Sensor) (d : Dev) : (d.setSns p v).run = d.run := rfl
@[simp] theorem Dev.setSns_settle (p : Pocket) (v : Sensor) (d : Dev) : (d.setSns p v).settle = d.settle := rfl
@[simp] theorem Dev.setSns_reserve (p : Pocket) (v : Sensor) (d : Dev) : (d.setSns p v).reserve = d.reserve := rfl
@[simp] theorem Dev.setSns_adc (p : Pocket) (v : Sensor) (d : Dev) : (d.setSns p v).adc = d.adc := rfl
@[simp] theorem Dev.setSns_faults (p : Pocket) (v : Sensor) (d : Dev) : (d.setSns p v).faults = d.faults := rfl
@[simp] theorem Dev.setSns_sns (p : Pocket) (v : Sensor) (d : Dev) : (d.setSns p v).sns = d.sns.set p v := rfl
@[simp] theorem Dev.setSns_psq (p : Pocket) (v : Sensor) (d : Dev) : (d.setSns p v).psq = d.psq := rfl
@[simp] theorem Dev.setSns_image (p : Pocket) (v : Sensor) (d : Dev) : (d.setSns p v).image = d.image := rfl
@[simp] theorem Dev.setSns_engine (p : Pocket) (v : Sensor) (d : Dev) : (d.setSns p v).engine = d.engine := rfl
@[simp] theorem Dev.setSns_ring (p : Pocket) (v : Sensor) (d : Dev) : (d.setSns p v).ring = d.ring := rfl
@[simp] theorem Dev.setSns_scan (p : Pocket) (v : Sensor) (d : Dev) : (d.setSns p v).scan = d.scan := rfl
@[simp] theorem Dev.setSns_journal (p : Pocket) (v : Sensor) (d : Dev) : (d.setSns p v).journal = d.journal := rfl
@[simp] theorem Dev.setSns_plan (p : Pocket) (v : Sensor) (d : Dev) : (d.setSns p v).plan = d.plan := rfl
@[simp] theorem Dev.setSns_arbiter (p : Pocket) (v : Sensor) (d : Dev) : (d.setSns p v).arbiter = d.arbiter := rfl
@[simp] theorem Dev.setSns_tmb (p : Pocket) (v : Sensor) (d : Dev) : (d.setSns p v).tmb = d.tmb := rfl
@[simp] theorem Dev.setSns_link (p : Pocket) (v : Sensor) (d : Dev) : (d.setSns p v).link = d.link := rfl
@[simp] theorem Dev.setSns_freeCount (p : Pocket) (v : Sensor) (d : Dev) : (d.setSns p v).freeCount = d.freeCount := rfl

/-! ### Dev.setPsq -/

@[simp] theorem Dev.setPsq_pins (p : Pocket) (v : Sequencer) (d : Dev) : (d.setPsq p v).pins = d.pins := rfl
@[simp] theorem Dev.setPsq_bkd (p : Pocket) (v : Sequencer) (d : Dev) : (d.setPsq p v).bkd = d.bkd := rfl
@[simp] theorem Dev.setPsq_run (p : Pocket) (v : Sequencer) (d : Dev) : (d.setPsq p v).run = d.run := rfl
@[simp] theorem Dev.setPsq_settle (p : Pocket) (v : Sequencer) (d : Dev) : (d.setPsq p v).settle = d.settle := rfl
@[simp] theorem Dev.setPsq_reserve (p : Pocket) (v : Sequencer) (d : Dev) : (d.setPsq p v).reserve = d.reserve := rfl
@[simp] theorem Dev.setPsq_adc (p : Pocket) (v : Sequencer) (d : Dev) : (d.setPsq p v).adc = d.adc := rfl
@[simp] theorem Dev.setPsq_faults (p : Pocket) (v : Sequencer) (d : Dev) : (d.setPsq p v).faults = d.faults := rfl
@[simp] theorem Dev.setPsq_sns (p : Pocket) (v : Sequencer) (d : Dev) : (d.setPsq p v).sns = d.sns := rfl
@[simp] theorem Dev.setPsq_psq (p : Pocket) (v : Sequencer) (d : Dev) : (d.setPsq p v).psq = d.psq.set p v := rfl
@[simp] theorem Dev.setPsq_image (p : Pocket) (v : Sequencer) (d : Dev) : (d.setPsq p v).image = d.image := rfl
@[simp] theorem Dev.setPsq_engine (p : Pocket) (v : Sequencer) (d : Dev) : (d.setPsq p v).engine = d.engine := rfl
@[simp] theorem Dev.setPsq_ring (p : Pocket) (v : Sequencer) (d : Dev) : (d.setPsq p v).ring = d.ring := rfl
@[simp] theorem Dev.setPsq_scan (p : Pocket) (v : Sequencer) (d : Dev) : (d.setPsq p v).scan = d.scan := rfl
@[simp] theorem Dev.setPsq_journal (p : Pocket) (v : Sequencer) (d : Dev) : (d.setPsq p v).journal = d.journal := rfl
@[simp] theorem Dev.setPsq_plan (p : Pocket) (v : Sequencer) (d : Dev) : (d.setPsq p v).plan = d.plan := rfl
@[simp] theorem Dev.setPsq_arbiter (p : Pocket) (v : Sequencer) (d : Dev) : (d.setPsq p v).arbiter = d.arbiter := rfl
@[simp] theorem Dev.setPsq_tmb (p : Pocket) (v : Sequencer) (d : Dev) : (d.setPsq p v).tmb = d.tmb := rfl
@[simp] theorem Dev.setPsq_link (p : Pocket) (v : Sequencer) (d : Dev) : (d.setPsq p v).link = d.link := rfl
@[simp] theorem Dev.setPsq_freeCount (p : Pocket) (v : Sequencer) (d : Dev) : (d.setPsq p v).freeCount = d.freeCount := rfl

/-! ### Dev.setImage -/

@[simp] theorem Dev.setImage_pins (p : Pocket) (v : Option Image) (d : Dev) : (d.setImage p v).pins = d.pins := rfl
@[simp] theorem Dev.setImage_bkd (p : Pocket) (v : Option Image) (d : Dev) : (d.setImage p v).bkd = d.bkd := rfl
@[simp] theorem Dev.setImage_run (p : Pocket) (v : Option Image) (d : Dev) : (d.setImage p v).run = d.run := rfl
@[simp] theorem Dev.setImage_settle (p : Pocket) (v : Option Image) (d : Dev) : (d.setImage p v).settle = d.settle := rfl
@[simp] theorem Dev.setImage_reserve (p : Pocket) (v : Option Image) (d : Dev) : (d.setImage p v).reserve = d.reserve := rfl
@[simp] theorem Dev.setImage_adc (p : Pocket) (v : Option Image) (d : Dev) : (d.setImage p v).adc = d.adc := rfl
@[simp] theorem Dev.setImage_faults (p : Pocket) (v : Option Image) (d : Dev) : (d.setImage p v).faults = d.faults := rfl
@[simp] theorem Dev.setImage_sns (p : Pocket) (v : Option Image) (d : Dev) : (d.setImage p v).sns = d.sns := rfl
@[simp] theorem Dev.setImage_psq (p : Pocket) (v : Option Image) (d : Dev) : (d.setImage p v).psq = d.psq := rfl
@[simp] theorem Dev.setImage_image (p : Pocket) (v : Option Image) (d : Dev) : (d.setImage p v).image = d.image.set p v := rfl
@[simp] theorem Dev.setImage_engine (p : Pocket) (v : Option Image) (d : Dev) : (d.setImage p v).engine = d.engine := rfl
@[simp] theorem Dev.setImage_ring (p : Pocket) (v : Option Image) (d : Dev) : (d.setImage p v).ring = d.ring := rfl
@[simp] theorem Dev.setImage_scan (p : Pocket) (v : Option Image) (d : Dev) : (d.setImage p v).scan = d.scan := rfl
@[simp] theorem Dev.setImage_journal (p : Pocket) (v : Option Image) (d : Dev) : (d.setImage p v).journal = d.journal := rfl
@[simp] theorem Dev.setImage_plan (p : Pocket) (v : Option Image) (d : Dev) : (d.setImage p v).plan = d.plan := rfl
@[simp] theorem Dev.setImage_arbiter (p : Pocket) (v : Option Image) (d : Dev) : (d.setImage p v).arbiter = d.arbiter := rfl
@[simp] theorem Dev.setImage_tmb (p : Pocket) (v : Option Image) (d : Dev) : (d.setImage p v).tmb = d.tmb := rfl
@[simp] theorem Dev.setImage_link (p : Pocket) (v : Option Image) (d : Dev) : (d.setImage p v).link = d.link := rfl
@[simp] theorem Dev.setImage_freeCount (p : Pocket) (v : Option Image) (d : Dev) : (d.setImage p v).freeCount = d.freeCount := rfl

/-! ### Dev.setRing -/

@[simp] theorem Dev.setRing_pins (p : Pocket) (v : Ring) (d : Dev) : (d.setRing p v).pins = d.pins := rfl
@[simp] theorem Dev.setRing_bkd (p : Pocket) (v : Ring) (d : Dev) : (d.setRing p v).bkd = d.bkd := rfl
@[simp] theorem Dev.setRing_run (p : Pocket) (v : Ring) (d : Dev) : (d.setRing p v).run = d.run := rfl
@[simp] theorem Dev.setRing_settle (p : Pocket) (v : Ring) (d : Dev) : (d.setRing p v).settle = d.settle := rfl
@[simp] theorem Dev.setRing_reserve (p : Pocket) (v : Ring) (d : Dev) : (d.setRing p v).reserve = d.reserve := rfl
@[simp] theorem Dev.setRing_adc (p : Pocket) (v : Ring) (d : Dev) : (d.setRing p v).adc = d.adc := rfl
@[simp] theorem Dev.setRing_faults (p : Pocket) (v : Ring) (d : Dev) : (d.setRing p v).faults = d.faults := rfl
@[simp] theorem Dev.setRing_sns (p : Pocket) (v : Ring) (d : Dev) : (d.setRing p v).sns = d.sns := rfl
@[simp] theorem Dev.setRing_psq (p : Pocket) (v : Ring) (d : Dev) : (d.setRing p v).psq = d.psq := rfl
@[simp] theorem Dev.setRing_image (p : Pocket) (v : Ring) (d : Dev) : (d.setRing p v).image = d.image := rfl
@[simp] theorem Dev.setRing_engine (p : Pocket) (v : Ring) (d : Dev) : (d.setRing p v).engine = d.engine := rfl
@[simp] theorem Dev.setRing_ring (p : Pocket) (v : Ring) (d : Dev) : (d.setRing p v).ring = d.ring.set p v := rfl
@[simp] theorem Dev.setRing_scan (p : Pocket) (v : Ring) (d : Dev) : (d.setRing p v).scan = d.scan := rfl
@[simp] theorem Dev.setRing_journal (p : Pocket) (v : Ring) (d : Dev) : (d.setRing p v).journal = d.journal := rfl
@[simp] theorem Dev.setRing_plan (p : Pocket) (v : Ring) (d : Dev) : (d.setRing p v).plan = d.plan := rfl
@[simp] theorem Dev.setRing_arbiter (p : Pocket) (v : Ring) (d : Dev) : (d.setRing p v).arbiter = d.arbiter := rfl
@[simp] theorem Dev.setRing_tmb (p : Pocket) (v : Ring) (d : Dev) : (d.setRing p v).tmb = d.tmb := rfl
@[simp] theorem Dev.setRing_link (p : Pocket) (v : Ring) (d : Dev) : (d.setRing p v).link = d.link := rfl
@[simp] theorem Dev.setRing_freeCount (p : Pocket) (v : Ring) (d : Dev) : (d.setRing p v).freeCount = d.freeCount := rfl

/-! ### Dev.setJournal -/

@[simp] theorem Dev.setJournal_pins (p : Pocket) (v : Journal) (d : Dev) : (d.setJournal p v).pins = d.pins := rfl
@[simp] theorem Dev.setJournal_bkd (p : Pocket) (v : Journal) (d : Dev) : (d.setJournal p v).bkd = d.bkd := rfl
@[simp] theorem Dev.setJournal_run (p : Pocket) (v : Journal) (d : Dev) : (d.setJournal p v).run = d.run := rfl
@[simp] theorem Dev.setJournal_settle (p : Pocket) (v : Journal) (d : Dev) : (d.setJournal p v).settle = d.settle := rfl
@[simp] theorem Dev.setJournal_reserve (p : Pocket) (v : Journal) (d : Dev) : (d.setJournal p v).reserve = d.reserve := rfl
@[simp] theorem Dev.setJournal_adc (p : Pocket) (v : Journal) (d : Dev) : (d.setJournal p v).adc = d.adc := rfl
@[simp] theorem Dev.setJournal_faults (p : Pocket) (v : Journal) (d : Dev) : (d.setJournal p v).faults = d.faults := rfl
@[simp] theorem Dev.setJournal_sns (p : Pocket) (v : Journal) (d : Dev) : (d.setJournal p v).sns = d.sns := rfl
@[simp] theorem Dev.setJournal_psq (p : Pocket) (v : Journal) (d : Dev) : (d.setJournal p v).psq = d.psq := rfl
@[simp] theorem Dev.setJournal_image (p : Pocket) (v : Journal) (d : Dev) : (d.setJournal p v).image = d.image := rfl
@[simp] theorem Dev.setJournal_engine (p : Pocket) (v : Journal) (d : Dev) : (d.setJournal p v).engine = d.engine := rfl
@[simp] theorem Dev.setJournal_ring (p : Pocket) (v : Journal) (d : Dev) : (d.setJournal p v).ring = d.ring := rfl
@[simp] theorem Dev.setJournal_scan (p : Pocket) (v : Journal) (d : Dev) : (d.setJournal p v).scan = d.scan := rfl
@[simp] theorem Dev.setJournal_journal (p : Pocket) (v : Journal) (d : Dev) : (d.setJournal p v).journal = d.journal.set p v := rfl
@[simp] theorem Dev.setJournal_plan (p : Pocket) (v : Journal) (d : Dev) : (d.setJournal p v).plan = d.plan := rfl
@[simp] theorem Dev.setJournal_arbiter (p : Pocket) (v : Journal) (d : Dev) : (d.setJournal p v).arbiter = d.arbiter := rfl
@[simp] theorem Dev.setJournal_tmb (p : Pocket) (v : Journal) (d : Dev) : (d.setJournal p v).tmb = d.tmb := rfl
@[simp] theorem Dev.setJournal_link (p : Pocket) (v : Journal) (d : Dev) : (d.setJournal p v).link = d.link := rfl
@[simp] theorem Dev.setJournal_freeCount (p : Pocket) (v : Journal) (d : Dev) : (d.setJournal p v).freeCount = d.freeCount := rfl

/-! ### Dev.setPlan -/

@[simp] theorem Dev.setPlan_pins (p : Pocket) (v : Option Plan) (d : Dev) : (d.setPlan p v).pins = d.pins := rfl
@[simp] theorem Dev.setPlan_bkd (p : Pocket) (v : Option Plan) (d : Dev) : (d.setPlan p v).bkd = d.bkd := rfl
@[simp] theorem Dev.setPlan_run (p : Pocket) (v : Option Plan) (d : Dev) : (d.setPlan p v).run = d.run := rfl
@[simp] theorem Dev.setPlan_settle (p : Pocket) (v : Option Plan) (d : Dev) : (d.setPlan p v).settle = d.settle := rfl
@[simp] theorem Dev.setPlan_reserve (p : Pocket) (v : Option Plan) (d : Dev) : (d.setPlan p v).reserve = d.reserve := rfl
@[simp] theorem Dev.setPlan_adc (p : Pocket) (v : Option Plan) (d : Dev) : (d.setPlan p v).adc = d.adc := rfl
@[simp] theorem Dev.setPlan_faults (p : Pocket) (v : Option Plan) (d : Dev) : (d.setPlan p v).faults = d.faults := rfl
@[simp] theorem Dev.setPlan_sns (p : Pocket) (v : Option Plan) (d : Dev) : (d.setPlan p v).sns = d.sns := rfl
@[simp] theorem Dev.setPlan_psq (p : Pocket) (v : Option Plan) (d : Dev) : (d.setPlan p v).psq = d.psq := rfl
@[simp] theorem Dev.setPlan_image (p : Pocket) (v : Option Plan) (d : Dev) : (d.setPlan p v).image = d.image := rfl
@[simp] theorem Dev.setPlan_engine (p : Pocket) (v : Option Plan) (d : Dev) : (d.setPlan p v).engine = d.engine := rfl
@[simp] theorem Dev.setPlan_ring (p : Pocket) (v : Option Plan) (d : Dev) : (d.setPlan p v).ring = d.ring := rfl
@[simp] theorem Dev.setPlan_scan (p : Pocket) (v : Option Plan) (d : Dev) : (d.setPlan p v).scan = d.scan := rfl
@[simp] theorem Dev.setPlan_journal (p : Pocket) (v : Option Plan) (d : Dev) : (d.setPlan p v).journal = d.journal := rfl
@[simp] theorem Dev.setPlan_plan (p : Pocket) (v : Option Plan) (d : Dev) : (d.setPlan p v).plan = d.plan.set p v := rfl
@[simp] theorem Dev.setPlan_arbiter (p : Pocket) (v : Option Plan) (d : Dev) : (d.setPlan p v).arbiter = d.arbiter := rfl
@[simp] theorem Dev.setPlan_tmb (p : Pocket) (v : Option Plan) (d : Dev) : (d.setPlan p v).tmb = d.tmb := rfl
@[simp] theorem Dev.setPlan_link (p : Pocket) (v : Option Plan) (d : Dev) : (d.setPlan p v).link = d.link := rfl
@[simp] theorem Dev.setPlan_freeCount (p : Pocket) (v : Option Plan) (d : Dev) : (d.setPlan p v).freeCount = d.freeCount := rfl

/-! ### Dev.setTmb -/

@[simp] theorem Dev.setTmb_pins (p : Pocket) (v : Tumbler) (d : Dev) : (d.setTmb p v).pins = d.pins := rfl
@[simp] theorem Dev.setTmb_bkd (p : Pocket) (v : Tumbler) (d : Dev) : (d.setTmb p v).bkd = d.bkd := rfl
@[simp] theorem Dev.setTmb_run (p : Pocket) (v : Tumbler) (d : Dev) : (d.setTmb p v).run = d.run := rfl
@[simp] theorem Dev.setTmb_settle (p : Pocket) (v : Tumbler) (d : Dev) : (d.setTmb p v).settle = d.settle := rfl
@[simp] theorem Dev.setTmb_reserve (p : Pocket) (v : Tumbler) (d : Dev) : (d.setTmb p v).reserve = d.reserve := rfl
@[simp] theorem Dev.setTmb_adc (p : Pocket) (v : Tumbler) (d : Dev) : (d.setTmb p v).adc = d.adc := rfl
@[simp] theorem Dev.setTmb_faults (p : Pocket) (v : Tumbler) (d : Dev) : (d.setTmb p v).faults = d.faults := rfl
@[simp] theorem Dev.setTmb_sns (p : Pocket) (v : Tumbler) (d : Dev) : (d.setTmb p v).sns = d.sns := rfl
@[simp] theorem Dev.setTmb_psq (p : Pocket) (v : Tumbler) (d : Dev) : (d.setTmb p v).psq = d.psq := rfl
@[simp] theorem Dev.setTmb_image (p : Pocket) (v : Tumbler) (d : Dev) : (d.setTmb p v).image = d.image := rfl
@[simp] theorem Dev.setTmb_engine (p : Pocket) (v : Tumbler) (d : Dev) : (d.setTmb p v).engine = d.engine := rfl
@[simp] theorem Dev.setTmb_ring (p : Pocket) (v : Tumbler) (d : Dev) : (d.setTmb p v).ring = d.ring := rfl
@[simp] theorem Dev.setTmb_scan (p : Pocket) (v : Tumbler) (d : Dev) : (d.setTmb p v).scan = d.scan := rfl
@[simp] theorem Dev.setTmb_journal (p : Pocket) (v : Tumbler) (d : Dev) : (d.setTmb p v).journal = d.journal := rfl
@[simp] theorem Dev.setTmb_plan (p : Pocket) (v : Tumbler) (d : Dev) : (d.setTmb p v).plan = d.plan := rfl
@[simp] theorem Dev.setTmb_arbiter (p : Pocket) (v : Tumbler) (d : Dev) : (d.setTmb p v).arbiter = d.arbiter := rfl
@[simp] theorem Dev.setTmb_tmb (p : Pocket) (v : Tumbler) (d : Dev) : (d.setTmb p v).tmb = d.tmb.set p v := rfl
@[simp] theorem Dev.setTmb_link (p : Pocket) (v : Tumbler) (d : Dev) : (d.setTmb p v).link = d.link := rfl
@[simp] theorem Dev.setTmb_freeCount (p : Pocket) (v : Tumbler) (d : Dev) : (d.setTmb p v).freeCount = d.freeCount := rfl

/-! ### Dev.setFacts -/

@[simp] theorem Dev.setFacts_pins (p : Pocket) (v : Facts) (d : Dev) : (d.setFacts p v).pins = d.pins := rfl
@[simp] theorem Dev.setFacts_bkd (p : Pocket) (v : Facts) (d : Dev) : (d.setFacts p v).bkd = { d.bkd with facts := d.bkd.facts.set p v } := rfl
@[simp] theorem Dev.setFacts_run (p : Pocket) (v : Facts) (d : Dev) : (d.setFacts p v).run = d.run := rfl
@[simp] theorem Dev.setFacts_settle (p : Pocket) (v : Facts) (d : Dev) : (d.setFacts p v).settle = d.settle := rfl
@[simp] theorem Dev.setFacts_reserve (p : Pocket) (v : Facts) (d : Dev) : (d.setFacts p v).reserve = d.reserve := rfl
@[simp] theorem Dev.setFacts_adc (p : Pocket) (v : Facts) (d : Dev) : (d.setFacts p v).adc = d.adc := rfl
@[simp] theorem Dev.setFacts_faults (p : Pocket) (v : Facts) (d : Dev) : (d.setFacts p v).faults = d.faults := rfl
@[simp] theorem Dev.setFacts_sns (p : Pocket) (v : Facts) (d : Dev) : (d.setFacts p v).sns = d.sns := rfl
@[simp] theorem Dev.setFacts_psq (p : Pocket) (v : Facts) (d : Dev) : (d.setFacts p v).psq = d.psq := rfl
@[simp] theorem Dev.setFacts_image (p : Pocket) (v : Facts) (d : Dev) : (d.setFacts p v).image = d.image := rfl
@[simp] theorem Dev.setFacts_engine (p : Pocket) (v : Facts) (d : Dev) : (d.setFacts p v).engine = d.engine := rfl
@[simp] theorem Dev.setFacts_ring (p : Pocket) (v : Facts) (d : Dev) : (d.setFacts p v).ring = d.ring := rfl
@[simp] theorem Dev.setFacts_scan (p : Pocket) (v : Facts) (d : Dev) : (d.setFacts p v).scan = d.scan := rfl
@[simp] theorem Dev.setFacts_journal (p : Pocket) (v : Facts) (d : Dev) : (d.setFacts p v).journal = d.journal := rfl
@[simp] theorem Dev.setFacts_plan (p : Pocket) (v : Facts) (d : Dev) : (d.setFacts p v).plan = d.plan := rfl
@[simp] theorem Dev.setFacts_arbiter (p : Pocket) (v : Facts) (d : Dev) : (d.setFacts p v).arbiter = d.arbiter := rfl
@[simp] theorem Dev.setFacts_tmb (p : Pocket) (v : Facts) (d : Dev) : (d.setFacts p v).tmb = d.tmb := rfl
@[simp] theorem Dev.setFacts_link (p : Pocket) (v : Facts) (d : Dev) : (d.setFacts p v).link = d.link := rfl
@[simp] theorem Dev.setFacts_freeCount (p : Pocket) (v : Facts) (d : Dev) : (d.setFacts p v).freeCount = d.freeCount := rfl

/-! ### Dev.setMonitor -/

@[simp] theorem Dev.setMonitor_pins (v : Monitor) (d : Dev) : (d.setMonitor v).pins = d.pins := rfl
@[simp] theorem Dev.setMonitor_bkd (v : Monitor) (d : Dev) : (d.setMonitor v).bkd = { d.bkd with monitor := v } := rfl
@[simp] theorem Dev.setMonitor_run (v : Monitor) (d : Dev) : (d.setMonitor v).run = d.run := rfl
@[simp] theorem Dev.setMonitor_settle (v : Monitor) (d : Dev) : (d.setMonitor v).settle = d.settle := rfl
@[simp] theorem Dev.setMonitor_reserve (v : Monitor) (d : Dev) : (d.setMonitor v).reserve = d.reserve := rfl
@[simp] theorem Dev.setMonitor_adc (v : Monitor) (d : Dev) : (d.setMonitor v).adc = d.adc := rfl
@[simp] theorem Dev.setMonitor_faults (v : Monitor) (d : Dev) : (d.setMonitor v).faults = d.faults := rfl
@[simp] theorem Dev.setMonitor_sns (v : Monitor) (d : Dev) : (d.setMonitor v).sns = d.sns := rfl
@[simp] theorem Dev.setMonitor_psq (v : Monitor) (d : Dev) : (d.setMonitor v).psq = d.psq := rfl
@[simp] theorem Dev.setMonitor_image (v : Monitor) (d : Dev) : (d.setMonitor v).image = d.image := rfl
@[simp] theorem Dev.setMonitor_engine (v : Monitor) (d : Dev) : (d.setMonitor v).engine = d.engine := rfl
@[simp] theorem Dev.setMonitor_ring (v : Monitor) (d : Dev) : (d.setMonitor v).ring = d.ring := rfl
@[simp] theorem Dev.setMonitor_scan (v : Monitor) (d : Dev) : (d.setMonitor v).scan = d.scan := rfl
@[simp] theorem Dev.setMonitor_journal (v : Monitor) (d : Dev) : (d.setMonitor v).journal = d.journal := rfl
@[simp] theorem Dev.setMonitor_plan (v : Monitor) (d : Dev) : (d.setMonitor v).plan = d.plan := rfl
@[simp] theorem Dev.setMonitor_arbiter (v : Monitor) (d : Dev) : (d.setMonitor v).arbiter = d.arbiter := rfl
@[simp] theorem Dev.setMonitor_tmb (v : Monitor) (d : Dev) : (d.setMonitor v).tmb = d.tmb := rfl
@[simp] theorem Dev.setMonitor_link (v : Monitor) (d : Dev) : (d.setMonitor v).link = d.link := rfl
@[simp] theorem Dev.setMonitor_freeCount (v : Monitor) (d : Dev) : (d.setMonitor v).freeCount = d.freeCount := rfl

/-! ### The values of a start -/

@[simp] theorem Dev.mainInit_pins (r : RunState) (k : StartKind) (h : Bool) (doors : Per Bool) (d : Dev) :
    (d.mainInit r k h doors).pins = d.pins := rfl
@[simp] theorem Dev.mainInit_bkd (r : RunState) (k : StartKind) (h : Bool) (doors : Per Bool) (d : Dev) :
    (d.mainInit r k h doors).bkd = d.bkd := rfl
@[simp] theorem Dev.mainInit_run (r : RunState) (k : StartKind) (h : Bool) (doors : Per Bool) (d : Dev) :
    (d.mainInit r k h doors).run = r := rfl
@[simp] theorem Dev.mainInit_settle (r : RunState) (k : StartKind) (h : Bool) (doors : Per Bool) (d : Dev) :
    (d.mainInit r k h doors).settle = ⟨false, 0⟩ := rfl
@[simp] theorem Dev.mainInit_reserve (r : RunState) (k : StartKind) (h : Bool) (doors : Per Bool) (d : Dev) :
    (d.mainInit r k h doors).reserve = ⟨0, false⟩ := rfl
@[simp] theorem Dev.mainInit_adc (r : RunState) (k : StartKind) (h : Bool) (doors : Per Bool) (d : Dev) :
    (d.mainInit r k h doors).adc = .idle := rfl
@[simp] theorem Dev.mainInit_faults (r : RunState) (k : StartKind) (h : Bool) (doors : Per Bool) (d : Dev) :
    (d.mainInit r k h doors).faults = .empty := rfl
@[simp] theorem Dev.mainInit_sns (r : RunState) (k : StartKind) (h : Bool) (doors : Per Bool) (d : Dev) :
    (d.mainInit r k h doors).sns = .both .start := rfl
@[simp] theorem Dev.mainInit_psq (r : RunState) (k : StartKind) (h : Bool) (doors : Per Bool) (d : Dev) :
    (d.mainInit r k h doors).psq = ⟨.start k doors.a, .start k doors.b⟩ := rfl
@[simp] theorem Dev.mainInit_image (r : RunState) (k : StartKind) (h : Bool) (doors : Per Bool) (d : Dev) :
    (d.mainInit r k h doors).image = .both none := rfl
@[simp] theorem Dev.mainInit_engine (r : RunState) (k : StartKind) (h : Bool) (doors : Per Bool) (d : Dev) :
    (d.mainInit r k h doors).engine = .start := rfl
@[simp] theorem Dev.mainInit_ring (r : RunState) (k : StartKind) (h : Bool) (doors : Per Bool) (d : Dev) :
    (d.mainInit r k h doors).ring = .both .unset := rfl
@[simp] theorem Dev.mainInit_scan (r : RunState) (k : StartKind) (h : Bool) (doors : Per Bool) (d : Dev) :
    (d.mainInit r k h doors).scan = .start := rfl
@[simp] theorem Dev.mainInit_journal (r : RunState) (k : StartKind) (h : Bool) (doors : Per Bool) (d : Dev) :
    (d.mainInit r k h doors).journal = .both .start := rfl
@[simp] theorem Dev.mainInit_plan (r : RunState) (k : StartKind) (h : Bool) (doors : Per Bool) (d : Dev) :
    (d.mainInit r k h doors).plan = .both none := rfl
@[simp] theorem Dev.mainInit_arbiter (r : RunState) (k : StartKind) (h : Bool) (doors : Per Bool) (d : Dev) :
    (d.mainInit r k h doors).arbiter = ⟨[], 0⟩ := rfl
@[simp] theorem Dev.mainInit_tmb (r : RunState) (k : StartKind) (h : Bool) (doors : Per Bool) (d : Dev) :
    (d.mainInit r k h doors).tmb = .both (.idle 0) := rfl
@[simp] theorem Dev.mainInit_link (r : RunState) (k : StartKind) (h : Bool) (doors : Per Bool) (d : Dev) :
    (d.mainInit r k h doors).link = .start h := rfl
@[simp] theorem Dev.mainInit_freeCount (r : RunState) (k : StartKind) (h : Bool) (doors : Per Bool) (d : Dev) :
    (d.mainInit r k h doors).freeCount = d.freeCount := rfl

end Machine

end Sys2Proof
end

