-- ==== Sys2Proof/Laws/Adc.lean ====
section
/-! SUPPORT. What each operation of the ADC can do, said once (R9, R75): the conversion that runs next, and what is left
waiting. -/

namespace Sys2Proof.Machine

@[simp] theorem Adc.begin_running (p : Pocket) (a : Adc) : (a.begin p).running = some (.thermistor p) := rfl
@[simp] theorem Adc.begin_reserveWaits (p : Pocket) (a : Adc) : (a.begin p).reserveWaits = a.reserveWaits := rfl
@[simp] theorem Adc.begin_thermistorWaits (p : Pocket) (a : Adc) :
    (a.begin p).thermistorWaits = a.thermistorWaits.set p false := rfl
@[simp] theorem Adc.dropSample_running (p : Pocket) (a : Adc) : (a.dropSample p).running = a.running := rfl
@[simp] theorem Adc.dropSample_reserveWaits (p : Pocket) (a : Adc) :
    (a.dropSample p).reserveWaits = a.reserveWaits := rfl

/-- After a conversion the waiting reserve conversion runs, whatever thermistor conversion waits (R9). -/
theorem Adc.handOn_of_reserveWaits {a : Adc} (h : a.reserveWaits = true) :
    a.handOn = { a with running := some .reserve, reserveWaits := false } := by simp [Adc.handOn, h]

/-- Without a waiting reserve conversion a waiting thermistor conversion runs, pocket A's before pocket B's; without
either the ADC is free. -/
theorem Adc.handOn_of_no_reserveWaits {a : Adc} (h : a.reserveWaits = false) :
    a.handOn = if a.thermistorWaits.a then a.begin .a else if a.thermistorWaits.b then a.begin .b
      else { a with running := none } := by simp [Adc.handOn, h]

/-- No reserve conversion waits once one conversion has handed the ADC on. -/
@[simp] theorem Adc.handOn_reserveWaits (a : Adc) : a.handOn.reserveWaits = false := by
  cases h : a.reserveWaits
  · rw [Adc.handOn_of_no_reserveWaits h]; (repeat' split) <;> simp [h]
  · simp [Adc.handOn_of_reserveWaits h]

/-- A reserve conversion that falls due runs or waits (R9). -/
@[simp] theorem Adc.requestReserve_underWay (a : Adc) : a.requestReserve.reserveUnderWay = true := by
  simp only [Adc.requestReserve, Adc.reserveUnderWay]; split <;> simp

/-- A conversion that runs is not cut short by one that falls due (R9). -/
theorem Adc.requestReserve_busy {a : Adc} {c : Conversion} (h : a.running = some c) :
    a.requestReserve = { a with reserveWaits := true, reserveMs := 0 } := by simp [Adc.requestReserve, h]

/-- A thermistor conversion that falls due waits where one runs and where a reserve conversion falls due together with it;
otherwise it starts (R9, R75). -/
theorem Adc.requestThermistor_cases (p : Pocket) (a : Adc) :
    (a.running = none ∧ a.reserveDue = false ∧ a.requestThermistor p = a.begin p) ∨
    ((a.running ≠ none ∨ a.reserveDue = true) ∧
      a.requestThermistor p = { a with thermistorWaits := a.thermistorWaits.set p true }) := by
  by_cases h : a.running = none ∧ a.reserveDue = false
  · exact .inl ⟨h.1, h.2, by simp [Adc.requestThermistor, h]⟩
  · refine .inr ⟨?_, by simp only [Adc.requestThermistor, if_neg h]⟩
    by_cases h1 : a.running = none
    · exact .inr (by simpa [h1] using h)
    · exact .inl h1

/-- A reserve conversion that ends hands the ADC on with none waiting but one that fell due while it ran. -/
theorem Adc.endReserve_cases (a : Adc) :
    (a.running = some .reserve ∧ a.endReserve = a.handOn) ∨
    (a.running ≠ some .reserve ∧ a.endReserve = Adc.handOn { a with reserveWaits := false }) := by
  match h : a.running with
  | none | some .reserve | some (.thermistor _) => simp [Adc.endReserve, h]

@[simp] theorem Dev.beginSample_adc (p : Pocket) (d : Dev) :
    (d.beginSample p).adc = (d.adc.dropSample p).requestThermistor p := rfl
@[simp] theorem Dev.beginSample_sns (p : Pocket) (d : Dev) :
    (d.beginSample p).sns = d.sns.set p { d.sns.get p with sampling := .routine } := by simp [Dev.beginSample, Dev.setSns]

/-- A routine sample that falls due moves its pocket's sensor and the ADC. -/
@[simp] theorem Dev.beginSample_frame (p : Pocket) (d : Dev) :
    (d.beginSample p).pins = d.pins ∧ (d.beginSample p).bkd = d.bkd ∧ (d.beginSample p).run = d.run ∧
    (d.beginSample p).settle = d.settle ∧ (d.beginSample p).reserve = d.reserve ∧ (d.beginSample p).faults = d.faults ∧
    (d.beginSample p).psq = d.psq ∧ (d.beginSample p).image = d.image ∧ (d.beginSample p).engine = d.engine ∧
    (d.beginSample p).ring = d.ring ∧ (d.beginSample p).scan = d.scan ∧ (d.beginSample p).journal = d.journal ∧
    (d.beginSample p).plan = d.plan ∧ (d.beginSample p).arbiter = d.arbiter ∧ (d.beginSample p).tmb = d.tmb ∧
    (d.beginSample p).link = d.link ∧ (d.beginSample p).freeCount = d.freeCount := by
  simp [Dev.beginSample]

end Sys2Proof.Machine
end

