-- ==== Sys2Proof/Laws/OpsFrames.lean ====
section
/-! SUPPORT. What the shared operations of Machine/Ops.lean leave unchanged: for each, every field of the part that it does not touch. -/

namespace Sys2Proof.Machine

@[simp] theorem Dev.raiseCause_frame (c : Cause) (d : Dev) :
    (d.raiseCause c).pins = d.pins ∧ (d.raiseCause c).bkd = d.bkd ∧ (d.raiseCause c).run = d.run ∧ (d.raiseCause c).settle = d.settle ∧
    (d.raiseCause c).reserve = d.reserve ∧ (d.raiseCause c).adc = d.adc ∧ (d.raiseCause c).faults = d.faults ∧ (d.raiseCause c).sns = d.sns ∧ (d.raiseCause c).psq = d.psq ∧
    (d.raiseCause c).image = d.image ∧ (d.raiseCause c).engine = d.engine ∧ (d.raiseCause c).ring = d.ring ∧ (d.raiseCause c).scan = d.scan ∧
    (d.raiseCause c).journal = d.journal ∧ (d.raiseCause c).plan = d.plan ∧ (d.raiseCause c).arbiter = d.arbiter ∧ (d.raiseCause c).tmb = d.tmb ∧
    (d.raiseCause c).freeCount = d.freeCount := by
  simp [Dev.raiseCause]

@[simp] theorem Dev.raiseFault_frame (p : Pocket) (f : PocketFault) (d : Dev) :
    (d.raiseFault p f).pins = d.pins ∧ (d.raiseFault p f).bkd = d.bkd ∧ (d.raiseFault p f).run = d.run ∧ (d.raiseFault p f).settle = d.settle ∧
    (d.raiseFault p f).reserve = d.reserve ∧ (d.raiseFault p f).adc = d.adc ∧ (d.raiseFault p f).faults = d.faults ∧ (d.raiseFault p f).sns = d.sns ∧ (d.raiseFault p f).image = d.image ∧
    (d.raiseFault p f).engine = d.engine ∧ (d.raiseFault p f).ring = d.ring ∧ (d.raiseFault p f).scan = d.scan ∧ (d.raiseFault p f).journal = d.journal ∧
    (d.raiseFault p f).plan = d.plan ∧ (d.raiseFault p f).arbiter = d.arbiter ∧ (d.raiseFault p f).tmb = d.tmb ∧ (d.raiseFault p f).freeCount = d.freeCount := by
  simp only [Dev.raiseFault]; (repeat' split) <;> simp

@[simp] theorem Dev.raiseDevice_frame (f : DeviceFault) (d : Dev) :
    (d.raiseDevice f).pins = d.pins ∧ (d.raiseDevice f).bkd = d.bkd ∧ (d.raiseDevice f).run = d.run ∧ (d.raiseDevice f).settle = d.settle ∧
    (d.raiseDevice f).reserve = d.reserve ∧ (d.raiseDevice f).adc = d.adc ∧ (d.raiseDevice f).sns = d.sns ∧ (d.raiseDevice f).psq = d.psq ∧ (d.raiseDevice f).image = d.image ∧
    (d.raiseDevice f).engine = d.engine ∧ (d.raiseDevice f).ring = d.ring ∧ (d.raiseDevice f).scan = d.scan ∧ (d.raiseDevice f).journal = d.journal ∧
    (d.raiseDevice f).plan = d.plan ∧ (d.raiseDevice f).arbiter = d.arbiter ∧ (d.raiseDevice f).tmb = d.tmb ∧ (d.raiseDevice f).freeCount = d.freeCount := by
  simp only [Dev.raiseDevice]; (repeat' split) <;> simp

@[simp] theorem Dev.clearDevice_frame (f : DeviceFault) (d : Dev) :
    (d.clearDevice f).pins = d.pins ∧ (d.clearDevice f).bkd = d.bkd ∧ (d.clearDevice f).run = d.run ∧ (d.clearDevice f).settle = d.settle ∧
    (d.clearDevice f).reserve = d.reserve ∧ (d.clearDevice f).adc = d.adc ∧ (d.clearDevice f).sns = d.sns ∧ (d.clearDevice f).psq = d.psq ∧ (d.clearDevice f).image = d.image ∧
    (d.clearDevice f).engine = d.engine ∧ (d.clearDevice f).ring = d.ring ∧ (d.clearDevice f).scan = d.scan ∧ (d.clearDevice f).journal = d.journal ∧
    (d.clearDevice f).plan = d.plan ∧ (d.clearDevice f).arbiter = d.arbiter ∧ (d.clearDevice f).tmb = d.tmb ∧ (d.clearDevice f).link = d.link ∧
    (d.clearDevice f).freeCount = d.freeCount := by
  simp [Dev.clearDevice]

@[simp] theorem Dev.send_frame (r : Reply) (d : Dev) :
    (d.send r).pins = d.pins ∧ (d.send r).bkd = d.bkd ∧ (d.send r).run = d.run ∧ (d.send r).settle = d.settle ∧
    (d.send r).reserve = d.reserve ∧ (d.send r).adc = d.adc ∧ (d.send r).faults = d.faults ∧ (d.send r).sns = d.sns ∧ (d.send r).psq = d.psq ∧
    (d.send r).image = d.image ∧ (d.send r).engine = d.engine ∧ (d.send r).ring = d.ring ∧ (d.send r).scan = d.scan ∧
    (d.send r).journal = d.journal ∧ (d.send r).plan = d.plan ∧ (d.send r).arbiter = d.arbiter ∧ (d.send r).tmb = d.tmb ∧
    (d.send r).freeCount = d.freeCount := by
  simp [Dev.send]

@[simp] theorem Dev.reply_frame (q : Request) (payload : List Byte) (d : Dev) :
    (d.reply q payload).pins = d.pins ∧ (d.reply q payload).bkd = d.bkd ∧ (d.reply q payload).run = d.run ∧ (d.reply q payload).settle = d.settle ∧
    (d.reply q payload).reserve = d.reserve ∧ (d.reply q payload).adc = d.adc ∧ (d.reply q payload).faults = d.faults ∧ (d.reply q payload).sns = d.sns ∧ (d.reply q payload).psq = d.psq ∧
    (d.reply q payload).image = d.image ∧ (d.reply q payload).engine = d.engine ∧ (d.reply q payload).ring = d.ring ∧ (d.reply q payload).scan = d.scan ∧
    (d.reply q payload).journal = d.journal ∧ (d.reply q payload).plan = d.plan ∧ (d.reply q payload).arbiter = d.arbiter ∧ (d.reply q payload).tmb = d.tmb ∧
    (d.reply q payload).freeCount = d.freeCount := by
  simp [Dev.reply]

@[simp] theorem Dev.defer_frame (e : Deferred) (d : Dev) :
    (d.defer e).pins = d.pins ∧ (d.defer e).bkd = d.bkd ∧ (d.defer e).run = d.run ∧ (d.defer e).settle = d.settle ∧
    (d.defer e).reserve = d.reserve ∧ (d.defer e).adc = d.adc ∧ (d.defer e).faults = d.faults ∧ (d.defer e).sns = d.sns ∧ (d.defer e).psq = d.psq ∧
    (d.defer e).image = d.image ∧ (d.defer e).engine = d.engine ∧ (d.defer e).ring = d.ring ∧ (d.defer e).scan = d.scan ∧
    (d.defer e).journal = d.journal ∧ (d.defer e).plan = d.plan ∧ (d.defer e).arbiter = d.arbiter ∧ (d.defer e).tmb = d.tmb ∧
    (d.defer e).freeCount = d.freeCount := by
  simp [Dev.defer]

@[simp] theorem Dev.undefer_frame (q : Request) (p : Option Pocket) (d : Dev) :
    (d.undefer q p).pins = d.pins ∧ (d.undefer q p).bkd = d.bkd ∧ (d.undefer q p).run = d.run ∧ (d.undefer q p).settle = d.settle ∧
    (d.undefer q p).reserve = d.reserve ∧ (d.undefer q p).adc = d.adc ∧ (d.undefer q p).faults = d.faults ∧ (d.undefer q p).sns = d.sns ∧ (d.undefer q p).psq = d.psq ∧
    (d.undefer q p).image = d.image ∧ (d.undefer q p).engine = d.engine ∧ (d.undefer q p).ring = d.ring ∧ (d.undefer q p).scan = d.scan ∧
    (d.undefer q p).journal = d.journal ∧ (d.undefer q p).plan = d.plan ∧ (d.undefer q p).arbiter = d.arbiter ∧ (d.undefer q p).tmb = d.tmb ∧
    (d.undefer q p).freeCount = d.freeCount := by
  simp [Dev.undefer]

@[simp] theorem Dev.release_frame (q : Request) (p : Option Pocket) (payload : List Byte) (d : Dev) :
    (d.release q p payload).pins = d.pins ∧ (d.release q p payload).bkd = d.bkd ∧ (d.release q p payload).run = d.run ∧ (d.release q p payload).settle = d.settle ∧
    (d.release q p payload).reserve = d.reserve ∧ (d.release q p payload).adc = d.adc ∧ (d.release q p payload).faults = d.faults ∧ (d.release q p payload).sns = d.sns ∧ (d.release q p payload).psq = d.psq ∧
    (d.release q p payload).image = d.image ∧ (d.release q p payload).engine = d.engine ∧ (d.release q p payload).ring = d.ring ∧ (d.release q p payload).scan = d.scan ∧
    (d.release q p payload).journal = d.journal ∧ (d.release q p payload).plan = d.plan ∧ (d.release q p payload).arbiter = d.arbiter ∧ (d.release q p payload).tmb = d.tmb ∧
    (d.release q p payload).freeCount = d.freeCount := by
  simp only [Dev.release]; (repeat' split) <;> simp

@[simp] theorem Dev.enqueue_frame (w : Work) (d : Dev) :
    (d.enqueue w).pins = d.pins ∧ (d.enqueue w).bkd = d.bkd ∧ (d.enqueue w).run = d.run ∧ (d.enqueue w).settle = d.settle ∧
    (d.enqueue w).reserve = d.reserve ∧ (d.enqueue w).adc = d.adc ∧ (d.enqueue w).faults = d.faults ∧ (d.enqueue w).sns = d.sns ∧ (d.enqueue w).psq = d.psq ∧
    (d.enqueue w).image = d.image ∧ (d.enqueue w).ring = d.ring ∧ (d.enqueue w).scan = d.scan ∧ (d.enqueue w).journal = d.journal ∧
    (d.enqueue w).plan = d.plan ∧ (d.enqueue w).arbiter = d.arbiter ∧ (d.enqueue w).tmb = d.tmb ∧ (d.enqueue w).link = d.link ∧
    (d.enqueue w).freeCount = d.freeCount := by
  simp [Dev.enqueue]

@[simp] theorem Dev.keepEntries_frame (keep : Work → Bool) (d : Dev) :
    (d.keepEntries keep).pins = d.pins ∧ (d.keepEntries keep).bkd = d.bkd ∧ (d.keepEntries keep).run = d.run ∧ (d.keepEntries keep).settle = d.settle ∧
    (d.keepEntries keep).reserve = d.reserve ∧ (d.keepEntries keep).adc = d.adc ∧ (d.keepEntries keep).faults = d.faults ∧ (d.keepEntries keep).sns = d.sns ∧ (d.keepEntries keep).psq = d.psq ∧
    (d.keepEntries keep).image = d.image ∧ (d.keepEntries keep).ring = d.ring ∧ (d.keepEntries keep).scan = d.scan ∧ (d.keepEntries keep).journal = d.journal ∧
    (d.keepEntries keep).plan = d.plan ∧ (d.keepEntries keep).arbiter = d.arbiter ∧ (d.keepEntries keep).tmb = d.tmb ∧ (d.keepEntries keep).link = d.link ∧
    (d.keepEntries keep).freeCount = d.freeCount := by
  simp [Dev.keepEntries]

@[simp] theorem Dev.askErase_frame (p : Pocket) (slot : Fin 16) (d : Dev) :
    (d.askErase p slot).pins = d.pins ∧ (d.askErase p slot).bkd = d.bkd ∧ (d.askErase p slot).run = d.run ∧ (d.askErase p slot).settle = d.settle ∧
    (d.askErase p slot).reserve = d.reserve ∧ (d.askErase p slot).adc = d.adc ∧ (d.askErase p slot).faults = d.faults ∧ (d.askErase p slot).sns = d.sns ∧ (d.askErase p slot).psq = d.psq ∧
    (d.askErase p slot).image = d.image ∧ (d.askErase p slot).ring = d.ring ∧ (d.askErase p slot).scan = d.scan ∧ (d.askErase p slot).journal = d.journal ∧
    (d.askErase p slot).plan = d.plan ∧ (d.askErase p slot).arbiter = d.arbiter ∧ (d.askErase p slot).tmb = d.tmb ∧ (d.askErase p slot).link = d.link ∧
    (d.askErase p slot).freeCount = d.freeCount := by
  simp only [Dev.askErase]; (repeat' split) <;> simp

@[simp] theorem Dev.markBlank_frame (p : Pocket) (slot : Fin 16) (v : Bool) (d : Dev) :
    (d.markBlank p slot v).pins = d.pins ∧ (d.markBlank p slot v).bkd = d.bkd ∧ (d.markBlank p slot v).run = d.run ∧ (d.markBlank p slot v).settle = d.settle ∧
    (d.markBlank p slot v).reserve = d.reserve ∧ (d.markBlank p slot v).adc = d.adc ∧ (d.markBlank p slot v).faults = d.faults ∧ (d.markBlank p slot v).sns = d.sns ∧ (d.markBlank p slot v).psq = d.psq ∧
    (d.markBlank p slot v).image = d.image ∧ (d.markBlank p slot v).engine = d.engine ∧ (d.markBlank p slot v).scan = d.scan ∧ (d.markBlank p slot v).journal = d.journal ∧
    (d.markBlank p slot v).plan = d.plan ∧ (d.markBlank p slot v).arbiter = d.arbiter ∧ (d.markBlank p slot v).tmb = d.tmb ∧ (d.markBlank p slot v).link = d.link ∧
    (d.markBlank p slot v).freeCount = d.freeCount := by
  simp [Dev.markBlank]

@[simp] theorem Dev.modImage_frame (p : Pocket) (f : Image → Image) (d : Dev) :
    (d.modImage p f).pins = d.pins ∧ (d.modImage p f).bkd = d.bkd ∧ (d.modImage p f).run = d.run ∧ (d.modImage p f).settle = d.settle ∧
    (d.modImage p f).reserve = d.reserve ∧ (d.modImage p f).adc = d.adc ∧ (d.modImage p f).faults = d.faults ∧ (d.modImage p f).sns = d.sns ∧ (d.modImage p f).psq = d.psq ∧
    (d.modImage p f).engine = d.engine ∧ (d.modImage p f).ring = d.ring ∧ (d.modImage p f).scan = d.scan ∧ (d.modImage p f).journal = d.journal ∧
    (d.modImage p f).plan = d.plan ∧ (d.modImage p f).arbiter = d.arbiter ∧ (d.modImage p f).tmb = d.tmb ∧ (d.modImage p f).link = d.link ∧
    (d.modImage p f).freeCount = d.freeCount := by
  simp [Dev.modImage]

@[simp] theorem Dev.writeBody_frame (p : Pocket) (f : Body → Body) (d : Dev) :
    (d.writeBody p f).pins = d.pins ∧ (d.writeBody p f).bkd = d.bkd ∧ (d.writeBody p f).run = d.run ∧ (d.writeBody p f).settle = d.settle ∧
    (d.writeBody p f).reserve = d.reserve ∧ (d.writeBody p f).adc = d.adc ∧ (d.writeBody p f).faults = d.faults ∧ (d.writeBody p f).sns = d.sns ∧ (d.writeBody p f).psq = d.psq ∧
    (d.writeBody p f).engine = d.engine ∧ (d.writeBody p f).ring = d.ring ∧ (d.writeBody p f).scan = d.scan ∧ (d.writeBody p f).journal = d.journal ∧
    (d.writeBody p f).plan = d.plan ∧ (d.writeBody p f).arbiter = d.arbiter ∧ (d.writeBody p f).tmb = d.tmb ∧ (d.writeBody p f).link = d.link ∧
    (d.writeBody p f).freeCount = d.freeCount := by
  simp [Dev.writeBody]

@[simp] theorem Dev.trigger_frame (p : Pocket) (kind : Kind) (reason : Option CloseReason) (d : Dev) :
    (d.trigger p kind reason).pins = d.pins ∧ (d.trigger p kind reason).bkd = d.bkd ∧ (d.trigger p kind reason).run = d.run ∧ (d.trigger p kind reason).settle = d.settle ∧
    (d.trigger p kind reason).reserve = d.reserve ∧ (d.trigger p kind reason).adc = d.adc ∧ (d.trigger p kind reason).faults = d.faults ∧ (d.trigger p kind reason).sns = d.sns ∧ (d.trigger p kind reason).psq = d.psq ∧
    (d.trigger p kind reason).ring = d.ring ∧ (d.trigger p kind reason).scan = d.scan ∧ (d.trigger p kind reason).journal = d.journal ∧ (d.trigger p kind reason).plan = d.plan ∧
    (d.trigger p kind reason).arbiter = d.arbiter ∧ (d.trigger p kind reason).tmb = d.tmb ∧ (d.trigger p kind reason).link = d.link ∧ (d.trigger p kind reason).freeCount = d.freeCount := by
  unfold Dev.trigger; (repeat' split) <;> simp

@[simp] theorem Dev.rebuildForClosure_frame (p : Pocket) (d : Dev) :
    (d.rebuildForClosure p).pins = d.pins ∧ (d.rebuildForClosure p).bkd = d.bkd ∧ (d.rebuildForClosure p).run = d.run ∧ (d.rebuildForClosure p).settle = d.settle ∧
    (d.rebuildForClosure p).reserve = d.reserve ∧ (d.rebuildForClosure p).adc = d.adc ∧ (d.rebuildForClosure p).faults = d.faults ∧ (d.rebuildForClosure p).sns = d.sns ∧ (d.rebuildForClosure p).psq = d.psq ∧
    (d.rebuildForClosure p).engine = d.engine ∧ (d.rebuildForClosure p).ring = d.ring ∧ (d.rebuildForClosure p).scan = d.scan ∧ (d.rebuildForClosure p).journal = d.journal ∧
    (d.rebuildForClosure p).plan = d.plan ∧ (d.rebuildForClosure p).arbiter = d.arbiter ∧ (d.rebuildForClosure p).tmb = d.tmb ∧ (d.rebuildForClosure p).link = d.link ∧
    (d.rebuildForClosure p).freeCount = d.freeCount := by
  simp only [Dev.rebuildForClosure]; (repeat' split) <;> simp

@[simp] theorem Dev.rebuildForResumption_frame (p : Pocket) (c : Choice) (d : Dev) :
    (d.rebuildForResumption p c).pins = d.pins ∧ (d.rebuildForResumption p c).bkd = d.bkd ∧ (d.rebuildForResumption p c).run = d.run ∧ (d.rebuildForResumption p c).settle = d.settle ∧
    (d.rebuildForResumption p c).reserve = d.reserve ∧ (d.rebuildForResumption p c).adc = d.adc ∧ (d.rebuildForResumption p c).faults = d.faults ∧ (d.rebuildForResumption p c).sns = d.sns ∧ (d.rebuildForResumption p c).psq = d.psq ∧
    (d.rebuildForResumption p c).engine = d.engine ∧ (d.rebuildForResumption p c).ring = d.ring ∧ (d.rebuildForResumption p c).scan = d.scan ∧ (d.rebuildForResumption p c).journal = d.journal ∧
    (d.rebuildForResumption p c).plan = d.plan ∧ (d.rebuildForResumption p c).arbiter = d.arbiter ∧ (d.rebuildForResumption p c).tmb = d.tmb ∧ (d.rebuildForResumption p c).link = d.link ∧
    (d.rebuildForResumption p c).freeCount = d.freeCount := by
  simp only [Dev.rebuildForResumption]; (repeat' split) <;> simp

@[simp] theorem Dev.releaseFacts_frame (p : Pocket) (d : Dev) :
    (d.releaseFacts p).pins = d.pins ∧ (d.releaseFacts p).run = d.run ∧ (d.releaseFacts p).settle = d.settle ∧ (d.releaseFacts p).reserve = d.reserve ∧ (d.releaseFacts p).adc = d.adc ∧
    (d.releaseFacts p).faults = d.faults ∧ (d.releaseFacts p).sns = d.sns ∧ (d.releaseFacts p).psq = d.psq ∧ (d.releaseFacts p).image = d.image ∧
    (d.releaseFacts p).engine = d.engine ∧ (d.releaseFacts p).ring = d.ring ∧ (d.releaseFacts p).scan = d.scan ∧ (d.releaseFacts p).journal = d.journal ∧
    (d.releaseFacts p).plan = d.plan ∧ (d.releaseFacts p).arbiter = d.arbiter ∧ (d.releaseFacts p).tmb = d.tmb ∧ (d.releaseFacts p).link = d.link ∧
    (d.releaseFacts p).freeCount = d.freeCount := by
  simp [Dev.releaseFacts]

@[simp] theorem Dev.stopTumbler_frame (p : Pocket) (d : Dev) :
    (d.stopTumbler p).pins = d.pins ∧ (d.stopTumbler p).bkd = d.bkd ∧ (d.stopTumbler p).run = d.run ∧ (d.stopTumbler p).settle = d.settle ∧
    (d.stopTumbler p).reserve = d.reserve ∧ (d.stopTumbler p).adc = d.adc ∧ (d.stopTumbler p).faults = d.faults ∧ (d.stopTumbler p).sns = d.sns ∧ (d.stopTumbler p).psq = d.psq ∧
    (d.stopTumbler p).image = d.image ∧ (d.stopTumbler p).engine = d.engine ∧ (d.stopTumbler p).ring = d.ring ∧ (d.stopTumbler p).scan = d.scan ∧
    (d.stopTumbler p).journal = d.journal ∧ (d.stopTumbler p).plan = d.plan ∧ (d.stopTumbler p).arbiter = d.arbiter ∧ (d.stopTumbler p).link = d.link ∧
    (d.stopTumbler p).freeCount = d.freeCount := by
  simp [Dev.stopTumbler]

@[simp] theorem Dev.startTumbler_frame (p : Pocket) (g : GuardProgram) (n : Nat) (d : Dev) :
    (d.startTumbler p g n).pins = d.pins ∧ (d.startTumbler p g n).bkd = d.bkd ∧ (d.startTumbler p g n).run = d.run ∧ (d.startTumbler p g n).settle = d.settle ∧
    (d.startTumbler p g n).reserve = d.reserve ∧ (d.startTumbler p g n).adc = d.adc ∧ (d.startTumbler p g n).faults = d.faults ∧ (d.startTumbler p g n).sns = d.sns ∧ (d.startTumbler p g n).psq = d.psq ∧
    (d.startTumbler p g n).image = d.image ∧ (d.startTumbler p g n).engine = d.engine ∧ (d.startTumbler p g n).ring = d.ring ∧ (d.startTumbler p g n).scan = d.scan ∧
    (d.startTumbler p g n).journal = d.journal ∧ (d.startTumbler p g n).plan = d.plan ∧ (d.startTumbler p g n).arbiter = d.arbiter ∧ (d.startTumbler p g n).link = d.link ∧
    (d.startTumbler p g n).freeCount = d.freeCount := by
  simp only [Dev.startTumbler]; (repeat' split) <;> simp

@[simp] theorem Dev.mapTumblers_frame (f : Tumbler → Tumbler) (d : Dev) :
    (d.mapTumblers f).pins = d.pins ∧ (d.mapTumblers f).bkd = d.bkd ∧ (d.mapTumblers f).run = d.run ∧ (d.mapTumblers f).settle = d.settle ∧
    (d.mapTumblers f).reserve = d.reserve ∧ (d.mapTumblers f).adc = d.adc ∧ (d.mapTumblers f).faults = d.faults ∧ (d.mapTumblers f).sns = d.sns ∧ (d.mapTumblers f).psq = d.psq ∧
    (d.mapTumblers f).image = d.image ∧ (d.mapTumblers f).engine = d.engine ∧ (d.mapTumblers f).ring = d.ring ∧ (d.mapTumblers f).scan = d.scan ∧
    (d.mapTumblers f).journal = d.journal ∧ (d.mapTumblers f).plan = d.plan ∧ (d.mapTumblers f).arbiter = d.arbiter ∧ (d.mapTumblers f).link = d.link ∧
    (d.mapTumblers f).freeCount = d.freeCount := by
  simp [Dev.mapTumblers]

@[simp] theorem Dev.stopTumblers_frame (d : Dev) :
    (d.stopTumblers).pins = d.pins ∧ (d.stopTumblers).bkd = d.bkd ∧ (d.stopTumblers).run = d.run ∧ (d.stopTumblers).settle = d.settle ∧
    (d.stopTumblers).reserve = d.reserve ∧ (d.stopTumblers).adc = d.adc ∧ (d.stopTumblers).faults = d.faults ∧ (d.stopTumblers).sns = d.sns ∧ (d.stopTumblers).psq = d.psq ∧
    (d.stopTumblers).image = d.image ∧ (d.stopTumblers).engine = d.engine ∧ (d.stopTumblers).ring = d.ring ∧ (d.stopTumblers).scan = d.scan ∧
    (d.stopTumblers).journal = d.journal ∧ (d.stopTumblers).plan = d.plan ∧ (d.stopTumblers).arbiter = d.arbiter ∧ (d.stopTumblers).link = d.link ∧
    (d.stopTumblers).freeCount = d.freeCount := by
  simp [Dev.stopTumblers]

@[simp] theorem Dev.closureEffect_frame (p : Pocket) (r : Result) (d : Dev) :
    (d.closureEffect p r).pins = d.pins ∧ (d.closureEffect p r).run = d.run ∧ (d.closureEffect p r).settle = d.settle ∧ (d.closureEffect p r).reserve = d.reserve ∧ (d.closureEffect p r).adc = d.adc ∧
    (d.closureEffect p r).faults = d.faults ∧ (d.closureEffect p r).sns = d.sns ∧ (d.closureEffect p r).engine = d.engine ∧ (d.closureEffect p r).ring = d.ring ∧
    (d.closureEffect p r).scan = d.scan ∧ (d.closureEffect p r).journal = d.journal ∧ (d.closureEffect p r).plan = d.plan ∧ (d.closureEffect p r).arbiter = d.arbiter ∧
    (d.closureEffect p r).tmb = d.tmb ∧ (d.closureEffect p r).freeCount = d.freeCount := by
  simp only [Dev.closureEffect]; (repeat' split) <;> simp

@[simp] theorem Dev.startupClosureEnds_frame (p : Pocket) (d : Dev) :
    (d.startupClosureEnds p).pins = d.pins ∧ (d.startupClosureEnds p).bkd = d.bkd ∧ (d.startupClosureEnds p).run = d.run ∧ (d.startupClosureEnds p).settle = d.settle ∧
    (d.startupClosureEnds p).reserve = d.reserve ∧ (d.startupClosureEnds p).adc = d.adc ∧ (d.startupClosureEnds p).faults = d.faults ∧ (d.startupClosureEnds p).sns = d.sns ∧ (d.startupClosureEnds p).engine = d.engine ∧
    (d.startupClosureEnds p).ring = d.ring ∧ (d.startupClosureEnds p).scan = d.scan ∧ (d.startupClosureEnds p).journal = d.journal ∧ (d.startupClosureEnds p).plan = d.plan ∧
    (d.startupClosureEnds p).arbiter = d.arbiter ∧ (d.startupClosureEnds p).tmb = d.tmb ∧ (d.startupClosureEnds p).link = d.link ∧ (d.startupClosureEnds p).freeCount = d.freeCount := by
  simp [Dev.startupClosureEnds]

@[simp] theorem Dev.finishClosure_frame (p : Pocket) (r : Result) (d : Dev) :
    (d.finishClosure p r).pins = d.pins ∧ (d.finishClosure p r).run = d.run ∧ (d.finishClosure p r).settle = d.settle ∧ (d.finishClosure p r).reserve = d.reserve ∧ (d.finishClosure p r).adc = d.adc ∧
    (d.finishClosure p r).faults = d.faults ∧ (d.finishClosure p r).sns = d.sns ∧ (d.finishClosure p r).engine = d.engine ∧ (d.finishClosure p r).ring = d.ring ∧
    (d.finishClosure p r).scan = d.scan ∧ (d.finishClosure p r).journal = d.journal ∧ (d.finishClosure p r).plan = d.plan ∧ (d.finishClosure p r).arbiter = d.arbiter ∧
    (d.finishClosure p r).tmb = d.tmb ∧ (d.finishClosure p r).freeCount = d.freeCount := by
  simp only [Dev.finishClosure]; (repeat' split) <;> simp

@[simp] theorem Dev.leaveGrantQueue_frame (p : Pocket) (d : Dev) :
    (d.leaveGrantQueue p).pins = d.pins ∧ (d.leaveGrantQueue p).bkd = d.bkd ∧ (d.leaveGrantQueue p).run = d.run ∧ (d.leaveGrantQueue p).settle = d.settle ∧
    (d.leaveGrantQueue p).reserve = d.reserve ∧ (d.leaveGrantQueue p).adc = d.adc ∧ (d.leaveGrantQueue p).faults = d.faults ∧ (d.leaveGrantQueue p).sns = d.sns ∧ (d.leaveGrantQueue p).psq = d.psq ∧
    (d.leaveGrantQueue p).image = d.image ∧ (d.leaveGrantQueue p).engine = d.engine ∧ (d.leaveGrantQueue p).ring = d.ring ∧ (d.leaveGrantQueue p).scan = d.scan ∧
    (d.leaveGrantQueue p).journal = d.journal ∧ (d.leaveGrantQueue p).plan = d.plan ∧ (d.leaveGrantQueue p).tmb = d.tmb ∧ (d.leaveGrantQueue p).link = d.link ∧
    (d.leaveGrantQueue p).freeCount = d.freeCount := by
  simp [Dev.leaveGrantQueue]

@[simp] theorem Dev.decideClosure_frame (p : Pocket) (r : CloseReason) (d : Dev) :
    (d.decideClosure p r).pins = d.pins ∧ (d.decideClosure p r).run = d.run ∧ (d.decideClosure p r).settle = d.settle ∧ (d.decideClosure p r).reserve = d.reserve ∧ (d.decideClosure p r).adc = d.adc ∧
    (d.decideClosure p r).faults = d.faults ∧ (d.decideClosure p r).sns = d.sns ∧ (d.decideClosure p r).ring = d.ring ∧ (d.decideClosure p r).scan = d.scan ∧
    (d.decideClosure p r).journal = d.journal ∧ (d.decideClosure p r).plan = d.plan ∧ (d.decideClosure p r).arbiter = d.arbiter ∧ (d.decideClosure p r).freeCount = d.freeCount := by
  simp only [Dev.decideClosure]; (repeat' split) <;> simp

@[simp] theorem Dev.closeWaiting_frame (p : Pocket) (r : CloseReason) (d : Dev) :
    (d.closeWaiting p r).pins = d.pins ∧ (d.closeWaiting p r).run = d.run ∧ (d.closeWaiting p r).settle = d.settle ∧ (d.closeWaiting p r).reserve = d.reserve ∧ (d.closeWaiting p r).adc = d.adc ∧
    (d.closeWaiting p r).faults = d.faults ∧ (d.closeWaiting p r).sns = d.sns ∧ (d.closeWaiting p r).ring = d.ring ∧ (d.closeWaiting p r).scan = d.scan ∧
    (d.closeWaiting p r).journal = d.journal ∧ (d.closeWaiting p r).plan = d.plan ∧ (d.closeWaiting p r).freeCount = d.freeCount := by
  simp [Dev.closeWaiting]

@[simp] theorem Dev.enterAnticrease_frame (p : Pocket) (g : GuardProgram) (n : Nat) (d : Dev) :
    (d.enterAnticrease p g n).pins = d.pins ∧ (d.enterAnticrease p g n).run = d.run ∧ (d.enterAnticrease p g n).settle = d.settle ∧ (d.enterAnticrease p g n).reserve = d.reserve ∧ (d.enterAnticrease p g n).adc = d.adc ∧
    (d.enterAnticrease p g n).faults = d.faults ∧ (d.enterAnticrease p g n).sns = d.sns ∧ (d.enterAnticrease p g n).ring = d.ring ∧ (d.enterAnticrease p g n).scan = d.scan ∧
    (d.enterAnticrease p g n).journal = d.journal ∧ (d.enterAnticrease p g n).plan = d.plan ∧ (d.enterAnticrease p g n).arbiter = d.arbiter ∧ (d.enterAnticrease p g n).freeCount = d.freeCount := by
  simp only [Dev.enterAnticrease]; (repeat' split) <;> simp

@[simp] theorem Dev.leaveWaitstart_frame (p : Pocket) (c : Choice) (ph : Phase) (d : Dev) :
    (d.leaveWaitstart p c ph).pins = d.pins ∧ (d.leaveWaitstart p c ph).run = d.run ∧ (d.leaveWaitstart p c ph).settle = d.settle ∧ (d.leaveWaitstart p c ph).reserve = d.reserve ∧ (d.leaveWaitstart p c ph).adc = d.adc ∧
    (d.leaveWaitstart p c ph).faults = d.faults ∧ (d.leaveWaitstart p c ph).sns = d.sns ∧ (d.leaveWaitstart p c ph).ring = d.ring ∧ (d.leaveWaitstart p c ph).scan = d.scan ∧
    (d.leaveWaitstart p c ph).journal = d.journal ∧ (d.leaveWaitstart p c ph).plan = d.plan ∧ (d.leaveWaitstart p c ph).arbiter = d.arbiter ∧ (d.leaveWaitstart p c ph).freeCount = d.freeCount := by
  simp only [Dev.leaveWaitstart]; (repeat' split) <;> simp

@[simp] theorem Dev.startTest_frame (p : Pocket) (d : Dev) :
    (d.startTest p).pins = d.pins ∧ (d.startTest p).run = d.run ∧ (d.startTest p).settle = d.settle ∧ (d.startTest p).reserve = d.reserve ∧ (d.startTest p).adc = d.adc ∧
    (d.startTest p).faults = d.faults ∧ (d.startTest p).sns = d.sns ∧ (d.startTest p).ring = d.ring ∧ (d.startTest p).scan = d.scan ∧
    (d.startTest p).journal = d.journal ∧ (d.startTest p).plan = d.plan ∧ (d.startTest p).arbiter = d.arbiter ∧ (d.startTest p).freeCount = d.freeCount := by
  simp only [Dev.startTest]; (repeat' split) <;> simp

@[simp] theorem Dev.startTests_frame (d : Dev) :
    (d.startTests).pins = d.pins ∧ (d.startTests).run = d.run ∧ (d.startTests).settle = d.settle ∧ (d.startTests).reserve = d.reserve ∧ (d.startTests).adc = d.adc ∧
    (d.startTests).faults = d.faults ∧ (d.startTests).sns = d.sns ∧ (d.startTests).ring = d.ring ∧ (d.startTests).scan = d.scan ∧
    (d.startTests).journal = d.journal ∧ (d.startTests).plan = d.plan ∧ (d.startTests).arbiter = d.arbiter ∧ (d.startTests).freeCount = d.freeCount := by
  simp [Dev.startTests]

end Sys2Proof.Machine
end

