-- ==== Sys2Proof/Laws/EngineFrames.lean ====
section
/-! SUPPORT. What the operations of Machine/Engine.lean leave unchanged: for each, every field of the part that it does not touch. -/

namespace Sys2Proof.Machine

@[simp] theorem Dev.startOperation_frame (op : Operation) (d : Dev) :
    (d.startOperation op).pins = d.pins ∧ (d.startOperation op).bkd = d.bkd ∧ (d.startOperation op).run = d.run ∧ (d.startOperation op).settle = d.settle ∧
    (d.startOperation op).reserve = d.reserve ∧ (d.startOperation op).adc = d.adc ∧ (d.startOperation op).faults = d.faults ∧ (d.startOperation op).sns = d.sns ∧ (d.startOperation op).psq = d.psq ∧
    (d.startOperation op).image = d.image ∧ (d.startOperation op).ring = d.ring ∧ (d.startOperation op).scan = d.scan ∧ (d.startOperation op).journal = d.journal ∧
    (d.startOperation op).plan = d.plan ∧ (d.startOperation op).arbiter = d.arbiter ∧ (d.startOperation op).tmb = d.tmb ∧ (d.startOperation op).link = d.link ∧
    (d.startOperation op).freeCount = d.freeCount := by
  simp [Dev.startOperation]

@[simp] theorem Dev.setService_frame (v : Option Service) (d : Dev) :
    (d.setService v).pins = d.pins ∧ (d.setService v).bkd = d.bkd ∧ (d.setService v).run = d.run ∧ (d.setService v).settle = d.settle ∧
    (d.setService v).reserve = d.reserve ∧ (d.setService v).adc = d.adc ∧ (d.setService v).faults = d.faults ∧ (d.setService v).sns = d.sns ∧ (d.setService v).psq = d.psq ∧
    (d.setService v).image = d.image ∧ (d.setService v).ring = d.ring ∧ (d.setService v).scan = d.scan ∧ (d.setService v).journal = d.journal ∧
    (d.setService v).plan = d.plan ∧ (d.setService v).arbiter = d.arbiter ∧ (d.setService v).tmb = d.tmb ∧ (d.setService v).link = d.link ∧
    (d.setService v).freeCount = d.freeCount := by
  simp [Dev.setService]

@[simp] theorem Dev.endOperation_frame (d : Dev) :
    (d.endOperation).pins = d.pins ∧ (d.endOperation).bkd = d.bkd ∧ (d.endOperation).run = d.run ∧ (d.endOperation).settle = d.settle ∧
    (d.endOperation).reserve = d.reserve ∧ (d.endOperation).adc = d.adc ∧ (d.endOperation).faults = d.faults ∧ (d.endOperation).sns = d.sns ∧ (d.endOperation).psq = d.psq ∧
    (d.endOperation).image = d.image ∧ (d.endOperation).ring = d.ring ∧ (d.endOperation).scan = d.scan ∧ (d.endOperation).journal = d.journal ∧
    (d.endOperation).plan = d.plan ∧ (d.endOperation).arbiter = d.arbiter ∧ (d.endOperation).tmb = d.tmb ∧ (d.endOperation).link = d.link ∧
    (d.endOperation).freeCount = d.freeCount := by
  simp [Dev.endOperation]

@[simp] theorem Dev.writeSnapshot_frame (p : Pocket) (snap : Snapshot) (d : Dev) :
    (d.writeSnapshot p snap).pins = d.pins ∧ (d.writeSnapshot p snap).bkd = d.bkd ∧ (d.writeSnapshot p snap).run = d.run ∧ (d.writeSnapshot p snap).settle = d.settle ∧
    (d.writeSnapshot p snap).reserve = d.reserve ∧ (d.writeSnapshot p snap).adc = d.adc ∧ (d.writeSnapshot p snap).faults = d.faults ∧ (d.writeSnapshot p snap).sns = d.sns ∧ (d.writeSnapshot p snap).psq = d.psq ∧
    (d.writeSnapshot p snap).image = d.image ∧ (d.writeSnapshot p snap).scan = d.scan ∧ (d.writeSnapshot p snap).journal = d.journal ∧ (d.writeSnapshot p snap).plan = d.plan ∧
    (d.writeSnapshot p snap).arbiter = d.arbiter ∧ (d.writeSnapshot p snap).tmb = d.tmb ∧ (d.writeSnapshot p snap).link = d.link ∧ (d.writeSnapshot p snap).freeCount = d.freeCount := by
  simp [Dev.writeSnapshot]

@[simp] theorem Dev.writeStart_frame (v : Service) (d : Dev) :
    (d.writeStart v).pins = d.pins ∧ (d.writeStart v).bkd = d.bkd ∧ (d.writeStart v).run = d.run ∧ (d.writeStart v).settle = d.settle ∧
    (d.writeStart v).reserve = d.reserve ∧ (d.writeStart v).adc = d.adc ∧ (d.writeStart v).faults = d.faults ∧ (d.writeStart v).sns = d.sns ∧ (d.writeStart v).psq = d.psq ∧
    (d.writeStart v).scan = d.scan ∧ (d.writeStart v).journal = d.journal ∧ (d.writeStart v).plan = d.plan ∧ (d.writeStart v).arbiter = d.arbiter ∧
    (d.writeStart v).tmb = d.tmb ∧ (d.writeStart v).link = d.link ∧ (d.writeStart v).freeCount = d.freeCount := by
  unfold Dev.writeStart; (repeat' split) <;> simp

@[simp] theorem Dev.serve_frame (v : Service) (d : Dev) :
    (d.serve v).pins = d.pins ∧ (d.serve v).bkd = d.bkd ∧ (d.serve v).run = d.run ∧ (d.serve v).settle = d.settle ∧
    (d.serve v).reserve = d.reserve ∧ (d.serve v).adc = d.adc ∧ (d.serve v).faults = d.faults ∧ (d.serve v).sns = d.sns ∧ (d.serve v).psq = d.psq ∧
    (d.serve v).scan = d.scan ∧ (d.serve v).journal = d.journal ∧ (d.serve v).plan = d.plan ∧ (d.serve v).arbiter = d.arbiter ∧
    (d.serve v).tmb = d.tmb ∧ (d.serve v).link = d.link ∧ (d.serve v).freeCount = d.freeCount := by
  simp only [Dev.serve]; (repeat' split) <;> simp

@[simp] theorem Dev.finishFormat_frame (p : Pocket) (failed : Bool) (d : Dev) :
    (d.finishFormat p failed).pins = d.pins ∧ (d.finishFormat p failed).bkd = d.bkd ∧ (d.finishFormat p failed).run = d.run ∧ (d.finishFormat p failed).settle = d.settle ∧
    (d.finishFormat p failed).reserve = d.reserve ∧ (d.finishFormat p failed).adc = d.adc ∧ (d.finishFormat p failed).faults = d.faults ∧ (d.finishFormat p failed).sns = d.sns ∧ (d.finishFormat p failed).psq = d.psq ∧
    (d.finishFormat p failed).image = d.image ∧ (d.finishFormat p failed).scan = d.scan ∧ (d.finishFormat p failed).plan = d.plan ∧ (d.finishFormat p failed).arbiter = d.arbiter ∧
    (d.finishFormat p failed).tmb = d.tmb ∧ (d.finishFormat p failed).freeCount = d.freeCount := by
  simp only [Dev.finishFormat]; (repeat' split) <;> simp

@[simp] theorem Dev.updateFormat_frame (p : Pocket) (next : Fin 16) (failed : Bool) (d : Dev) :
    (d.updateFormat p next failed).pins = d.pins ∧ (d.updateFormat p next failed).bkd = d.bkd ∧ (d.updateFormat p next failed).run = d.run ∧ (d.updateFormat p next failed).settle = d.settle ∧
    (d.updateFormat p next failed).reserve = d.reserve ∧ (d.updateFormat p next failed).adc = d.adc ∧ (d.updateFormat p next failed).faults = d.faults ∧ (d.updateFormat p next failed).sns = d.sns ∧ (d.updateFormat p next failed).psq = d.psq ∧
    (d.updateFormat p next failed).image = d.image ∧ (d.updateFormat p next failed).ring = d.ring ∧ (d.updateFormat p next failed).scan = d.scan ∧ (d.updateFormat p next failed).journal = d.journal ∧
    (d.updateFormat p next failed).plan = d.plan ∧ (d.updateFormat p next failed).arbiter = d.arbiter ∧ (d.updateFormat p next failed).tmb = d.tmb ∧ (d.updateFormat p next failed).link = d.link ∧
    (d.updateFormat p next failed).freeCount = d.freeCount := by
  simp [Dev.updateFormat]

@[simp] theorem Dev.formatStep_frame (p : Pocket) (failed : Bool) (l : List (Fin 16)) (d : Dev) :
    (Dev.formatStep p failed l d).pins = d.pins ∧ (Dev.formatStep p failed l d).bkd = d.bkd ∧ (Dev.formatStep p failed l d).run = d.run ∧ (Dev.formatStep p failed l d).settle = d.settle ∧
    (Dev.formatStep p failed l d).reserve = d.reserve ∧ (Dev.formatStep p failed l d).adc = d.adc ∧ (Dev.formatStep p failed l d).faults = d.faults ∧ (Dev.formatStep p failed l d).sns = d.sns ∧ (Dev.formatStep p failed l d).psq = d.psq ∧
    (Dev.formatStep p failed l d).image = d.image ∧ (Dev.formatStep p failed l d).scan = d.scan ∧ (Dev.formatStep p failed l d).plan = d.plan ∧ (Dev.formatStep p failed l d).arbiter = d.arbiter ∧
    (Dev.formatStep p failed l d).tmb = d.tmb ∧ (Dev.formatStep p failed l d).freeCount = d.freeCount := by
  induction l generalizing d with
  | nil => simp [Dev.formatStep]
  | cons i l ih => unfold Dev.formatStep; split <;> simp [ih]

@[simp] theorem Dev.dequeue_frame (e : Entry) (d : Dev) :
    (d.dequeue e).pins = d.pins ∧ (d.dequeue e).bkd = d.bkd ∧ (d.dequeue e).run = d.run ∧ (d.dequeue e).settle = d.settle ∧
    (d.dequeue e).reserve = d.reserve ∧ (d.dequeue e).adc = d.adc ∧ (d.dequeue e).faults = d.faults ∧ (d.dequeue e).sns = d.sns ∧ (d.dequeue e).psq = d.psq ∧
    (d.dequeue e).image = d.image ∧ (d.dequeue e).ring = d.ring ∧ (d.dequeue e).scan = d.scan ∧ (d.dequeue e).journal = d.journal ∧
    (d.dequeue e).plan = d.plan ∧ (d.dequeue e).arbiter = d.arbiter ∧ (d.dequeue e).tmb = d.tmb ∧ (d.dequeue e).link = d.link ∧
    (d.dequeue e).freeCount = d.freeCount := by
  simp [Dev.dequeue]

@[simp] theorem Dev.selectBackground_frame (d : Dev) :
    (d.selectBackground).pins = d.pins ∧ (d.selectBackground).bkd = d.bkd ∧ (d.selectBackground).run = d.run ∧ (d.selectBackground).settle = d.settle ∧
    (d.selectBackground).reserve = d.reserve ∧ (d.selectBackground).adc = d.adc ∧ (d.selectBackground).faults = d.faults ∧ (d.selectBackground).sns = d.sns ∧ (d.selectBackground).psq = d.psq ∧
    (d.selectBackground).image = d.image ∧ (d.selectBackground).scan = d.scan ∧ (d.selectBackground).plan = d.plan ∧ (d.selectBackground).arbiter = d.arbiter ∧
    (d.selectBackground).tmb = d.tmb ∧ (d.selectBackground).freeCount = d.freeCount := by
  unfold Dev.selectBackground; (repeat' split) <;> simp

@[simp] theorem Dev.select_frame (d : Dev) :
    (d.select).pins = d.pins ∧ (d.select).bkd = d.bkd ∧ (d.select).run = d.run ∧ (d.select).settle = d.settle ∧
    (d.select).reserve = d.reserve ∧ (d.select).adc = d.adc ∧ (d.select).faults = d.faults ∧ (d.select).sns = d.sns ∧ (d.select).psq = d.psq ∧
    (d.select).scan = d.scan ∧ (d.select).plan = d.plan ∧ (d.select).arbiter = d.arbiter ∧ (d.select).tmb = d.tmb ∧
    (d.select).freeCount = d.freeCount := by
  unfold Dev.select; (repeat' split) <;> simp

@[simp] theorem Dev.skipCommit_frame (p : Pocket) (d : Dev) :
    (d.skipCommit p).pins = d.pins ∧ (d.skipCommit p).bkd = d.bkd ∧ (d.skipCommit p).run = d.run ∧ (d.skipCommit p).settle = d.settle ∧
    (d.skipCommit p).reserve = d.reserve ∧ (d.skipCommit p).adc = d.adc ∧ (d.skipCommit p).faults = d.faults ∧ (d.skipCommit p).sns = d.sns ∧ (d.skipCommit p).psq = d.psq ∧
    (d.skipCommit p).scan = d.scan ∧ (d.skipCommit p).journal = d.journal ∧ (d.skipCommit p).plan = d.plan ∧ (d.skipCommit p).arbiter = d.arbiter ∧
    (d.skipCommit p).tmb = d.tmb ∧ (d.skipCommit p).link = d.link ∧ (d.skipCommit p).freeCount = d.freeCount := by
  simp [Dev.skipCommit]

@[simp] theorem Dev.skipAll_frame (d : Dev) :
    (d.skipAll).pins = d.pins ∧ (d.skipAll).bkd = d.bkd ∧ (d.skipAll).run = d.run ∧ (d.skipAll).settle = d.settle ∧
    (d.skipAll).reserve = d.reserve ∧ (d.skipAll).adc = d.adc ∧ (d.skipAll).faults = d.faults ∧ (d.skipAll).sns = d.sns ∧ (d.skipAll).psq = d.psq ∧
    (d.skipAll).scan = d.scan ∧ (d.skipAll).journal = d.journal ∧ (d.skipAll).plan = d.plan ∧ (d.skipAll).arbiter = d.arbiter ∧
    (d.skipAll).tmb = d.tmb ∧ (d.skipAll).link = d.link ∧ (d.skipAll).freeCount = d.freeCount := by
  simp only [Dev.skipAll]; (repeat' split) <;> simp

@[simp] theorem Dev.lossSelect_frame (n : Nat) (d : Dev) :
    (Dev.lossSelect n d).pins = d.pins ∧ (Dev.lossSelect n d).bkd = d.bkd ∧ (Dev.lossSelect n d).run = d.run ∧ (Dev.lossSelect n d).settle = d.settle ∧
    (Dev.lossSelect n d).reserve = d.reserve ∧ (Dev.lossSelect n d).adc = d.adc ∧ (Dev.lossSelect n d).faults = d.faults ∧ (Dev.lossSelect n d).sns = d.sns ∧ (Dev.lossSelect n d).psq = d.psq ∧
    (Dev.lossSelect n d).scan = d.scan ∧ (Dev.lossSelect n d).journal = d.journal ∧ (Dev.lossSelect n d).plan = d.plan ∧ (Dev.lossSelect n d).arbiter = d.arbiter ∧
    (Dev.lossSelect n d).tmb = d.tmb ∧ (Dev.lossSelect n d).link = d.link ∧ (Dev.lossSelect n d).freeCount = d.freeCount := by
  induction n generalizing d with
  | zero => simp [Dev.lossSelect]
  | succ n ih => unfold Dev.lossSelect; (repeat' split) <;> simp [ih]

@[simp] theorem Dev.answerStart_frame (p : Pocket) (cycle : Nat) (seq : Word) (d : Dev) :
    (d.answerStart p cycle seq).pins = d.pins ∧ (d.answerStart p cycle seq).bkd = d.bkd ∧ (d.answerStart p cycle seq).run = d.run ∧ (d.answerStart p cycle seq).settle = d.settle ∧
    (d.answerStart p cycle seq).reserve = d.reserve ∧ (d.answerStart p cycle seq).adc = d.adc ∧ (d.answerStart p cycle seq).faults = d.faults ∧ (d.answerStart p cycle seq).sns = d.sns ∧ (d.answerStart p cycle seq).psq = d.psq ∧
    (d.answerStart p cycle seq).image = d.image ∧ (d.answerStart p cycle seq).engine = d.engine ∧ (d.answerStart p cycle seq).ring = d.ring ∧ (d.answerStart p cycle seq).scan = d.scan ∧
    (d.answerStart p cycle seq).journal = d.journal ∧ (d.answerStart p cycle seq).plan = d.plan ∧ (d.answerStart p cycle seq).arbiter = d.arbiter ∧ (d.answerStart p cycle seq).tmb = d.tmb ∧
    (d.answerStart p cycle seq).freeCount = d.freeCount := by
  simp only [Dev.answerStart]; (repeat' split) <;> simp

@[simp] theorem Dev.answerCheckpoint_frame (p : Pocket) (seq : Word) (d : Dev) :
    (d.answerCheckpoint p seq).pins = d.pins ∧ (d.answerCheckpoint p seq).bkd = d.bkd ∧ (d.answerCheckpoint p seq).run = d.run ∧ (d.answerCheckpoint p seq).settle = d.settle ∧
    (d.answerCheckpoint p seq).reserve = d.reserve ∧ (d.answerCheckpoint p seq).adc = d.adc ∧ (d.answerCheckpoint p seq).faults = d.faults ∧ (d.answerCheckpoint p seq).sns = d.sns ∧ (d.answerCheckpoint p seq).psq = d.psq ∧
    (d.answerCheckpoint p seq).image = d.image ∧ (d.answerCheckpoint p seq).engine = d.engine ∧ (d.answerCheckpoint p seq).ring = d.ring ∧ (d.answerCheckpoint p seq).scan = d.scan ∧
    (d.answerCheckpoint p seq).journal = d.journal ∧ (d.answerCheckpoint p seq).plan = d.plan ∧ (d.answerCheckpoint p seq).arbiter = d.arbiter ∧ (d.answerCheckpoint p seq).tmb = d.tmb ∧
    (d.answerCheckpoint p seq).freeCount = d.freeCount := by
  unfold Dev.answerCheckpoint; (repeat' split) <;> simp

@[simp] theorem Dev.recommit_frame (p : Pocket) (d : Dev) :
    (d.recommit p).pins = d.pins ∧ (d.recommit p).bkd = d.bkd ∧ (d.recommit p).run = d.run ∧ (d.recommit p).settle = d.settle ∧
    (d.recommit p).reserve = d.reserve ∧ (d.recommit p).adc = d.adc ∧ (d.recommit p).faults = d.faults ∧ (d.recommit p).sns = d.sns ∧ (d.recommit p).psq = d.psq ∧
    (d.recommit p).ring = d.ring ∧ (d.recommit p).scan = d.scan ∧ (d.recommit p).journal = d.journal ∧ (d.recommit p).plan = d.plan ∧
    (d.recommit p).arbiter = d.arbiter ∧ (d.recommit p).tmb = d.tmb ∧ (d.recommit p).link = d.link ∧ (d.recommit p).freeCount = d.freeCount := by
  unfold Dev.recommit; (repeat' split) <;> simp

@[simp] theorem Dev.imageCompleted_frame (p : Pocket) (snap : Snapshot) (d : Dev) :
    (d.imageCompleted p snap).pins = d.pins ∧ (d.imageCompleted p snap).bkd = d.bkd ∧ (d.imageCompleted p snap).run = d.run ∧ (d.imageCompleted p snap).settle = d.settle ∧
    (d.imageCompleted p snap).reserve = d.reserve ∧ (d.imageCompleted p snap).adc = d.adc ∧ (d.imageCompleted p snap).faults = d.faults ∧ (d.imageCompleted p snap).sns = d.sns ∧ (d.imageCompleted p snap).psq = d.psq ∧
    (d.imageCompleted p snap).ring = d.ring ∧ (d.imageCompleted p snap).scan = d.scan ∧ (d.imageCompleted p snap).journal = d.journal ∧ (d.imageCompleted p snap).plan = d.plan ∧
    (d.imageCompleted p snap).arbiter = d.arbiter ∧ (d.imageCompleted p snap).tmb = d.tmb ∧ (d.imageCompleted p snap).link = d.link ∧ (d.imageCompleted p snap).freeCount = d.freeCount := by
  simp [Dev.imageCompleted]

@[simp] theorem Dev.addHistory_frame (p : Pocket) (r : Record) (d : Dev) :
    (d.addHistory p r).pins = d.pins ∧ (d.addHistory p r).bkd = d.bkd ∧ (d.addHistory p r).run = d.run ∧ (d.addHistory p r).settle = d.settle ∧
    (d.addHistory p r).reserve = d.reserve ∧ (d.addHistory p r).adc = d.adc ∧ (d.addHistory p r).faults = d.faults ∧ (d.addHistory p r).sns = d.sns ∧ (d.addHistory p r).psq = d.psq ∧
    (d.addHistory p r).image = d.image ∧ (d.addHistory p r).engine = d.engine ∧ (d.addHistory p r).ring = d.ring ∧ (d.addHistory p r).scan = d.scan ∧
    (d.addHistory p r).plan = d.plan ∧ (d.addHistory p r).arbiter = d.arbiter ∧ (d.addHistory p r).tmb = d.tmb ∧ (d.addHistory p r).link = d.link ∧
    (d.addHistory p r).freeCount = d.freeCount := by
  simp [Dev.addHistory]

@[simp] theorem Dev.commitCompleted_frame (p : Pocket) (slot : Fin 16) (snap : Snapshot) (seq : Word) (b : Bool) (d : Dev) :
    (d.commitCompleted p slot snap seq b).pins = d.pins ∧ (d.commitCompleted p slot snap seq b).run = d.run ∧ (d.commitCompleted p slot snap seq b).settle = d.settle ∧ (d.commitCompleted p slot snap seq b).reserve = d.reserve ∧ (d.commitCompleted p slot snap seq b).adc = d.adc ∧
    (d.commitCompleted p slot snap seq b).faults = d.faults ∧ (d.commitCompleted p slot snap seq b).sns = d.sns ∧ (d.commitCompleted p slot snap seq b).scan = d.scan ∧ (d.commitCompleted p slot snap seq b).plan = d.plan ∧
    (d.commitCompleted p slot snap seq b).arbiter = d.arbiter ∧ (d.commitCompleted p slot snap seq b).tmb = d.tmb ∧ (d.commitCompleted p slot snap seq b).freeCount = d.freeCount := by
  simp only [Dev.commitCompleted]; (repeat' split) <;> simp

@[simp] theorem Dev.journalFail_frame (p : Pocket) (slot : Fin 16) (snap : Option Snapshot) (b : Bool) (d : Dev) :
    (d.journalFail p slot snap b).pins = d.pins ∧ (d.journalFail p slot snap b).run = d.run ∧ (d.journalFail p slot snap b).settle = d.settle ∧ (d.journalFail p slot snap b).reserve = d.reserve ∧ (d.journalFail p slot snap b).adc = d.adc ∧
    (d.journalFail p slot snap b).faults = d.faults ∧ (d.journalFail p slot snap b).sns = d.sns ∧ (d.journalFail p slot snap b).scan = d.scan ∧ (d.journalFail p slot snap b).journal = d.journal ∧
    (d.journalFail p slot snap b).plan = d.plan ∧ (d.journalFail p slot snap b).arbiter = d.arbiter ∧ (d.journalFail p slot snap b).tmb = d.tmb ∧ (d.journalFail p slot snap b).freeCount = d.freeCount := by
  simp only [Dev.journalFail]; (repeat' split) <;> simp

@[simp] theorem Dev.dropMark_frame (p : Pocket) (d : Dev) :
    (d.dropMark p).pins = d.pins ∧ (d.dropMark p).bkd = d.bkd ∧ (d.dropMark p).run = d.run ∧ (d.dropMark p).settle = d.settle ∧
    (d.dropMark p).reserve = d.reserve ∧ (d.dropMark p).adc = d.adc ∧ (d.dropMark p).faults = d.faults ∧ (d.dropMark p).sns = d.sns ∧ (d.dropMark p).engine = d.engine ∧
    (d.dropMark p).ring = d.ring ∧ (d.dropMark p).scan = d.scan ∧ (d.dropMark p).journal = d.journal ∧ (d.dropMark p).plan = d.plan ∧
    (d.dropMark p).arbiter = d.arbiter ∧ (d.dropMark p).tmb = d.tmb ∧ (d.dropMark p).link = d.link ∧ (d.dropMark p).freeCount = d.freeCount := by
  simp [Dev.dropMark]

@[simp] theorem Dev.endWithoutRecord_frame (p : Pocket) (kind : Kind) (d : Dev) :
    (d.endWithoutRecord p kind).pins = d.pins ∧ (d.endWithoutRecord p kind).bkd = d.bkd ∧ (d.endWithoutRecord p kind).run = d.run ∧ (d.endWithoutRecord p kind).settle = d.settle ∧
    (d.endWithoutRecord p kind).reserve = d.reserve ∧ (d.endWithoutRecord p kind).adc = d.adc ∧ (d.endWithoutRecord p kind).faults = d.faults ∧ (d.endWithoutRecord p kind).sns = d.sns ∧ (d.endWithoutRecord p kind).scan = d.scan ∧
    (d.endWithoutRecord p kind).journal = d.journal ∧ (d.endWithoutRecord p kind).plan = d.plan ∧ (d.endWithoutRecord p kind).arbiter = d.arbiter ∧ (d.endWithoutRecord p kind).tmb = d.tmb ∧
    (d.endWithoutRecord p kind).link = d.link ∧ (d.endWithoutRecord p kind).freeCount = d.freeCount := by
  simp only [Dev.endWithoutRecord]; (repeat' split) <;> simp

@[simp] theorem Dev.writeRetry_frame (p : Pocket) (slot : Fin 16) (d : Dev) :
    (d.writeRetry p slot).pins = d.pins ∧ (d.writeRetry p slot).bkd = d.bkd ∧ (d.writeRetry p slot).run = d.run ∧ (d.writeRetry p slot).settle = d.settle ∧
    (d.writeRetry p slot).reserve = d.reserve ∧ (d.writeRetry p slot).adc = d.adc ∧ (d.writeRetry p slot).faults = d.faults ∧ (d.writeRetry p slot).sns = d.sns ∧ (d.writeRetry p slot).image = d.image ∧
    (d.writeRetry p slot).scan = d.scan ∧ (d.writeRetry p slot).journal = d.journal ∧ (d.writeRetry p slot).plan = d.plan ∧ (d.writeRetry p slot).arbiter = d.arbiter ∧
    (d.writeRetry p slot).tmb = d.tmb ∧ (d.writeRetry p slot).freeCount = d.freeCount := by
  simp [Dev.writeRetry]

@[simp] theorem Dev.writeFailed_frame (p : Pocket) (slot : Fin 16) (snap : Snapshot) (b : Bool) (d : Dev) :
    (d.writeFailed p slot snap b).pins = d.pins ∧ (d.writeFailed p slot snap b).run = d.run ∧ (d.writeFailed p slot snap b).settle = d.settle ∧ (d.writeFailed p slot snap b).reserve = d.reserve ∧ (d.writeFailed p slot snap b).adc = d.adc ∧
    (d.writeFailed p slot snap b).faults = d.faults ∧ (d.writeFailed p slot snap b).sns = d.sns ∧ (d.writeFailed p slot snap b).scan = d.scan ∧ (d.writeFailed p slot snap b).journal = d.journal ∧
    (d.writeFailed p slot snap b).plan = d.plan ∧ (d.writeFailed p slot snap b).arbiter = d.arbiter ∧ (d.writeFailed p slot snap b).tmb = d.tmb ∧ (d.writeFailed p slot snap b).freeCount = d.freeCount := by
  simp only [Dev.writeFailed]; (repeat' split) <;> simp

@[simp] theorem Dev.formatSlotDone_frame (p : Pocket) (slot : Fin 16) (passed : Bool) (d : Dev) :
    (d.formatSlotDone p slot passed).pins = d.pins ∧ (d.formatSlotDone p slot passed).bkd = d.bkd ∧ (d.formatSlotDone p slot passed).run = d.run ∧ (d.formatSlotDone p slot passed).settle = d.settle ∧
    (d.formatSlotDone p slot passed).reserve = d.reserve ∧ (d.formatSlotDone p slot passed).adc = d.adc ∧ (d.formatSlotDone p slot passed).faults = d.faults ∧ (d.formatSlotDone p slot passed).sns = d.sns ∧ (d.formatSlotDone p slot passed).psq = d.psq ∧
    (d.formatSlotDone p slot passed).image = d.image ∧ (d.formatSlotDone p slot passed).scan = d.scan ∧ (d.formatSlotDone p slot passed).plan = d.plan ∧ (d.formatSlotDone p slot passed).arbiter = d.arbiter ∧
    (d.formatSlotDone p slot passed).tmb = d.tmb ∧ (d.formatSlotDone p slot passed).freeCount = d.freeCount := by
  unfold Dev.formatSlotDone; (repeat' split) <;> simp

@[simp] theorem Dev.targetEraseFailed_frame (p : Pocket) (slot : Fin 16) (d : Dev) :
    (d.targetEraseFailed p slot).pins = d.pins ∧ (d.targetEraseFailed p slot).run = d.run ∧ (d.targetEraseFailed p slot).settle = d.settle ∧ (d.targetEraseFailed p slot).reserve = d.reserve ∧ (d.targetEraseFailed p slot).adc = d.adc ∧
    (d.targetEraseFailed p slot).faults = d.faults ∧ (d.targetEraseFailed p slot).sns = d.sns ∧ (d.targetEraseFailed p slot).scan = d.scan ∧ (d.targetEraseFailed p slot).journal = d.journal ∧
    (d.targetEraseFailed p slot).plan = d.plan ∧ (d.targetEraseFailed p slot).arbiter = d.arbiter ∧ (d.targetEraseFailed p slot).tmb = d.tmb ∧ (d.targetEraseFailed p slot).freeCount = d.freeCount := by
  simp only [Dev.targetEraseFailed]; (repeat' split) <;> simp

@[simp] theorem Dev.targetErasePassed_frame (p : Pocket) (d : Dev) :
    (d.targetErasePassed p).pins = d.pins ∧ (d.targetErasePassed p).bkd = d.bkd ∧ (d.targetErasePassed p).run = d.run ∧ (d.targetErasePassed p).settle = d.settle ∧
    (d.targetErasePassed p).reserve = d.reserve ∧ (d.targetErasePassed p).adc = d.adc ∧ (d.targetErasePassed p).faults = d.faults ∧ (d.targetErasePassed p).sns = d.sns ∧ (d.targetErasePassed p).scan = d.scan ∧
    (d.targetErasePassed p).journal = d.journal ∧ (d.targetErasePassed p).plan = d.plan ∧ (d.targetErasePassed p).arbiter = d.arbiter ∧ (d.targetErasePassed p).tmb = d.tmb ∧
    (d.targetErasePassed p).link = d.link ∧ (d.targetErasePassed p).freeCount = d.freeCount := by
  simp only [Dev.targetErasePassed]; (repeat' split) <;> simp

@[simp] theorem Dev.eraseEnded_frame (p : Pocket) (slot : Fin 16) (u : ErasePurpose) (passed : Bool) (d : Dev) :
    (d.eraseEnded p slot u passed).pins = d.pins ∧ (d.eraseEnded p slot u passed).run = d.run ∧ (d.eraseEnded p slot u passed).settle = d.settle ∧ (d.eraseEnded p slot u passed).reserve = d.reserve ∧ (d.eraseEnded p slot u passed).adc = d.adc ∧
    (d.eraseEnded p slot u passed).faults = d.faults ∧ (d.eraseEnded p slot u passed).sns = d.sns ∧ (d.eraseEnded p slot u passed).scan = d.scan ∧ (d.eraseEnded p slot u passed).plan = d.plan ∧
    (d.eraseEnded p slot u passed).arbiter = d.arbiter ∧ (d.eraseEnded p slot u passed).tmb = d.tmb ∧ (d.eraseEnded p slot u passed).freeCount = d.freeCount := by
  unfold Dev.eraseEnded; (repeat' split) <;> simp

@[simp] theorem Dev.paramEnded_frame (m second : Bool) (age : Nat) (d : Dev) :
    (d.paramEnded m second age).pins = d.pins ∧ (d.paramEnded m second age).bkd = d.bkd ∧ (d.paramEnded m second age).run = d.run ∧ (d.paramEnded m second age).settle = d.settle ∧
    (d.paramEnded m second age).reserve = d.reserve ∧ (d.paramEnded m second age).adc = d.adc ∧ (d.paramEnded m second age).sns = d.sns ∧ (d.paramEnded m second age).psq = d.psq ∧ (d.paramEnded m second age).image = d.image ∧
    (d.paramEnded m second age).ring = d.ring ∧ (d.paramEnded m second age).scan = d.scan ∧ (d.paramEnded m second age).journal = d.journal ∧ (d.paramEnded m second age).plan = d.plan ∧
    (d.paramEnded m second age).arbiter = d.arbiter ∧ (d.paramEnded m second age).tmb = d.tmb ∧ (d.paramEnded m second age).freeCount = d.freeCount := by
  simp only [Dev.paramEnded]; (repeat' split) <;> simp

end Sys2Proof.Machine
end

