-- ==== Sys2Proof/Laws/Link.lean ====
section
/-! SUPPORT. A request that passes the checks of R164 reaches its owner: what every statement about an admitted request
starts from. -/

namespace Sys2Proof.Machine

/-- The conditions of `Admitted`, as one test. -/
def Dev.admits (d : Dev) (q : Request) (payload : List Byte) : Bool :=
  d.run == .run && !d.link.resetHold && decide (d.link.transmit.length + d.link.deferred.length < 10) &&
  decide (payload.length ≤ 56) && d.link.receiver.begins q.typeByte payload && q.lengthOk payload && (!q.namesPocket || (pocketOf payload).isSome) &&
  q.enumsOk payload && !d.duplicate q payload

theorem Dev.admits_iff (d : Dev) (q : Request) (payload : List Byte) :
    d.admits q payload = true ↔ Admitted q payload d := by
  constructor
  · intro h
    simp only [Dev.admits, Bool.and_eq_true, beq_iff_eq, decide_eq_true_eq, Bool.not_eq_true', Bool.or_eq_true] at h
    obtain ⟨⟨⟨⟨⟨⟨⟨⟨h1, h2⟩, h3⟩, h4⟩, hr⟩, h5⟩, h6⟩, h7⟩, h8⟩ := h
    exact ⟨h1, ⟨h2, h3⟩, h4, hr, h5, fun hp => h6.resolve_left (by simp [hp]), h7, h8⟩
  · intro h
    have h6 : (!q.namesPocket || (pocketOf payload).isSome) = true := by
      cases hp : q.namesPocket
      · rfl
      · simpa using h.pocket hp
    simp [Dev.admits, h.running, h.free.1, h.free.2, h.fits, h.receiving, h.length, h6, h.enums, h.fresh]

theorem Admitted.hears {q : Request} {payload : List Byte} {d : Dev} (h : Admitted q payload d) :
    d.hears q.typeByte payload = true := by
  have := h.fits
  simp [Dev.hears, Dev.powered, h.running, h.receiving, payloadTop, this]

/-- An admitted request is dispatched. -/
theorem Admitted.verdict {q : Request} {payload : List Byte} {d : Dev} (h : Admitted q payload d) :
    (d.setReceiver .hunting).verdict q payload = .dispatch := by
  have h1 : (d.setReceiver .hunting).link.drops = false := by
    have := h.free.2
    simp [Link.drops, Link.taken, replyRoom, Dev.setReceiver, h.free.1]
    omega
  have h2 : (q.namesPocket && (pocketOf payload).isNone) = false := by
    cases hp : q.namesPocket
    · rfl
    · simpa using h.pocket hp
  have h3 : (d.setReceiver .hunting).duplicate q payload = false := by
    simpa [Dev.duplicate, Dev.owed, Dev.setReceiver] using h.fresh
  have h4 : (d.setReceiver .hunting).run = .run := by simp [Dev.setReceiver, h.running]
  unfold Dev.verdict
  rw [h1, h.length, h2, h.enums, h3, h4]
  rfl

/-- An admitted request goes to its owner, which sees the receiver hunting. -/
theorem Admitted.serve {q : Request} {payload : List Byte} {d : Dev} (h : Admitted q payload d) (owner : Dev → Dev) :
    d.serveRequest q payload owner = owner (d.setReceiver .hunting) := by
  unfold Dev.serveRequest
  rw [if_pos h.hears]
  simp only [h.verdict]

/-- An admitted request that names a pocket goes to its owner for that pocket. -/
theorem Admitted.servePocket {q : Request} {payload : List Byte} {d : Dev} (h : Admitted q payload d) {p : Pocket}
    (hp : pocketOf payload = some p) (owner : Pocket → Dev → Dev) :
    d.servePocket q payload owner = owner p (d.setReceiver .hunting) := by
  rw [Dev.servePocket, h.serve, namedPocket, hp]

/-- An admitted request of a row is that row's command where its second byte is the row's. -/
theorem Admitted.serveRow {q : Request} {payload : List Byte} {d : Dev} (h : Admitted q payload d) {p : Pocket}
    (hp : pocketOf payload = some p) {mine : Nat → Bool} (hm : mine (secondByte payload) = true) (owner : Pocket → Dev → Dev) :
    d.serveRow q payload mine owner = owner p (d.setReceiver .hunting) := by
  rw [Dev.serveRow, hm]
  simpa using h.servePocket hp owner

/-- A refusal of a command that names a pocket is the reply of its result and pocket. -/
theorem Dev.refuse_pocket {q : Request} {payload : List Byte} {p : Pocket} (d : Dev) (r : Result)
    (hn : q.namesPocket = true) (hr : q ≠ .report) (hp : pocketOf payload = some p) :
    (d.setReceiver .hunting).refuse q payload r = d.replied q.replyType [r.byte, pocketIndexByte p] := by
  simp [Dev.refuse, Dev.refusal, hn, hr, namedPocket, hp, Dev.reply, Dev.send, Dev.replied, Dev.setReceiver, Dev.setLink,
    pocketReply]

end Sys2Proof.Machine
end

