-- ==== Sys2Proof/Laws/PlannerFrames.lean ====
section
/-! SUPPORT. What the operations of Machine/Planner.lean and Machine/Restore.lean leave unchanged: for each, every field of the part that it does not touch. -/

namespace Sys2Proof.Machine

@[simp] theorem Dev.awaitGuard_frame (p : Pocket) (pl : Plan) (d : Dev) :
    (d.awaitGuard p pl).pins = d.pins ∧ (d.awaitGuard p pl).bkd = d.bkd ∧ (d.awaitGuard p pl).run = d.run ∧ (d.awaitGuard p pl).settle = d.settle ∧
    (d.awaitGuard p pl).reserve = d.reserve ∧ (d.awaitGuard p pl).adc = d.adc ∧ (d.awaitGuard p pl).faults = d.faults ∧ (d.awaitGuard p pl).sns = d.sns ∧ (d.awaitGuard p pl).image = d.image ∧
    (d.awaitGuard p pl).engine = d.engine ∧ (d.awaitGuard p pl).ring = d.ring ∧ (d.awaitGuard p pl).scan = d.scan ∧ (d.awaitGuard p pl).journal = d.journal ∧
    (d.awaitGuard p pl).plan = d.plan ∧ (d.awaitGuard p pl).arbiter = d.arbiter ∧ (d.awaitGuard p pl).tmb = d.tmb ∧ (d.awaitGuard p pl).freeCount = d.freeCount := by
  simp [Dev.awaitGuard]

@[simp] theorem Dev.becomePlanned_frame (p : Pocket) (d : Dev) :
    (d.becomePlanned p).pins = d.pins ∧ (d.becomePlanned p).bkd = d.bkd ∧ (d.becomePlanned p).run = d.run ∧ (d.becomePlanned p).settle = d.settle ∧
    (d.becomePlanned p).reserve = d.reserve ∧ (d.becomePlanned p).adc = d.adc ∧ (d.becomePlanned p).faults = d.faults ∧ (d.becomePlanned p).sns = d.sns ∧ (d.becomePlanned p).image = d.image ∧
    (d.becomePlanned p).engine = d.engine ∧ (d.becomePlanned p).ring = d.ring ∧ (d.becomePlanned p).scan = d.scan ∧ (d.becomePlanned p).journal = d.journal ∧
    (d.becomePlanned p).plan = d.plan ∧ (d.becomePlanned p).arbiter = d.arbiter ∧ (d.becomePlanned p).tmb = d.tmb ∧ (d.becomePlanned p).freeCount = d.freeCount := by
  simp [Dev.becomePlanned]

@[simp] theorem Dev.actOnPlan_frame (p : Pocket) (pl : Plan) (d : Dev) :
    (d.actOnPlan p pl).pins = d.pins ∧ (d.actOnPlan p pl).run = d.run ∧ (d.actOnPlan p pl).settle = d.settle ∧ (d.actOnPlan p pl).reserve = d.reserve ∧ (d.actOnPlan p pl).adc = d.adc ∧
    (d.actOnPlan p pl).faults = d.faults ∧ (d.actOnPlan p pl).sns = d.sns ∧ (d.actOnPlan p pl).ring = d.ring ∧ (d.actOnPlan p pl).scan = d.scan ∧
    (d.actOnPlan p pl).journal = d.journal ∧ (d.actOnPlan p pl).plan = d.plan ∧ (d.actOnPlan p pl).freeCount = d.freeCount := by
  unfold Dev.actOnPlan; (repeat' split) <;> simp

@[simp] theorem Dev.recompute_frame (p : Pocket) (d : Dev) :
    (d.recompute p).pins = d.pins ∧ (d.recompute p).run = d.run ∧ (d.recompute p).settle = d.settle ∧ (d.recompute p).reserve = d.reserve ∧ (d.recompute p).adc = d.adc ∧
    (d.recompute p).faults = d.faults ∧ (d.recompute p).sns = d.sns ∧ (d.recompute p).ring = d.ring ∧ (d.recompute p).scan = d.scan ∧
    (d.recompute p).journal = d.journal ∧ (d.recompute p).freeCount = d.freeCount := by
  unfold Dev.recompute; (repeat' split) <;> simp

@[simp] theorem Dev.concludeRing_frame (p : Pocket) (d : Dev) :
    (d.concludeRing p).pins = d.pins ∧ (d.concludeRing p).bkd = d.bkd ∧ (d.concludeRing p).run = d.run ∧ (d.concludeRing p).settle = d.settle ∧
    (d.concludeRing p).reserve = d.reserve ∧ (d.concludeRing p).adc = d.adc ∧ (d.concludeRing p).faults = d.faults ∧ (d.concludeRing p).sns = d.sns ∧ (d.concludeRing p).image = d.image ∧
    (d.concludeRing p).engine = d.engine ∧ (d.concludeRing p).ring = d.ring ∧ (d.concludeRing p).scan = d.scan ∧ (d.concludeRing p).plan = d.plan ∧
    (d.concludeRing p).arbiter = d.arbiter ∧ (d.concludeRing p).tmb = d.tmb ∧ (d.concludeRing p).freeCount = d.freeCount := by
  simp only [Dev.concludeRing]; (repeat' split) <;> simp

@[simp] theorem Dev.handOffRing_frame (p : Pocket) (d : Dev) :
    (d.handOffRing p).pins = d.pins ∧ (d.handOffRing p).bkd = d.bkd ∧ (d.handOffRing p).run = d.run ∧ (d.handOffRing p).settle = d.settle ∧
    (d.handOffRing p).reserve = d.reserve ∧ (d.handOffRing p).adc = d.adc ∧ (d.handOffRing p).faults = d.faults ∧ (d.handOffRing p).sns = d.sns ∧ (d.handOffRing p).psq = d.psq ∧
    (d.handOffRing p).image = d.image ∧ (d.handOffRing p).engine = d.engine ∧ (d.handOffRing p).scan = d.scan ∧ (d.handOffRing p).journal = d.journal ∧
    (d.handOffRing p).plan = d.plan ∧ (d.handOffRing p).arbiter = d.arbiter ∧ (d.handOffRing p).tmb = d.tmb ∧ (d.handOffRing p).link = d.link ∧
    (d.handOffRing p).freeCount = d.freeCount := by
  simp [Dev.handOffRing]

@[simp] theorem Dev.askScanErases_frame (p : Pocket) (d : Dev) :
    (d.askScanErases p).pins = d.pins ∧ (d.askScanErases p).bkd = d.bkd ∧ (d.askScanErases p).run = d.run ∧ (d.askScanErases p).settle = d.settle ∧
    (d.askScanErases p).reserve = d.reserve ∧ (d.askScanErases p).adc = d.adc ∧ (d.askScanErases p).faults = d.faults ∧ (d.askScanErases p).sns = d.sns ∧ (d.askScanErases p).psq = d.psq ∧
    (d.askScanErases p).image = d.image ∧ (d.askScanErases p).ring = d.ring ∧ (d.askScanErases p).scan = d.scan ∧ (d.askScanErases p).journal = d.journal ∧
    (d.askScanErases p).plan = d.plan ∧ (d.askScanErases p).arbiter = d.arbiter ∧ (d.askScanErases p).tmb = d.tmb ∧ (d.askScanErases p).link = d.link ∧
    (d.askScanErases p).freeCount = d.freeCount := by
  simp only [Dev.askScanErases]; (repeat' split) <;> simp

@[simp] theorem Dev.endScan_frame (d : Dev) :
    (d.endScan).pins = d.pins ∧ (d.endScan).bkd = d.bkd ∧ (d.endScan).run = d.run ∧ (d.endScan).settle = d.settle ∧
    (d.endScan).reserve = d.reserve ∧ (d.endScan).adc = d.adc ∧ (d.endScan).faults = d.faults ∧ (d.endScan).sns = d.sns ∧ (d.endScan).image = d.image ∧
    (d.endScan).plan = d.plan ∧ (d.endScan).arbiter = d.arbiter ∧ (d.endScan).tmb = d.tmb ∧ (d.endScan).freeCount = d.freeCount := by
  simp [Dev.endScan]

@[simp] theorem Dev.startupPlan_frame (p : Pocket) (r : Record) (d : Dev) :
    (d.startupPlan p r).pins = d.pins ∧ (d.startupPlan p r).bkd = d.bkd ∧ (d.startupPlan p r).run = d.run ∧ (d.startupPlan p r).settle = d.settle ∧
    (d.startupPlan p r).reserve = d.reserve ∧ (d.startupPlan p r).adc = d.adc ∧ (d.startupPlan p r).faults = d.faults ∧ (d.startupPlan p r).sns = d.sns ∧ (d.startupPlan p r).image = d.image ∧
    (d.startupPlan p r).engine = d.engine ∧ (d.startupPlan p r).ring = d.ring ∧ (d.startupPlan p r).scan = d.scan ∧ (d.startupPlan p r).journal = d.journal ∧
    (d.startupPlan p r).arbiter = d.arbiter ∧ (d.startupPlan p r).tmb = d.tmb ∧ (d.startupPlan p r).freeCount = d.freeCount := by
  simp only [Dev.startupPlan]; (repeat' split) <;> simp

@[simp] theorem Dev.startupClosure_frame (p : Pocket) (r : CloseReason) (d : Dev) :
    (d.startupClosure p r).pins = d.pins ∧ (d.startupClosure p r).run = d.run ∧ (d.startupClosure p r).settle = d.settle ∧ (d.startupClosure p r).reserve = d.reserve ∧ (d.startupClosure p r).adc = d.adc ∧
    (d.startupClosure p r).faults = d.faults ∧ (d.startupClosure p r).sns = d.sns ∧ (d.startupClosure p r).ring = d.ring ∧ (d.startupClosure p r).scan = d.scan ∧
    (d.startupClosure p r).journal = d.journal ∧ (d.startupClosure p r).plan = d.plan ∧ (d.startupClosure p r).arbiter = d.arbiter ∧ (d.startupClosure p r).tmb = d.tmb ∧
    (d.startupClosure p r).freeCount = d.freeCount := by
  simp [Dev.startupClosure]

@[simp] theorem Dev.alignStall_frame (p : Pocket) (d : Dev) :
    (d.alignStall p).pins = d.pins ∧ (d.alignStall p).run = d.run ∧ (d.alignStall p).settle = d.settle ∧ (d.alignStall p).reserve = d.reserve ∧ (d.alignStall p).adc = d.adc ∧
    (d.alignStall p).faults = d.faults ∧ (d.alignStall p).sns = d.sns ∧ (d.alignStall p).psq = d.psq ∧ (d.alignStall p).image = d.image ∧
    (d.alignStall p).engine = d.engine ∧ (d.alignStall p).ring = d.ring ∧ (d.alignStall p).scan = d.scan ∧ (d.alignStall p).journal = d.journal ∧
    (d.alignStall p).plan = d.plan ∧ (d.alignStall p).arbiter = d.arbiter ∧ (d.alignStall p).tmb = d.tmb ∧ (d.alignStall p).link = d.link ∧
    (d.alignStall p).freeCount = d.freeCount := by
  simp [Dev.alignStall]

@[simp] theorem Dev.takeState_frame (p : Pocket) (d : Dev) :
    (d.takeState p).pins = d.pins ∧ (d.takeState p).run = d.run ∧ (d.takeState p).settle = d.settle ∧ (d.takeState p).reserve = d.reserve ∧ (d.takeState p).adc = d.adc ∧
    (d.takeState p).faults = d.faults ∧ (d.takeState p).sns = d.sns ∧ (d.takeState p).ring = d.ring ∧ (d.takeState p).scan = d.scan ∧
    (d.takeState p).journal = d.journal ∧ (d.takeState p).arbiter = d.arbiter ∧ (d.takeState p).tmb = d.tmb ∧ (d.takeState p).freeCount = d.freeCount := by
  unfold Dev.takeState
  split
  · simp
  · split
    · rename_i b _ _
      cases h : ((d.startupPlan p b.record).plan.get p) with
      | none => simp [h]
      | some pl => simp only [h]; split <;> simp
    · simp

@[simp] theorem Dev.enterRun_frame (d : Dev) :
    (d.enterRun).pins = d.pins ∧ (d.enterRun).settle = d.settle ∧ (d.enterRun).reserve = d.reserve ∧
    (d.enterRun).adc = (d.beginSample .a).adc ∧ (d.enterRun).sns = (d.beginSample .a).sns ∧
    (d.enterRun).scan = d.scan ∧ (d.enterRun).plan = d.plan ∧ (d.enterRun).freeCount = d.freeCount := by
  simp only [Dev.enterRun]; (repeat' split) <;> simp

end Sys2Proof.Machine
end

