-- ==== Sys2Proof/Laws/MainsFrames.lean ====
section
/-! SUPPORT. What the operations of Machine/Mains.lean leave unchanged: for each, every field of the part that it does not touch. -/

namespace Sys2Proof.Machine

@[simp] theorem Dev.lowerConfidence_frame (n : Nat) (d : Dev) :
    (d.lowerConfidence n).pins = d.pins ∧ (d.lowerConfidence n).run = d.run ∧ (d.lowerConfidence n).settle = d.settle ∧ (d.lowerConfidence n).reserve = d.reserve ∧ (d.lowerConfidence n).adc = d.adc ∧
    (d.lowerConfidence n).faults = d.faults ∧ (d.lowerConfidence n).sns = d.sns ∧ (d.lowerConfidence n).psq = d.psq ∧ (d.lowerConfidence n).image = d.image ∧
    (d.lowerConfidence n).engine = d.engine ∧ (d.lowerConfidence n).ring = d.ring ∧ (d.lowerConfidence n).scan = d.scan ∧ (d.lowerConfidence n).journal = d.journal ∧
    (d.lowerConfidence n).plan = d.plan ∧ (d.lowerConfidence n).arbiter = d.arbiter ∧ (d.lowerConfidence n).tmb = d.tmb ∧ (d.lowerConfidence n).link = d.link ∧
    (d.lowerConfidence n).freeCount = d.freeCount := by
  simp [Dev.lowerConfidence]

@[simp] theorem Dev.restartInterval_frame (d : Dev) :
    (d.restartInterval).pins = d.pins ∧ (d.restartInterval).run = d.run ∧ (d.restartInterval).settle = d.settle ∧ (d.restartInterval).reserve = d.reserve ∧ (d.restartInterval).adc = d.adc ∧
    (d.restartInterval).faults = d.faults ∧ (d.restartInterval).sns = d.sns ∧ (d.restartInterval).psq = d.psq ∧ (d.restartInterval).image = d.image ∧
    (d.restartInterval).engine = d.engine ∧ (d.restartInterval).ring = d.ring ∧ (d.restartInterval).scan = d.scan ∧ (d.restartInterval).journal = d.journal ∧
    (d.restartInterval).plan = d.plan ∧ (d.restartInterval).arbiter = d.arbiter ∧ (d.restartInterval).tmb = d.tmb ∧ (d.restartInterval).link = d.link ∧
    (d.restartInterval).freeCount = d.freeCount := by
  simp [Dev.restartInterval]

@[simp] theorem Dev.drawDipGap_frame (d : Dev) :
    (d.drawDipGap).pins = d.pins ∧ (d.drawDipGap).bkd = d.bkd ∧ (d.drawDipGap).run = d.run ∧ (d.drawDipGap).settle = d.settle ∧
    (d.drawDipGap).reserve = d.reserve ∧ (d.drawDipGap).adc = d.adc ∧ (d.drawDipGap).faults = d.faults ∧ (d.drawDipGap).sns = d.sns ∧ (d.drawDipGap).psq = d.psq ∧
    (d.drawDipGap).image = d.image ∧ (d.drawDipGap).engine = d.engine ∧ (d.drawDipGap).ring = d.ring ∧ (d.drawDipGap).scan = d.scan ∧
    (d.drawDipGap).journal = d.journal ∧ (d.drawDipGap).plan = d.plan ∧ (d.drawDipGap).arbiter = d.arbiter ∧ (d.drawDipGap).tmb = d.tmb ∧
    (d.drawDipGap).link = d.link := by
  simp only [Dev.drawDipGap]; (repeat' split) <;> simp

@[simp] theorem Dev.enterDip_frame (d : Dev) :
    (d.enterDip).pins = d.pins ∧ (d.enterDip).run = d.run ∧ (d.enterDip).reserve = d.reserve ∧ (d.enterDip).adc = d.adc ∧ (d.enterDip).faults = d.faults ∧
    (d.enterDip).sns = d.sns ∧ (d.enterDip).psq = d.psq ∧ (d.enterDip).image = d.image ∧ (d.enterDip).engine = d.engine ∧
    (d.enterDip).ring = d.ring ∧ (d.enterDip).scan = d.scan ∧ (d.enterDip).journal = d.journal ∧ (d.enterDip).plan = d.plan ∧
    (d.enterDip).arbiter = d.arbiter ∧ (d.enterDip).link = d.link ∧ (d.enterDip).freeCount = d.freeCount := by
  simp [Dev.enterDip]

@[simp] theorem Dev.abortQualifying_frame (d : Dev) :
    (d.abortQualifying).pins = d.pins ∧ (d.abortQualifying).run = d.run ∧ (d.abortQualifying).settle = d.settle ∧ (d.abortQualifying).reserve = d.reserve ∧ (d.abortQualifying).adc = d.adc ∧
    (d.abortQualifying).faults = d.faults ∧ (d.abortQualifying).sns = d.sns ∧ (d.abortQualifying).psq = d.psq ∧ (d.abortQualifying).image = d.image ∧
    (d.abortQualifying).engine = d.engine ∧ (d.abortQualifying).ring = d.ring ∧ (d.abortQualifying).scan = d.scan ∧ (d.abortQualifying).journal = d.journal ∧
    (d.abortQualifying).plan = d.plan ∧ (d.abortQualifying).arbiter = d.arbiter ∧ (d.abortQualifying).tmb = d.tmb ∧ (d.abortQualifying).link = d.link ∧
    (d.abortQualifying).freeCount = d.freeCount := by
  simp [Dev.abortQualifying]

@[simp] theorem Dev.beginSettle_frame (d : Dev) :
    (d.beginSettle).pins = d.pins ∧ (d.beginSettle).bkd = d.bkd ∧ (d.beginSettle).run = d.run ∧ (d.beginSettle).reserve = d.reserve ∧ (d.beginSettle).adc = d.adc ∧
    (d.beginSettle).faults = d.faults ∧ (d.beginSettle).sns = d.sns ∧ (d.beginSettle).psq = d.psq ∧ (d.beginSettle).image = d.image ∧
    (d.beginSettle).engine = d.engine ∧ (d.beginSettle).ring = d.ring ∧ (d.beginSettle).scan = d.scan ∧ (d.beginSettle).journal = d.journal ∧
    (d.beginSettle).plan = d.plan ∧ (d.beginSettle).arbiter = d.arbiter ∧ (d.beginSettle).tmb = d.tmb ∧ (d.beginSettle).link = d.link ∧
    (d.beginSettle).freeCount = d.freeCount := by
  simp only [Dev.beginSettle]; (repeat' split) <;> simp

@[simp] theorem Dev.raiseIfPowered_frame (c : Cause) (d : Dev) :
    (d.raiseIfPowered c).pins = d.pins ∧ (d.raiseIfPowered c).bkd = d.bkd ∧ (d.raiseIfPowered c).run = d.run ∧ (d.raiseIfPowered c).settle = d.settle ∧
    (d.raiseIfPowered c).reserve = d.reserve ∧ (d.raiseIfPowered c).adc = d.adc ∧ (d.raiseIfPowered c).faults = d.faults ∧ (d.raiseIfPowered c).sns = d.sns ∧ (d.raiseIfPowered c).psq = d.psq ∧
    (d.raiseIfPowered c).image = d.image ∧ (d.raiseIfPowered c).engine = d.engine ∧ (d.raiseIfPowered c).ring = d.ring ∧ (d.raiseIfPowered c).scan = d.scan ∧
    (d.raiseIfPowered c).journal = d.journal ∧ (d.raiseIfPowered c).plan = d.plan ∧ (d.raiseIfPowered c).arbiter = d.arbiter ∧ (d.raiseIfPowered c).tmb = d.tmb ∧
    (d.raiseIfPowered c).freeCount = d.freeCount := by
  simp only [Dev.raiseIfPowered]; (repeat' split) <;> simp

@[simp] theorem Dev.recoverDip_frame (d : Dev) :
    (d.recoverDip).pins = d.pins ∧ (d.recoverDip).run = d.run ∧ (d.recoverDip).reserve = d.reserve ∧ (d.recoverDip).adc = d.adc ∧ (d.recoverDip).faults = d.faults ∧
    (d.recoverDip).sns = d.sns ∧ (d.recoverDip).scan = d.scan ∧ (d.recoverDip).plan = d.plan ∧ (d.recoverDip).arbiter = d.arbiter ∧
    (d.recoverDip).freeCount = d.freeCount := by
  simp [Dev.recoverDip]

@[simp] theorem Dev.lossPocket_frame (p : Pocket) (d : Dev) :
    (d.lossPocket p).pins = d.pins ∧ (d.lossPocket p).run = d.run ∧ (d.lossPocket p).settle = d.settle ∧ (d.lossPocket p).reserve = d.reserve ∧ (d.lossPocket p).adc = d.adc ∧
    (d.lossPocket p).faults = d.faults ∧ (d.lossPocket p).sns = d.sns ∧ (d.lossPocket p).ring = d.ring ∧ (d.lossPocket p).scan = d.scan ∧
    (d.lossPocket p).journal = d.journal ∧ (d.lossPocket p).plan = d.plan ∧ (d.lossPocket p).arbiter = d.arbiter ∧ (d.lossPocket p).tmb = d.tmb ∧
    (d.lossPocket p).link = d.link ∧ (d.lossPocket p).freeCount = d.freeCount := by
  simp only [Dev.lossPocket]; (repeat' split) <;> simp

@[simp] theorem Dev.lossEngine_frame (d : Dev) :
    (d.lossEngine).pins = d.pins ∧ (d.lossEngine).bkd = d.bkd ∧ (d.lossEngine).run = d.run ∧ (d.lossEngine).settle = d.settle ∧
    (d.lossEngine).reserve = d.reserve ∧ (d.lossEngine).adc = d.adc ∧ (d.lossEngine).faults = d.faults ∧ (d.lossEngine).sns = d.sns ∧ (d.lossEngine).psq = d.psq ∧
    (d.lossEngine).image = d.image ∧ (d.lossEngine).ring = d.ring ∧ (d.lossEngine).scan = d.scan ∧ (d.lossEngine).journal = d.journal ∧
    (d.lossEngine).plan = d.plan ∧ (d.lossEngine).arbiter = d.arbiter ∧ (d.lossEngine).tmb = d.tmb ∧ (d.lossEngine).link = d.link ∧
    (d.lossEngine).freeCount = d.freeCount := by
  unfold Dev.lossEngine; (repeat' split) <;> simp

@[simp] theorem Dev.stopSampling_frame (d : Dev) :
    (d.stopSampling).pins = d.pins ∧ (d.stopSampling).bkd = d.bkd ∧ (d.stopSampling).run = d.run ∧ (d.stopSampling).settle = d.settle ∧
    (d.stopSampling).reserve = d.reserve ∧ (d.stopSampling).faults = d.faults ∧ (d.stopSampling).psq = d.psq ∧ (d.stopSampling).image = d.image ∧
    (d.stopSampling).engine = d.engine ∧ (d.stopSampling).ring = d.ring ∧ (d.stopSampling).scan = d.scan ∧ (d.stopSampling).journal = d.journal ∧
    (d.stopSampling).plan = d.plan ∧ (d.stopSampling).arbiter = d.arbiter ∧ (d.stopSampling).tmb = d.tmb ∧ (d.stopSampling).link = d.link ∧
    (d.stopSampling).freeCount = d.freeCount := by
  simp [Dev.stopSampling]

@[simp] theorem Dev.lossInStartupFacts_frame (p : Pocket) (d : Dev) :
    (d.lossInStartupFacts p).pins = d.pins ∧ (d.lossInStartupFacts p).run = d.run ∧ (d.lossInStartupFacts p).settle = d.settle ∧ (d.lossInStartupFacts p).reserve = d.reserve ∧ (d.lossInStartupFacts p).adc = d.adc ∧
    (d.lossInStartupFacts p).faults = d.faults ∧ (d.lossInStartupFacts p).sns = d.sns ∧ (d.lossInStartupFacts p).psq = d.psq ∧ (d.lossInStartupFacts p).image = d.image ∧
    (d.lossInStartupFacts p).engine = d.engine ∧ (d.lossInStartupFacts p).ring = d.ring ∧ (d.lossInStartupFacts p).scan = d.scan ∧ (d.lossInStartupFacts p).journal = d.journal ∧
    (d.lossInStartupFacts p).plan = d.plan ∧ (d.lossInStartupFacts p).arbiter = d.arbiter ∧ (d.lossInStartupFacts p).tmb = d.tmb ∧ (d.lossInStartupFacts p).link = d.link ∧
    (d.lossInStartupFacts p).freeCount = d.freeCount := by
  simp only [Dev.lossInStartupFacts]; (repeat' split) <;> simp

end Sys2Proof.Machine
end

