-- ==== Sys2Proof/Laws/Memory.lean ====
section
/-! SUPPORT. The laws of the retention array as memory: read after write, and the canonical form that every
operation keeps. -/

namespace Sys2Proof.Machine

/-- Every listed address lies above `a`. -/
def Memory.above (a : Nat) (m : Memory) : Prop := ∀ c ∈ m, a < c.1

theorem Memory.wf_cons (k : Nat) (v : Byte) (m : Memory) :
    Memory.wf ((k, v) :: m) = true ↔ v ≠ erasedByte ∧ Memory.above k m ∧ Memory.wf m = true := by
  induction m generalizing k v with
  | nil => simp [Memory.wf, Memory.above]
  | cons c m ih =>
    obtain ⟨k', v'⟩ := c
    have h := ih k' v'
    simp only [Memory.wf, Bool.and_eq_true, bne_iff_ne, ne_eq, decide_eq_true_eq]
    constructor
    · rintro ⟨⟨h1, h2⟩, h3⟩
      refine ⟨h2, ?_, h3⟩
      intro c hc
      rcases List.mem_cons.mp hc with rfl | hc
      · exact h1
      · exact Nat.lt_trans h1 ((h.mp h3).2.1 c hc)
    · rintro ⟨h1, h2, h3⟩
      exact ⟨⟨h2 _ (List.mem_cons_self ..), h1⟩, h3⟩

/-- An address below every listed one reads as erased. -/
theorem Memory.read_of_above {m : Memory} {a : Nat} (h : Memory.above a m) : Memory.read m a = erasedByte := by
  induction m with
  | nil => rfl
  | cons c m ih =>
    obtain ⟨k, v⟩ := c
    have hk : a < k := h (k, v) (List.mem_cons_self ..)
    have hm : Memory.above a m := fun c hc => h c (List.mem_cons_of_mem _ hc)
    simp [Memory.read, Nat.ne_of_gt hk, ih hm]

theorem Memory.above_write {m : Memory} {k a : Nat} {b : Byte} (h : Memory.above k m) (ha : k < a) :
    Memory.above k (Memory.write m a b) := by
  induction m with
  | nil =>
    simp only [Memory.write]
    split
    · exact h
    · intro c hc
      simp only [List.mem_singleton] at hc
      exact hc ▸ ha
  | cons c m ih =>
    obtain ⟨k', v'⟩ := c
    have hm : Memory.above k m := fun c hc => h c (List.mem_cons_of_mem _ hc)
    have hk' : k < k' := h (k', v') (List.mem_cons_self ..)
    simp only [Memory.write]
    split
    · split
      · exact h
      · intro c hc
        rcases List.mem_cons.mp hc with rfl | hc
        · exact ha
        · exact h c hc
    · split
      · split
        · exact hm
        · intro c hc
          rcases List.mem_cons.mp hc with rfl | hc
          · exact ha
          · exact hm c hc
      · intro c hc
        rcases List.mem_cons.mp hc with rfl | hc
        · exact hk'
        · exact ih hm c hc

/-- A write keeps the canonical form. -/
theorem Memory.wf_write {m : Memory} (h : m.wf = true) (a : Nat) (b : Byte) : (m.write a b).wf = true := by
  induction m with
  | nil =>
    simp only [Memory.write]
    split
    · rfl
    · rename_i hb
      exact (Memory.wf_cons ..).mpr ⟨hb, fun c hc => absurd hc (List.not_mem_nil), rfl⟩
  | cons c m ih =>
    obtain ⟨k, v⟩ := c
    obtain ⟨hv, hk, hm⟩ := (Memory.wf_cons ..).mp h
    simp only [Memory.write]
    split
    · rename_i hlt
      split
      · exact h
      · rename_i hb
        refine (Memory.wf_cons ..).mpr ⟨hb, ?_, h⟩
        intro c hc
        rcases List.mem_cons.mp hc with rfl | hc
        · exact hlt
        · exact Nat.lt_trans hlt (hk c hc)
    · split
      · rename_i heq
        subst heq
        split
        · exact hm
        · rename_i hb
          exact (Memory.wf_cons ..).mpr ⟨hb, hk, hm⟩
      · rename_i hlt hne
        exact (Memory.wf_cons ..).mpr ⟨hv, Memory.above_write hk (by omega), ih hm⟩

/-- Read after write: the written byte at its address, every other address as before. -/
theorem Memory.read_write {m : Memory} (h : m.wf = true) (a x : Nat) (b : Byte) :
    (m.write a b).read x = if x = a then b else m.read x := by
  induction m with
  | nil =>
    by_cases hb : b = erasedByte <;> by_cases hx : x = a <;>
      simp [Memory.write, Memory.read, hb, hx, eq_comm]
    · exact fun h => absurd h.symm hx
  | cons c m ih =>
    obtain ⟨k, v⟩ := c
    obtain ⟨hv, hk, hm⟩ := (Memory.wf_cons ..).mp h
    have hih := ih hm
    simp only [Memory.write]
    split
    · rename_i hlt
      split
      · rename_i hb
        subst hb
        by_cases hx : x = a
        · subst hx
          have : Memory.above x ((k, v) :: m) := by
            intro c hc
            rcases List.mem_cons.mp hc with rfl | hc
            · exact hlt
            · exact Nat.lt_trans hlt (hk c hc)
          simp [Memory.read_of_above this]
        · simp [hx]
      · by_cases hx : x = a
        · simp [Memory.read, hx]
        · simp [Memory.read, hx, Ne.symm hx]
    · split
      · rename_i heq
        subst heq
        split
        · rename_i hb
          subst hb
          by_cases hx : x = a
          · subst hx
            simp [Memory.read_of_above hk]
          · simp [Memory.read, hx, Ne.symm hx]
        · by_cases hx : x = a
          · simp [Memory.read, hx]
          · simp [Memory.read, hx, Ne.symm hx]
      · rename_i hlt hne
        by_cases hkx : k = x
        · subst hkx
          have : k ≠ a := fun h => hne h.symm
          simp [Memory.read, this]
        · simp [Memory.read, hkx, hih]

/-- Writing bytes keeps the canonical form. -/
theorem Memory.wf_writeBytes {m : Memory} (h : m.wf = true) (a : Nat) (bs : List Byte) : (m.writeBytes a bs).wf = true := by
  induction bs generalizing m a with
  | nil => exact h
  | cons b bs ih => exact ih (Memory.wf_write h a b) (a + 1)

/-- After writing bytes from an address, each of them is read where it was written, and every other address as before. -/
theorem Memory.read_writeBytes {m : Memory} (h : m.wf = true) (a x : Nat) (bs : List Byte) :
    (m.writeBytes a bs).read x = if a ≤ x ∧ x < a + bs.length then bs.getD (x - a) 0 else m.read x := by
  induction bs generalizing m a with
  | nil =>
    have : ¬(a ≤ x ∧ x < a) := by omega
    simp [Memory.writeBytes, this]
  | cons b bs ih =>
    rw [Memory.writeBytes, ih (Memory.wf_write h a b), Memory.read_write h]
    by_cases h1 : a + 1 ≤ x ∧ x < a + 1 + bs.length
    · have h2 : a ≤ x ∧ x < a + (b :: bs).length := by simp; omega
      have h3 : x - a = (x - (a + 1)) + 1 := by omega
      rw [if_pos h1, if_pos h2, h3]
      rfl
    · rw [if_neg h1]
      by_cases h4 : x = a
      · have h2 : a ≤ x ∧ x < a + (b :: bs).length := by simp; omega
        have h5 : x - a = 0 := by omega
        rw [if_pos h4, if_pos h2, h5]
        rfl
      · have h2 : ¬(a ≤ x ∧ x < a + (b :: bs).length) := by simp at h1 ⊢; omega
        rw [if_neg h4, if_neg h2]

/-- Replacing a page keeps the canonical form. -/
theorem Memory.wf_setPage {m : Memory} (h : m.wf = true) (n : Nat) (bytes : List Byte) : (m.setPage n bytes).wf = true :=
  Memory.wf_writeBytes h ..

/-- After replacing a page by 128 bytes: its bytes are those, and every other address is as before. -/
theorem Memory.read_setPage {m : Memory} (h : m.wf = true) (n x : Nat) (bytes : List Byte) (hl : bytes.length = pageSize) :
    (m.setPage n bytes).read x =
      if pageBase n ≤ x ∧ x < pageBase n + pageSize then bytes.getD (x - pageBase n) 0 else m.read x := by
  rw [Memory.setPage, Memory.read_writeBytes h, List.take_of_length_le (by omega), hl]

@[simp] theorem pageOf_length (bs : List Byte) : (pageOf bs).length = pageSize := by simp [pageOf]

@[simp] theorem overlay_length (page : List Byte) (cells : List Host.Cell) : (overlay page cells).length = page.length := by
  simp [overlay]

/-- The array right after reset is canonical: nothing is listed. -/
theorem Memory.wf_reset : State.reset.array.wf = true := rfl

/-! ### Writing over a stored page (R79) -/

@[simp] theorem writeOver_erased (w : Byte) : writeOver erasedByte w = w := by simp [writeOver]
@[simp] theorem writeOver_self (b : Byte) : writeOver b b = b := by simp [writeOver]

/-- No writing returns a written byte to the erased value. -/
theorem writeOver_ne_erased {stored : Byte} (h : stored ≠ erasedByte) (w : Byte) : writeOver stored w ≠ erasedByte := by
  simp only [writeOver]
  split
  · rename_i h1; rcases h1 with h1 | h1
    · exact absurd h1 h
    · exact h1 ▸ h
  · split
    · exact h
    · rename_i h2; exact fun h3 => h2 (.inr h3)

@[simp] theorem programmed_length (stored bytes : List Byte) (damage : List Host.Cell) :
    (programmed stored bytes damage).length = stored.length := by simp [programmed]

/-- Writing an undamaged record over an erased page leaves the page of that record. -/
theorem programmed_erased (bytes : List Byte) :
    programmed (List.replicate pageSize erasedByte) bytes [] = pageOf bytes := by
  apply List.ext_getElem
  · simp [programmed, pageOf]
  · intro i h1 h2
    simp only [programmed, pageOf, List.getElem_mapIdx, List.getElem_replicate, List.find?_nil, List.getElem_map,
      List.getElem_range, List.getD_eq_getElem?_getD, writeOver_erased]
    cases bytes[i]? <;> rfl

end Sys2Proof.Machine
end

