-- ==== Sys2Proof/Laws/OpsSpecs.lean ====
section
/-! SUPPORT. What each shared operation can do, said once: a later proof cites the case lemma and does not unfold the
operation. -/

namespace Sys2Proof.Machine

/-- R51: a fault that is present stays as it is; an absent one is added and raises FAULT. -/
theorem Dev.raiseFault_cases (p : Pocket) (f : PocketFault) (d : Dev) :
    ((d.psq.get p).has f = true ∧ d.raiseFault p f = d) ∨
    ((d.psq.get p).has f = false ∧
      d.raiseFault p f = (d.setPsq p ((d.psq.get p).put f true)).raiseCause .fault) := by
  cases h : (d.psq.get p).has f <;> simp [Dev.raiseFault, h]

/-- R56: the same of a device fault. -/
theorem Dev.raiseDevice_cases (f : DeviceFault) (d : Dev) :
    (d.faults.has f = true ∧ d.raiseDevice f = d) ∨
    (d.faults.has f = false ∧ d.raiseDevice f = (d.setFaults (d.faults.put f true)).raiseCause .fault) := by
  cases h : d.faults.has f <;> simp [Dev.raiseDevice, h]

/-- R165, R166: a release takes one entry out of the table and sends its reply, or finds none owed. -/
theorem Dev.release_cases (q : Request) (p : Option Pocket) (payload : List Byte) (d : Dev) :
    (d.owed q p = none ∧ d.release q p payload = d) ∨
    (∃ e, d.owed q p = some e ∧ d.release q p payload = (d.undefer q p).reply q payload) := by
  unfold Dev.release
  split
  · next h => exact .inl ⟨h, rfl⟩
  · next e h => exact .inr ⟨e, h, rfl⟩

/-- R83: an asked ERASE is dropped for a blank slot, for a slot that has one and when 4 are queued; else it joins. -/
theorem Dev.askErase_cases (p : Pocket) (slot : Fin 16) (d : Dev) :
    (((d.ring.get p).blank[slot] = true ∨ d.anyEntry (fun w => w == .erase p slot) = true ∨
      4 ≤ d.countEntries Work.isErase) ∧ d.askErase p slot = d) ∨
    ((d.ring.get p).blank[slot] = false ∧ d.anyEntry (fun w => w == .erase p slot) = false ∧
      d.countEntries Work.isErase < 4 ∧ d.askErase p slot = d.enqueue (.erase p slot)) := by
  unfold Dev.askErase
  split
  · next h => exact .inl ⟨.inl h, rfl⟩
  · next h1 =>
    split
    · next h => exact .inl ⟨.inr (.inl h), rfl⟩
    · next h2 =>
      split
      · next h => exact .inl ⟨.inr (.inr h), rfl⟩
      · next h3 => exact .inr ⟨by simpa using h1, by simpa using h2, Nat.lt_of_not_le h3, rfl⟩

/-- R66, R67: a trigger is discarded under JOURNAL_FAIL and where no image is present; else it queues an entry, is
absorbed into the queued one, or sets the recommit request. The close reason is kept or taken in each. -/
theorem Dev.trigger_cases (p : Pocket) (kind : Kind) (reason : Option CloseReason) (d : Dev) :
    ((d.journalFailed p = true ∨ d.image.get p = none) ∧ d.trigger p kind reason = d) ∨
    (d.journalFailed p = false ∧ ∃ im, d.image.get p = some im ∧
      ((im.commit = .none ∧
          d.trigger p kind reason =
            (d.setImage p (some { im with
              commit := .queued kind, closeReason := keepReason im.closeReason reason })).enqueue (.commit p)) ∨
        (∃ k, im.commit = .queued k ∧
          d.trigger p kind reason =
            d.setImage p (some { im with
              commit := .queued (k.upgrade kind), closeReason := keepReason im.closeReason reason })) ∨
        (∃ k, im.commit = .inFlight k ∧
          d.trigger p kind reason =
            d.setImage p (some { im with
              recommit := some (match im.recommit with
                | none => kind
                | some r => r.upgrade kind),
              closeReason := keepReason im.closeReason reason })))) := by
  unfold Dev.trigger
  split
  · next h => exact .inl ⟨.inl h, rfl⟩
  · next hj =>
    have hj : d.journalFailed p = false := by simpa using hj
    split
    · next h => exact .inl ⟨.inr h, rfl⟩
    · next im h =>
      refine .inr ⟨hj, im, h, ?_⟩
      cases hc : im.commit with
      | none => exact .inl ⟨rfl, rfl⟩
      | queued k => exact .inr (.inl ⟨k, rfl, rfl⟩)
      | inFlight k =>
        refine .inr (.inr ⟨k, rfl, ?_⟩)
        cases im.recommit <;> rfl

/-- R37, R66: a decided closure stops the timer and sets the mark; then it takes effect at once under JOURNAL_FAIL, and
gives a CLOSE trigger otherwise. -/
theorem Dev.decideClosure_cases (p : Pocket) (reason : CloseReason) (d : Dev) :
    (d.journalFailed p = true ∧
      d.decideClosure p reason =
        ((d.stopTumbler p).setPsq p { d.psq.get p with mark := some reason }).closureEffect p .faulted) ∨
    (d.journalFailed p = false ∧
      d.decideClosure p reason =
        ((d.stopTumbler p).setPsq p { d.psq.get p with mark := some reason }).trigger p .close (some reason)) := by
  cases h : d.journalFailed p <;> simp [Dev.decideClosure, h]

/-- R48, R153: entry to ANTICREASE closes a pocket whose door reads OPEN and starts the timer of any other. -/
theorem Dev.enterAnticrease_cases (p : Pocket) (g : GuardProgram) (bursts : Nat) (d : Dev) :
    ((d.psq.get p).doorOpen = true ∧ d.enterAnticrease p g bursts = d.decideClosure p .door) ∨
    ((d.psq.get p).doorOpen = false ∧ d.enterAnticrease p g bursts = d.startTumbler p g bursts) := by
  cases h : (d.psq.get p).doorOpen <;> simp [Dev.enterAnticrease, h]

/-- R139: the start test leaves the part as it is, or takes a WAITSTART pocket with a COOL or GUARD choice out under
its three conditions. -/
theorem Dev.startTest_cases (p : Pocket) (d : Dev) :
    d.startTest p = d ∨
    (d.runningFree = true ∧ (d.psq.get p).state = .waitstart ∧ d.mainsPresent = true ∧ d.reserve.ready = true ∧
      ∃ c, (d.psq.get p).choice = some c ∧
        ((c.outcome = .cool ∧ d.startTest p = d.leaveWaitstart p c .cooling) ∨
          (c.outcome = .guard ∧ d.startTest p = d.leaveWaitstart p c .anticrease))) := by
  unfold Dev.startTest
  dsimp only
  split
  · next h =>
    simp only [Bool.and_eq_true, beq_iff_eq] at h
    obtain ⟨⟨⟨h1, h2⟩, h3⟩, h4⟩ := h
    split
    · exact .inl rfl
    · next c hc =>
      cases ho : c.outcome with
      | cool => exact .inr ⟨h1, h2, h3, h4, c, hc, .inl ⟨ho, rfl⟩⟩
      | guard => exact .inr ⟨h1, h2, h3, h4, c, hc, .inr ⟨ho, rfl⟩⟩
      | reheat => exact .inl rfl
      | close => exact .inl rfl
      | hold => exact .inl rfl
  · exact .inl rfl

/-- R13, R22: a start at mains return is warm with the continuity flag set and cold without. -/
theorem Dev.startMain_cases (d : Dev) :
    (d.bkd.continuity = true ∧ d.startMain = d.mainInit .startup .warm d.pins.nresetLow d.pins.doorOpen) ∨
    (d.bkd.continuity = false ∧
      d.startMain = ((d.setBkd d.bkd.coldStart).mainInit .startup .cold d.pins.nresetLow
        d.pins.doorOpen).raiseDevice .coldStart) := by
  cases h : d.bkd.continuity <;> simp [Dev.startMain, h]

end Sys2Proof.Machine
end

