-- ==== Sys2Proof/Laws/Selection.lean ====
section
/-! SUPPORT. What the engine's selection (R85) does to the items it can change: images, rings, journals and the link.
The rest of the part is in Laws/EngineFrames.lean. -/

namespace Sys2Proof.Machine

/-! ### Images: a selection either leaves an image alone or takes its snapshot -/

/-- A working image is as before, or its queued commit has started (R68). -/
def Image.keptOrTaken (im im' : Image) : Prop := im' = im ∨ ∃ k, im.commit = .queued k ∧ im' = im.taken k

theorem Image.keptOrTaken_body {im im' : Image} (h : im.keptOrTaken im') :
    im'.body = im.body ∧ im'.cycle = im.cycle ∧ im'.exhaustRef = im.exhaustRef ∧ im'.resume = im.resume ∧
      im'.recommit = im.recommit ∧ im'.closeReason = im.closeReason := by
  rcases h with rfl | ⟨k, _, rfl⟩ <;> simp [Image.taken]

/-- The image of a pocket is absent in both parts, or present in both and kept or taken. -/
def imageKept (x y : Option Image) : Prop := (x = none → y = none) ∧ ∀ im, x = some im → ∃ im', y = some im' ∧ im.keptOrTaken im'

theorem imageKept_of_eq {x y : Option Image} (h : y = x) : imageKept x y := by
  subst h; exact ⟨id, fun im h => ⟨im, h, .inl rfl⟩⟩

theorem Dev.writeStart_image (v : Service) (d : Dev) (p : Pocket) :
    imageKept (d.image.get p) ((d.writeStart v).image.get p) := by
  unfold Dev.writeStart
  split
  · exact imageKept_of_eq (by simp)
  · split
    · exact imageKept_of_eq (by simp)
    · rename_i im0 h0
      split
      · rename_i k hk
        by_cases hp : p = v.pocket
        · subst hp
          simp only [Dev.writeSnapshot_frame, Dev.setImage_image, Per.set_get_self, h0]
          exact ⟨by simp, fun im h => ⟨_, rfl, .inr ⟨k, by cases h; exact hk, by cases h; rfl⟩⟩⟩
        · exact imageKept_of_eq (by simp [Per.set_get_of_ne _ _ hp])
      · exact imageKept_of_eq (by simp)
      · exact imageKept_of_eq (by simp)

theorem Dev.serve_image (v : Service) (d : Dev) (p : Pocket) :
    imageKept (d.image.get p) ((d.serve v).image.get p) := by
  unfold Dev.serve
  split
  · exact Dev.writeStart_image v d p
  · exact imageKept_of_eq (by simp)

theorem Dev.select_image (d : Dev) (p : Pocket) : imageKept (d.image.get p) (d.select.image.get p) := by
  unfold Dev.select
  split
  · exact imageKept_of_eq rfl
  · split
    · exact Dev.serve_image _ d p
    · split
      · split
        · rename_i e _ _ q _
          simpa using Dev.serve_image ⟨q, none⟩ (d.dequeue e) p
        · exact imageKept_of_eq rfl
      · split <;> exact imageKept_of_eq (by simp)

/-! ### Rings, journals, link: only a FORMAT entry that leaves the queue resets them -/

/-- A pocket's numbering is as before: all of its ring items but the last assigned number and the blank map. -/
def Ring.sameNumbering (r r' : Ring) : Prop :=
  r'.writePos = r.writePos ∧ r'.newest = r.newest ∧ r'.failures = r.failures ∧ r'.completionAge = r.completionAge ∧
    r'.lastCycle = r.lastCycle

theorem Ring.sameNumbering_of_eq {r r' : Ring} (h : r' = r) : r.sameNumbering r' := by subst h; exact ⟨rfl, rfl, rfl, rfl, rfl⟩

theorem Dev.writeSnapshot_ring (q p : Pocket) (snap : Snapshot) (d : Dev) :
    (d.ring.get p).sameNumbering ((d.writeSnapshot q snap).ring.get p) := by
  by_cases h : p = q
  · subst h; simp [Dev.writeSnapshot, Ring.sameNumbering, Dev.startOperation, Dev.setService]
  · simp [Dev.writeSnapshot, Per.set_get_of_ne _ _ h, Ring.sameNumbering, Dev.startOperation, Dev.setService]

theorem Dev.writeStart_ring (v : Service) (d : Dev) (p : Pocket) :
    (d.ring.get p).sameNumbering ((d.writeStart v).ring.get p) := by
  unfold Dev.writeStart
  split
  · exact Dev.writeSnapshot_ring _ _ _ _
  · split
    · exact Ring.sameNumbering_of_eq (by simp)
    · rename_i im0 h0
      split
      · rename_i k _
        simpa using Dev.writeSnapshot_ring v.pocket p (im0.snapshot k) (d.setImage v.pocket (some (im0.taken k)))
      · exact Ring.sameNumbering_of_eq (by simp)
      · exact Ring.sameNumbering_of_eq (by simp)

theorem Dev.serve_ring (v : Service) (d : Dev) (p : Pocket) :
    (d.ring.get p).sameNumbering ((d.serve v).ring.get p) := by
  unfold Dev.serve
  split
  · exact Dev.writeStart_ring v d p
  · exact Ring.sameNumbering_of_eq (by simp)

theorem Dev.formatStep_other (p q : Pocket) (failed : Bool) (l : List (Fin 16)) (d : Dev) (h : p ≠ q) :
    (Dev.formatStep q failed l d).ring.get p = d.ring.get p ∧
      (Dev.formatStep q failed l d).journal.get p = d.journal.get p := by
  induction l generalizing d with
  | nil => simp [Dev.formatStep, Dev.finishFormat, Per.set_get_of_ne _ _ h]
  | cons i l ih =>
    unfold Dev.formatStep
    split
    · exact ih d
    · simp

theorem Dev.oldest_some {d : Dev} {f : Work → Bool} {e : Entry} (h : d.oldest f = some e) :
    f e.work = true ∧ e ∈ d.engine.queue :=
  ⟨by simpa using List.find?_some h, List.mem_of_find?_eq_some h⟩

theorem Dev.selectBackground_other (p : Pocket) (d : Dev) (h : d.anyEntry (Work.isFormatOf p) = false) :
    d.selectBackground.ring.get p = d.ring.get p ∧ d.selectBackground.journal.get p = d.journal.get p := by
  unfold Dev.selectBackground
  split
  · split <;> simp
  · split
    · split <;> simp
    · split
      · rename_i e he
        split
        · rename_i q next failed hw
          refine Dev.formatStep_other p q failed _ d ?_
          rintro rfl
          have hm := (Dev.oldest_some he).2
          simp only [Dev.anyEntry, List.any_eq_false] at h
          exact h e hm (by simp [hw, Work.isFormatOf])
        · simp
        · simp
        · simp
      · simp

/-- With no FORMAT entry of the pocket queued, a selection keeps its numbering and its journal. -/
theorem Dev.select_other (p : Pocket) (d : Dev) (h : d.anyEntry (Work.isFormatOf p) = false) :
    (d.ring.get p).sameNumbering (d.select.ring.get p) ∧ d.select.journal.get p = d.journal.get p := by
  unfold Dev.select
  split
  · exact ⟨Ring.sameNumbering_of_eq rfl, rfl⟩
  · split
    · exact ⟨Dev.serve_ring _ d p, by simp⟩
    · split
      · split
        · rename_i e _ _ q _
          exact ⟨by simpa using Dev.serve_ring ⟨q, none⟩ (d.dequeue e) p, by simp⟩
        · exact ⟨Ring.sameNumbering_of_eq rfl, rfl⟩
      · split
        · obtain ⟨h1, h2⟩ := Dev.selectBackground_other p d h
          exact ⟨Ring.sameNumbering_of_eq h1, h2⟩
        · exact ⟨Ring.sameNumbering_of_eq rfl, rfl⟩

/-- What a selection does to the link: nothing but the release of FORMAT replies. -/
def Link.formatsReleased (l l' : Link) : Prop :=
  l' = { l with deferred := l'.deferred, transmit := l'.transmit } ∧ l.transmit <+: l'.transmit ∧
    (∀ e ∈ l'.deferred, e ∈ l.deferred) ∧ ∀ e ∈ l.deferred, e.request ≠ .format → e ∈ l'.deferred

theorem Link.formatsReleased_of_eq {l l' : Link} (h : l' = l) : l.formatsReleased l' := by
  subst h; exact ⟨rfl, List.prefix_rfl, fun _ h => h, fun _ h _ => h⟩

theorem Dev.finishFormat_link (p : Pocket) (failed : Bool) (d : Dev) : d.link.formatsReleased (d.finishFormat p failed).link := by
  simp only [Dev.finishFormat, Dev.release]
  split
  · exact Link.formatsReleased_of_eq (by simp)
  · refine ⟨by simp [Dev.undefer, Dev.reply, Dev.send], by simp [Dev.undefer, Dev.reply, Dev.send], ?_, ?_⟩
    · simp only [Dev.undefer, Dev.reply, Dev.send]; simp; intro e h _; exact h
    · simp only [Dev.undefer, Dev.reply, Dev.send]; simp; intro e h hne; exact ⟨h, by simp [Deferred.isFor, hne]⟩

theorem Dev.formatStep_link (q : Pocket) (failed : Bool) (l : List (Fin 16)) (d : Dev) :
    d.link.formatsReleased (Dev.formatStep q failed l d).link := by
  induction l generalizing d with
  | nil => exact Dev.finishFormat_link q failed d
  | cons i l ih =>
    unfold Dev.formatStep
    split
    · exact ih d
    · exact Link.formatsReleased_of_eq (by simp)

theorem Dev.select_link (d : Dev) : d.link.formatsReleased d.select.link := by
  unfold Dev.select
  split
  · exact Link.formatsReleased_of_eq rfl
  · split
    · exact Link.formatsReleased_of_eq (by simp)
    · split
      · split <;> exact Link.formatsReleased_of_eq (by simp)
      · split
        · unfold Dev.selectBackground
          split
          · split <;> exact Link.formatsReleased_of_eq (by simp)
          · split
            · split <;> exact Link.formatsReleased_of_eq (by simp)
            · split
              · split
                · exact Dev.formatStep_link _ _ _ d
                all_goals exact Link.formatsReleased_of_eq rfl
              · exact Link.formatsReleased_of_eq rfl
        · exact Link.formatsReleased_of_eq rfl

end Sys2Proof.Machine
end

