-- ==== Sys2Proof/Tests/Slice0.lean ====
section
/-! SUPPORT. Tests. The expected results are the spec's worked figures, and each test names where they stand; the
witnesses at the end show that the hypotheses of the statements can be met, clause by clause. -/

namespace Sys2Proof.Tests

set_option Elab.async false

open Sys2Proof Sys2Proof.Machine

/-! ### Small states -/

/-- RUN with mains PRESENT, the reserve ready, the parameters at their defaults, both rings blank, both pockets VACANT, and
a frame whose sync byte has arrived. -/
def base : Dev := { Dev.firstSupply with
  run := .run
  bkd := { Backup.powerUp with continuity := true, monitor := ⟨.present, 0, 1000, 200⟩ }
  reserve := ⟨520, true⟩
  ring := .both ⟨0, Vector.replicate 16 true, 0, none, 0, none, 0⟩
  link := { Link.start false with loaded := true, receiver := .inFrame .empty } }

/-- A state with nothing waiting and an erased array. -/
def st (d : Dev) : State := ⟨[], [], d⟩

/-- The part after a command, from an erased array; the sync byte of its frame, where it is a request, has arrived. -/
def after (c : Instr) (d : Dev) : Dev :=
  match exec c (st (d.setReceiver (.inFrame .empty))) with
  | .next t => t.dev
  | .fault _ => d
  | .refused _ => d

/-- The body of chapter 4's worked sequence at t = 200.000. -/
def body4 : Body := ⟨.drying, 0, 2460, 600, 2, 150, 310, 1200, 62, 64, 0, ⟨10, 120, 60, 1⟩, 60⟩

/-- A clean image with this body, its cycle 7. -/
def imageOf (b : Body) : Image := ⟨b, 7, 0, false, none, .none, none, none, b.exhaustLast, none⟩

/-- Pocket A in a state, with this image. -/
def inState (x : PocketState) (im : Option Image) (d : Dev) : Dev :=
  { d with psq := d.psq.set .a { d.psq.a with state := x }, image := d.image.set .a im }

/-- The basis of Table 7-7: a SUSPEND record, DRYING, H 1260, C 600, T_last 68, n 1, with the default guard program. -/
def body7 : Body := ⟨.drying, 0, 1260, 600, 0, 0, 0, 0, 68, 68, 1, ⟨10, 120, 60, 1⟩, 60⟩

/-- A record of this body for pocket A. -/
def recordOf (k : Kind) (b : Body) (seq : Word) : Record := Snapshot.record ⟨b, 5, k, none, none⟩ .a seq

/-- A warm start's sequencer, and facts with the suspended flag set and a running stall counter. -/
def warm : Sequencer := .start .warm false
def stalled (s l : Nat) : Facts := ⟨true, true, s, 0, l, false⟩

/-! ### Well-formedness -/

theorem test_wellFormed_level : (Instr.reserveResult 600).wellFormed = true ∧ (Instr.reserveResult 601).wellFormed = false := by
  decide
theorem test_wellFormed_code :
    (Instr.routineSampleDone .a 0 4095 0 0).wellFormed = true ∧ (Instr.routineSampleDone .a 4096 0 0 0).wellFormed = false ∧
    (Instr.restoreSampleDone .b 0 0 4096 0).wellFormed = false := by decide
theorem test_wellFormed_offsets :
    (Instr.parameterLoad [(127, 0)]).wellFormed = true ∧ (Instr.parameterLoad [(128, 0)]).wellFormed = false ∧
    (Instr.scanPageRead [(128, 0)]).wellFormed = false ∧ (Instr.writeVerifyDone [(200, 0)]).wellFormed = false ∧
    (Instr.eraseDone [(128, 0)]).wellFormed = false ∧ (Instr.paramOperationDone [(128, 0)]).wellFormed = false ∧
    (Instr.backupCollapse 129 []).wellFormed = false ∧ (Instr.backupCollapse 0 [128]).wellFormed = false := by decide
theorem test_wellFormed_payload :
    (Instr.status (List.replicate 56 0)).wellFormed = true ∧ (Instr.status (List.replicate 57 0)).wellFormed = false ∧
    (Instr.start (List.replicate 57 0)).wellFormed = false ∧ (Instr.frameDiscard [] true).wellFormed = false := by decide
theorem test_wellFormed_type :
    (Instr.unknownRequestType 0 []).wellFormed = true ∧ (Instr.unknownRequestType 1 []).wellFormed = false ∧
    (Instr.unknownRequestType 14 []).wellFormed = false ∧ (Instr.unknownRequestType 15 []).wellFormed = true := by decide
theorem test_wellFormed_row :
    (Instr.resumeAccept [0, 0]).wellFormed = true ∧ (Instr.resumeAccept [0, 1]).wellFormed = false ∧
    (Instr.resumeCool [0, 3]).wellFormed = false ∧ (Instr.clearAllAdvisory [0, 16]).wellFormed = true ∧
    (Instr.clearAllAdvisory [0, 1]).wellFormed = false ∧ (Instr.clearAdvisoryFault [0, 4]).wellFormed = false ∧
    (Instr.clearBlockingFault [0, 3]).wellFormed = false ∧ (Instr.clearBlockingFault [0, 7]).wellFormed = true := by decide

/-- The table gives no row bits, so no word spells a command. -/
theorem test_no_word_decodes : decodeTableWord 16 0x1234 = none := by decide

/-! ### Conversion, checksum, check word, guard clamps, serial numbers -/

/-- Chapter 4, worked conversion. -/
theorem test_conversion :
    Params.convert maskDefaults 2317 = 48 ∧ Params.convert maskDefaults 2350 = 47 ∧
    Params.convert maskDefaults 3950 = 0 ∧ Params.convert maskDefaults 400 = 150 ∧
    Params.codeInRange maskDefaults 390 = false ∧ Params.codeInRange maskDefaults 3951 = false := by decide
/-- Chapter 11, worked checksum. -/
theorem test_checksum : (wordSum maskDefaults.toList).toNat = 29241 ∧ (Params.image maskDefaults)[40]? = some 36295 := by
  decide +kernel
/-- The published check value of this CRC, of the digits 1 to 9 (R80 gives the polynomial and the initial value). -/
theorem test_crc : crc16 [0x31, 0x32, 0x33, 0x34, 0x35, 0x36, 0x37, 0x38, 0x39] = 0x29B1 := by decide +kernel
/-- Table 9-2 at 124.300: period 12 under an on time of 8 becomes 13. -/
theorem test_guard_clamp :
    clampGuard ⟨8, 12, 2, 1⟩ = ⟨8, 13, 2, 1⟩ ∧ clampGuard ⟨0, 0, 0, 5⟩ = ⟨2, 7, 1, 1⟩ ∧
    clampGuard ⟨255, 65535, 255, 0⟩ = ⟨60, 600, 255, 0⟩ := by decide
/-- Table 6-4: 65526 is not newer than 3, and 3 lies 13 after it. -/
theorem test_serial : newer 65526 3 = false ∧ newer 3 65526 = true ∧ serialDistance 3 65526 = 13 ∧ nextCycle 65535 = 1 := by
  decide

/-! ### Planning: the worked cases of 7.9 -/

/-- Outcome, reason, H′, C′ and B′ of a decision at the default parameters. -/
def decision (f : Facts) (t : Int) (k : Kind) (b : Body) : ResumeOutcome × PlanReason × Nat × Nat × Nat :=
  let pl := decidePlan maskDefaults warm f (some t) (recordOf k b 57)
  (pl.outcome, pl.reason, pl.heat, pl.cool, pl.bursts)

theorem test_case1_reheat : decision (stalled 1850 0) 48 .suspend body7 = (.reheat, .normal, 1380, 600, 60) := by decide
theorem test_case2_cool :
    decision (stalled 600 0) 41 .suspend { body7 with phase := .cooling, cool := 420, exhaustLast := 52 } =
      (.cool, .normal, 1260, 149, 60) := by decide
theorem test_case3_guard :
    decision (stalled 1850 0) 41 .suspend { body7 with phase := .anticrease, burstsLeft := 40 } =
      (.guard, .normal, 1260, 600, 25) := by decide
theorem test_case4_long_stall :
    decision (stalled 16777215 0) 48 .suspend body7 = (.hold, .longStall, 1260, 600, 60) := by decide
theorem test_case5_outage_limit :
    decision (stalled 2400 1) 58 .suspend { body7 with heat := 900, exhaustLast := 70, outages := 2 } =
      (.cool, .outageLimit, 900, 395, 60) := by decide
theorem test_case6_expired :
    decision (stalled 3000 0) 41 .suspend { body7 with phase := .anticrease, burstsLeft := 25 } =
      (.close, .expired, 1260, 600, 25) ∧
    decision (stalled 2999 0) 41 .suspend { body7 with phase := .anticrease, burstsLeft := 25 } =
      (.guard, .normal, 1260, 600, 1) := by decide
theorem test_case7_reheat_limits :
    reheatHeat (maskDefaults.set 1 1023) 13000 120 20 = 14400 ∧ reheatHeat (maskDefaults.set 1 1023) 13000 120 125 = 13000 := by
  decide
theorem test_case8_stale :
    decision (stalled 900 1) 38 .progress { body7 with phase := .cooling, cool := 300, exhaustLast := 47, outages := 0 } =
      (.cool, .normal, 1260, 75, 60) ∧
    (decidePlan maskDefaults { warm with strict := true, advisory := ⟨false, true, false⟩ } (stalled 900 1) (some 38)
      (recordOf .progress body7 57)).reason = .strict := by decide
/-- Table 7-8: COOL named against the plan of case 1 gives 237 s. -/
theorem test_case9_cool_choice :
    (coolChoice maskDefaults (decidePlan maskDefaults warm (stalled 1850 0) (some 48) (recordOf .suspend body7 57)) body7).cool = 237 := by
  decide

/-! ### The scan of 6.7 -/

/-- Pocket B's map of Table 6-3: sequences 0 to 3, a torn slot, a blank one, then 65526 to 65535. -/
def mapB : List SlotClass :=
  ([0, 1, 2, 3].map fun q => SlotClass.valid (recordOf .progress body7 q)) ++ [.torn, .blank] ++
    ([65526, 65527, 65528, 65529, 65530, 65531, 65532, 65533, 65534, 65535].map fun q =>
      SlotClass.valid (recordOf .progress body7 q))

theorem test_scan_basis : (selectBasis mapB).map (fun b => (b.slot, b.record.seq)) = some (3, 3) := by decide +kernel
theorem test_scan_ring : ringCorrupt mapB = false ∧ tornTail mapB = some 4 ∧ writePosition mapB = 5 := by decide +kernel
theorem test_scan_history :
    (scannedHistory mapB).map (fun r => r.seq.toNat) =
      [3, 2, 1, 0, 65535, 65534, 65533, 65532, 65531, 65530, 65529, 65528, 65527, 65526] := by decide +kernel
/-- A span of 16 is one too many (R109). -/
theorem test_span_16 :
    ringCorrupt (.valid (recordOf .start body7 16) :: .valid (recordOf .start body7 0) :: List.replicate 14 .blank) = true := by
  decide +kernel

/-! ### Records -/

/-- A record written and read back (R80, R106), and a page cut short in its body, as in 6.7. -/
theorem test_record_reads_back :
    classify .a (pageOf (recordOf .suspend body7 57).written) = .good (.valid (recordOf .suspend body7 57)) ∧
    classify .b (pageOf (recordOf .suspend body7 57).written) = .good .foreign ∧
    classify .a (pageOf ((recordOf .suspend body7 57).written.take 20)) = .good .torn ∧
    (recordOf .suspend body7 57).body = body7 := by decide +kernel
/-- One flipped body byte is a bad read (R106, step 5). -/
theorem test_record_bad_read :
    classify .a (overlay (pageOf (recordOf .suspend body7 57).written) [(12, 0x55)]) = .bad := by decide +kernel

/-! ### Reports: Table 4-4 -/

/-- Pocket A DRYING at t = 200.000 with the erase of B-9 in flight. -/
def reporting : Dev :=
  { inState .drying (some { imageOf body4 with pending := 13, dirty := true, window := some 12, exhaustRef := 61 }) base with
    engine := { Engine.start with inFlight := some (.erase .b 9 .entry) } }

/-- The body and the control items of pocket A's image that Table 4-4 shows. -/
def shown (d : Dev) : Option (Nat × Nat × Nat × Bool × CommitStatus) :=
  (d.image.get .a).map fun im => (im.body.energy, im.body.runTime, im.pending, im.dirty, im.commit)

/-- 200.002: energy and run time 2 each. -/
theorem test_report_merges :
    shown (after (.report [0, 0x60, 2, 0, 2, 0]) reporting) = some (312, 1202, 14, true, .none) ∧
    (after (.report [0, 0x60, 2, 0, 2, 0]) reporting).link.transmit = [⟨0x83, [0, 0, 14]⟩] := by decide +kernel
/-- 200.004 and 200.006: the fifteenth report gives a PROGRESS trigger, and the next is BUSY. -/
theorem test_report_fifteen :
    shown (after (.report [0, 0x20, 1, 0]) (after (.report [0, 0x60, 2, 0, 2, 0]) reporting)) =
      some (313, 1202, 15, true, .queued .progress) ∧
    (after (.report [0, 2, 0x4C, 9])
      (after (.report [0, 0x20, 1, 0]) (after (.report [0, 0x60, 2, 0, 2, 0]) reporting))).link.transmit.getLast? =
      some ⟨0x83, [4, 0, 15]⟩ := by decide +kernel

/-! ### The engine: Table 5-4 -/

/-- A snapshot of body7 for a PROGRESS record. -/
def snap7 : Snapshot := ⟨body7, 7, .progress, none, none⟩

/-- Pocket A's write into slot 14 with sequence 231 in flight. -/
def writing : Dev :=
  { inState .drying (some { imageOf body7 with commit := .inFlight .progress }) base with
    ring := ⟨⟨14, (Vector.replicate 16 false).set 15 true, 231, some 230, 0, none, 7⟩, base.ring.b⟩
    engine := { Engine.start with inFlight := some (.write .a 14 snap7 231 false), service := some ⟨.a, some snap7⟩ } }

/-- 6 ms: the read-back differs; ERASE A-14 is queued and the retry starts in slot 15 with sequence 232. -/
theorem test_verify_fails :
    (after (.writeVerifyDone [(3, 0)]) writing).engine.inFlight = some (.write .a 15 snap7 232 false) ∧
    (after (.writeVerifyDone [(3, 0)]) writing).engine.queue = [⟨0, .erase .a 14⟩] ∧
    (after (.writeVerifyDone [(3, 0)]) writing).psq.a.advisory = ⟨false, false, true⟩ := by decide +kernel
/-- 12 ms: A-15 verifies as 232, ERASE A-1 is queued and the oldest ERASE starts. -/
theorem test_retry_completes :
    (after (.writeVerifyDone []) (after (.writeVerifyDone [(3, 0)]) writing)).ring.a.newest = some 232 ∧
    (after (.writeVerifyDone []) (after (.writeVerifyDone [(3, 0)]) writing)).ring.a.writePos = 0 ∧
    (after (.writeVerifyDone []) (after (.writeVerifyDone [(3, 0)]) writing)).engine.inFlight = some (.erase .a 14 .entry) ∧
    (after (.writeVerifyDone []) (after (.writeVerifyDone [(3, 0)]) writing)).engine.queue = [⟨1, .erase .a 1⟩] := by
  decide +kernel

/-- R79: a slot that holds bytes already, called blank by a misread, does not come out as the record (R84). -/
theorem test_write_over_a_stored_page :
    programmed ((List.replicate 128 0xFF).set 100 0x55) (recordOf .suspend body7 57).written [] ≠
      pageOf (recordOf .suspend body7 57).written ∧
    programmed (List.replicate 128 0xFF) (recordOf .suspend body7 57).written [] =
      pageOf (recordOf .suspend body7 57).written := by decide +kernel
/-- R94: the retry that a loss found in its target erase ends without a record though the erase fails; its SUSPEND goes next. -/
def retryAtLoss : Dev :=
  { inState .suspended (some { imageOf body7 with commit := .inFlight .progress, recommit := some .suspend }) base with
    run := .lossCommit
    ring := ⟨⟨14, Vector.replicate 16 false |>.set 15 true, 231, some 230, 1, none, 7⟩, base.ring.b⟩
    engine := { Engine.start with inFlight := some (.erase .a 14 .target), service := some ⟨.a, some snap7⟩ } }
theorem test_retry_at_loss :
    (after (.eraseDone [(3, 0)]) retryAtLoss).psq.a.blocking.journalFail = false ∧
    ((after (.eraseDone [(3, 0)]) retryAtLoss).image.a.map fun im => im.commit) = some (.inFlight .suspend) ∧
    (after (.eraseDone [(3, 0)]) retryAtLoss).ring.a.writePos = 15 := by decide +kernel

/-! ### The ADC (R9, R75) -/

/-- With a thermistor conversion running, a reserve conversion waits, and goes first when the conversion is over. -/
theorem test_reserve_waits :
    (after .reserveConversionDue (after (.routineSampleDue .a) base)).adc.reserveWaits = true ∧
    (after .reserveConversionDue (after (.routineSampleDue .a) base)).adc.running = some (.thermistor .a) ∧
    ((after .reserveConversionDue (after (.routineSampleDue .b) (after (.routineSampleDue .a) base))).elapse).adc.running =
      some .reserve := by decide +kernel
/-- R9: a routine sample that falls due at the 20 ms of the reserve schedule lets the reserve conversion go first, and
starts a millisecond later where that does not come. -/
theorem test_reserve_first_on_a_tie :
    (after .reserveConversionDue (after (.routineSampleDue .a) { base with adc := { base.adc with reserveMs := 20 } })).adc =
      { base.adc with running := some .reserve, thermistorWaits := ⟨true, false⟩ } ∧
    (after (.routineSampleDue .a) { base with adc := { base.adc with reserveMs := 20 } }).elapse.adc.running =
      some (.thermistor .a) := by decide +kernel
/-- R9: without a conversion there is no result. -/
theorem test_no_conversion_no_result : (after (.reserveResult 100) base).reserve = base.reserve := by decide +kernel
/-- R1: the qualification time goes on after QUALIFYING is left. -/
theorem test_qualification_goes_on : base.elapse.bkd.monitor.qualification = 1001 := by decide +kernel

/-! ### The grant of 8.5 -/

/-- Pocket A in WAITSTART at 31.300 with its accepted REHEAT plan, at the head of the grant queue. -/
def waiting : Dev :=
  let pl := decidePlan maskDefaults warm (stalled 1850 0) (some 48) (recordOf .suspend body7 57)
  { base with
    psq := ⟨{ warm with state := .waitstart, choice := some (choiceOfPlan pl) }, base.psq.b⟩
    plan := ⟨some pl, none⟩
    journal := ⟨⟨[], some ⟨3, recordOf .suspend body7 57⟩, []⟩, base.journal.b⟩
    bkd := { base.bkd with confidence := 9, facts := ⟨stalled 1881 0, .clear⟩ }
    arbiter := ⟨[.a, .b], 31⟩ }

theorem test_grant :
    (after .heaterGrant waiting).psq.a.state = .drying ∧ (after .heaterGrant waiting).arbiter = ⟨[.b], 0⟩ ∧
    (after .heaterGrant waiting).bkd.facts.a = .clear ∧ (after .heaterGrant waiting).heatPermit .a = true ∧
    ((after .heaterGrant waiting).image.a.map fun im => (im.body.heat, im.body.cool, im.body.outages, im.resume)) =
      some (1380, 600, 1, some ⟨.reheat, .normal, 57, 1850, some 48⟩) := by decide +kernel

/-! ### The tumble schedule of 9.7 -/

/-- Pocket A in ANTICREASE at 110.000, its first burst at position 10. -/
def tumbling : Dev :=
  { inState .anticrease (some (imageOf { body4 with phase := .anticrease, guard := ⟨10, 30, 3, 1⟩, burstsLeft := 3 })) base with
    tmb := ⟨⟨.burst, some ⟨10, 30, 3, 1⟩, none, 3, 10, none, .forward⟩, base.tmb.b⟩ }

theorem test_burst_end :
    (after (.burstEnd .a) tumbling).tmb.a = ⟨.rest, some ⟨10, 30, 3, 1⟩, none, 2, 10, none, .reverse⟩ ∧
    (after (.burstEnd .a) tumbling).motorRun .a = false ∧ (after (.burstEnd .a) tumbling).motorRev .a = true := by
  decide +kernel
/-- 124.300: GUARD (A, on 8, period 12, bursts 2, reverse 1) is staged as 13 and answered CLAMPED. -/
theorem test_guard_staged :
    (after (.guard [0, 8, 12, 0, 2, 1]) tumbling).tmb.a.staged = some ⟨8, 13, 2, 1⟩ ∧
    (after (.guard [0, 8, 12, 0, 2, 1]) tumbling).link.transmit = [⟨0x88, [1, 0, 8, 13, 0, 2, 1]⟩] := by decide +kernel

/-! ### The transactions of 10.8 -/

/-- 0.0: START (A, program 12, H 3600, C 900) takes cycle 7 and sequence 41 and owes its reply; at 6.0 it is OK. -/
def starting : Dev :=
  { base with
    sns := ⟨{ Sensor.start with published := some 30 }, Sensor.start⟩
    ring := ⟨⟨0, Vector.replicate 16 true, 40, some 40, 0, none, 6⟩, base.ring.b⟩ }

theorem test_start :
    (after (.start [0, 12, 0x10, 0x0E, 0x84, 3]) starting).psq.a.state = .drying ∧
    (after (.start [0, 12, 0x10, 0x0E, 0x84, 3]) starting).link.deferred = [⟨.start, some .a, false, 0⟩] ∧
    ((after (.start [0, 12, 0x10, 0x0E, 0x84, 3]) starting).image.a.map fun im => (im.cycle, im.body.heat, im.body.cool)) =
      some (7, 3600, 900) ∧
    (after (.start [0, 12, 0x10, 0x0E, 0x84, 3]) starting).ring.a.lastSeq = 41 := by decide +kernel
theorem test_start_reply :
    (after (.writeVerifyDone []) (after (.start [0, 12, 0x10, 0x0E, 0x84, 3]) starting)).link.transmit =
      [⟨0x82, [0, 0, 7, 0, 41, 0]⟩] := by decide +kernel
/-- 3.9: END while the START write is in flight sets the mark and the recommit request. -/
theorem test_end :
    (after (.endCycle [0]) (after (.start [0, 12, 0x10, 0x0E, 0x84, 3]) starting)).psq.a.mark = some .ended ∧
    ((after (.endCycle [0]) (after (.start [0, 12, 0x10, 0x0E, 0x84, 3]) starting)).image.a.bind fun im => im.recommit) =
      some .close := by decide +kernel

/-- R163: the bytes of a START frame do what START does, and without a sync byte a request is not heard. -/
theorem test_frame_is_dispatched :
    after (.frameDiscard [6, 2, 0, 12, 0x10, 0x0E, 0x84, 3, 0x47] false) starting =
      after (.start [0, 12, 0x10, 0x0E, 0x84, 3]) starting ∧
    exec (.start [0, 12, 0x10, 0x0E, 0x84, 3]) (st (starting.setReceiver .hunting)) =
      .next (st (starting.setReceiver .hunting)) := ⟨by decide +kernel, rfl⟩
/-- R166, R179, R12: TXD carries the reply, idles high without one, and is released in BACKUP. -/
theorem test_txd :
    (after (.endCycle []) base).txdPin = .sending [0xC5, 1, 0x85, 7, 0x73] ∧ base.txdPin = .steady .high ∧
    { base with run := .backup }.txdPin = .steady .released := by decide +kernel

/-- Pocket A DRYING with a clean image and an idle engine. -/
def cycling : Dev := inState .drying (some (imageOf body4)) base

/-! ### Witnesses: the hypotheses of each statement can be met, each clause by a state of its own

A name is `witness_<statement>` or `witness_<statement>_<clause>`; where a statement quantifies over commands or figures
as well, the witness gives them too. -/

/-- The mains monitor in this state, with these times. -/
def mains (m : MainsState) (absence qualification : Nat) (d : Dev) : Dev :=
  { d with bkd := { d.bkd with monitor := ⟨m, absence, qualification, 200⟩ } }
/-- This run state. -/
def running (r : RunState) (d : Dev) : Dev := { d with run := r }
/-- This operation in flight. -/
def flying (op : Operation) (d : Dev) : Dev := { d with engine := { d.engine with inFlight := some op } }
/-- Pocket A under JOURNAL_FAIL. -/
def failed (d : Dev) : Dev := { d with psq := d.psq.set .a { d.psq.a with blocking := ⟨true, false, false, false⟩ } }
/-- Pocket A under a closing mark. -/
def marked (d : Dev) : Dev := { d with psq := d.psq.set .a { d.psq.a with mark := some .ended } }
/-- Pocket A's tumble timer in this state. -/
def timer (x : TimerState) (g : GuardProgram) (bursts position : Nat) (d : Dev) : Dev :=
  { d with tmb := d.tmb.set .a ⟨x, some g, none, bursts, position, none, .forward⟩ }
/-- This reply owed. -/
def owing (q : Request) (p : Option Pocket) (d : Dev) : Dev :=
  { d with link := { d.link with deferred := [⟨q, p, false, 0⟩] } }
/-- The doors open. -/
def openDoors (d : Dev) : Dev := { d with pins := ⟨.both true, false⟩ }
/-- Pocket A PLANNED from body7 with a plan of this outcome. -/
def planned (o : ResumeOutcome) (d : Dev) : Dev :=
  { d with
    psq := d.psq.set .a { d.psq.a with state := .planned }
    plan := d.plan.set .a (some (basisPlan (recordOf .suspend body7 57) (stalled 1850 0) (some 48) o .normal))
    journal := d.journal.set .a ⟨[], some ⟨3, recordOf .suspend body7 57⟩, [recordOf .suspend body7 57]⟩
    bkd := { d.bkd with facts := d.bkd.facts.set .a (stalled 1850 0) } }

/-- The ADC in this condition. -/
def converting (running : Option Conversion) (waits : Bool) (thermistors : Per Bool) (started since : Nat) (d : Dev) : Dev :=
  { d with adc := ⟨running, waits, thermistors, ⟨started, 0⟩, ⟨since, 0⟩, 0⟩ }
/-- This time since a reserve conversion last fell due. -/
def reserveAt (ms : Nat) (d : Dev) : Dev := { d with adc := { d.adc with reserveMs := ms } }
/-- Pocket A's routine sample under way. -/
def sampled (d : Dev) : Dev := { d with sns := d.sns.set .a { d.sns.a with sampling := .routine } }
/-- The stall counter stopped and running at 0, at 998 and at 999 ms; the main domain powered and dark; and each case of
the ADC: a reserve conversion, a thermistor conversion with either waiting, none with the sample 0 and 1 ms on, a reserve
conversion 2 ms and 1 ms away, and idle. -/
theorem witness_IdleStepPassesAMillisecond :
    (st base).pending = [] ∧ base.bkd.powered = true ∧ base.bkd.facts.a.stallRunning = false ∧
    (∀ ms ∈ [0, 998, 999], { stalled 16777215 0 with stallMs := ms }.stallRunning = true ∧
      { stalled 16777215 0 with stallMs := ms }.stall ≤ 16777215 ∧ (ms < 999 ∨ ms = 999)) ∧ base.bkd.tickMs < 1000 ∧
    (running .backup base).run = .backup ∧ base.run ≠ .backup ∧
    (converting (some .reserve) false (.both true) 0 0 base).adc.running = some .reserve ∧
    (converting (some (.thermistor .a)) true (.both false) 1 0 base).adc.running = some (.thermistor .a) ∧
    (converting (some (.thermistor .a)) true (.both false) 1 0 base).adc.reserveWaits = true ∧
    (converting (some (.thermistor .a)) false ⟨false, true⟩ 1 0 base).adc.thermistorWaits = (Per.both false).set .b true ∧
    (base.sns.get .a).sampling = .none ∧ (base.sns.get .b).sampling = .none ∧ base.adc.running = none ∧
    base.adc.reserveWaits = false ∧ base.adc.thermistorWaits = .both false ∧
    (∀ n ∈ [1, 3], ∀ ms ∈ [0, 1], ∀ at' ∈ [18, 19],
      (sampled (reserveAt at' (converting none false (.both false) n ms base))).adc =
        ⟨none, false, .both false, ⟨n, 0⟩, ⟨ms, 0⟩, at'⟩ ∧ 1 ≤ n ∧ n < 4 ∧ (at' ≠ 19 ∨ at' = 19) ∧
      ((sampled (reserveAt at' (converting none false (.both false) n ms base))).sns.get .a).sampling = .routine) := by decide
/-! Mains. -/

theorem witness_ZeroCrossEdge :
    ∀ m ∈ [MainsState.present, .absent, .qualifying],
      (mains m 0 0 base).bkd.powered = true ∧ (mains m 0 0 base).bkd.monitor.state ≠ .dip := by decide
/-- A dip with pocket A's timer paused in this phase. -/
def paused (i : TumblePhase) : Dev :=
  { mains .dip 30 0 base with tmb := ⟨⟨.paused, some ⟨10, 120, 60, 1⟩, none, 5, 4, some i, .forward⟩, base.tmb.b⟩ }
theorem witness_ZeroCrossEdge_dip :
    ∀ i ∈ [TumblePhase.burst, .rest],
      (paused i).bkd.powered = true ∧ (paused i).bkd.monitor.state = .dip ∧ (paused i).run ≠ .backup ∧
        ((paused i).psq.get .a).state ≠ .waitstart ∧ ((paused i).tmb.get .a).state = .paused ∧
        ((paused i).tmb.get .a).interrupted = some i := by decide
/-- A recovered dip with no pocket in WAITSTART: the engine free, busy, and under the reset hold. -/
theorem witness_ZeroCrossEdge_engine :
    (mains .dip 30 0 cycling).bkd.monitor.state = .dip ∧ (mains .dip 30 0 cycling).run = .run ∧
    (cycling.psq.get .a).state ≠ .waitstart ∧ (cycling.psq.get .b).state ≠ .waitstart ∧
    (mains .dip 30 0 cycling).link.resetHold = false ∧ (mains .dip 30 0 cycling).engine.inFlight = none ∧
    (mains .dip 30 0 cycling).engine.service = none ∧ (mains .dip 30 0 reporting).engine.inFlight ≠ none ∧
    (reporting.psq.get .a).state ≠ .waitstart ∧
    { cycling with link := { cycling.link with resetHold := true } }.link.resetHold = true := by decide
theorem witness_DipEntry :
    (mains .present 30 0 base).bkd.powered = true ∧ (mains .present 30 0 base).bkd.monitor.state = .present ∧
    (mains .present 30 0 base).run ≠ .backup ∧ (mains .present 30 0 base).link.loaded = true ∧
    (mains .present 30 0 base).link.params[21].toNat ≤ (mains .present 30 0 base).bkd.monitor.absence := by decide
theorem witness_QualifyAbort :
    (mains .qualifying 30 0 base).bkd.powered = true ∧ (mains .qualifying 30 0 base).bkd.monitor.state = .qualifying := by
  decide
/-- A pocket in WAITSTART whose choice is of this outcome, with its basis. -/
def awaiting (o : ResumeOutcome) : Dev :=
  { planned o base with
    psq := base.psq.set .a { base.psq.a with state := .waitstart, choice := some ⟨o, 1260, 600, 60, ⟨10, 120, 60, 1⟩⟩ } }
/-- The start test at a recovered dip: a pocket that leaves WAITSTART and one that waits for a grant (R139, R143). -/
theorem witness_ZeroCrossEdge_start :
    ∀ o ∈ [ResumeOutcome.cool, .guard, .reheat],
      (mains .dip 30 0 (awaiting o)).bkd.powered = true ∧ (mains .dip 30 0 (awaiting o)).bkd.monitor.state = .dip ∧
      (awaiting o).run = .run ∧ (awaiting o).link.resetHold = false ∧ (awaiting o).reserve.ready = true ∧
      ((awaiting o).psq.get .a).state = .waitstart ∧ (((awaiting o).psq.get .a).choice.map fun c => c.outcome) = some o ∧
      ((awaiting o).journal.get .a).basis = some ⟨3, recordOf .suspend body7 57⟩ ∧
      { awaiting o with reserve := ⟨300, false⟩ }.reserve.ready = false := by decide +kernel
theorem witness_LossInStartup :
    (running .startup (mains .dip 200 0 base)).bkd.powered = true ∧
    (running .startup (mains .dip 200 0 base)).bkd.monitor.state = .dip ∧
    (running .startup (mains .dip 200 0 base)).run = .startup := by decide
/-- With an operation in flight LOSS_COMMIT begins with it; with none, pocket A's SUSPEND starts its write, or the part
powers down at 359 and with nothing to write. -/
theorem witness_LossInRun :
    (mains .dip 200 0 reporting).bkd.powered = true ∧ (mains .dip 200 0 reporting).bkd.monitor.state = .dip ∧
    (mains .dip 200 0 reporting).run = .run ∧ (mains .dip 200 0 reporting).engine.inFlight ≠ none ∧
    (after .lossDeclaration (mains .dip 200 0 reporting)).run = .lossCommit ∧
    (mains .dip 200 0 cycling).engine.inFlight = none ∧ (mains .dip 200 0 cycling).engine.service = none ∧
    (∀ l ∈ [359, 360], (after .lossDeclaration { (mains .dip 200 0 cycling) with reserve := ⟨l, true⟩ }).run =
      if l = 359 then .backup else .lossCommit) ∧
    (reporting.psq.get .a).state.active = true ∧ (reporting.psq.get .b).state = .vacant ∧
    (after .lossDeclaration (mains .dip 200 0 base)).run = .backup := by decide +kernel
theorem witness_MainsReturn :
    (∀ c ∈ [true, false],
      (running .backup (mains .qualifying 0 1000 { base with bkd := { base.bkd with continuity := c } })).bkd.powered = true ∧
      (running .backup (mains .qualifying 0 1000 { base with bkd := { base.bkd with continuity := c } })).bkd.continuity = c) ∧
    (running .backup (mains .qualifying 0 1000 base)).bkd.monitor.state = .qualifying ∧
    (running .backup base).run = .backup ∧ (running .lossCommit base).run ≠ .backup ∧
    (running .lossCommit (mains .qualifying 0 1000 base)).bkd.monitor.state = .qualifying := by decide
theorem witness_SettleEndAndConfidenceRise :
    { base with settle := ⟨true, 3000⟩ }.settle.flag = true ∧ base.bkd.powered = true ∧
    base.bkd.monitor.state = .present ∧ { base.bkd with interval := 600 }.interval = 600 := by decide

/-! Reserve. -/

theorem witness_ConversionsBegin :
    base.run ≠ .backup ∧ base.run = .run ∧ base.link.resetHold = false ∧ base.adc.running = none ∧
    base.adc.reserveMs ≠ 20 ∧ (reserveAt 20 base).adc.reserveMs = 20 ∧
    (converting (some (.thermistor .b)) false (.both false) 0 0 base).adc.running ≠ none := by decide
/-- A reserve conversion that runs. -/
def measuring (d : Dev) : Dev := converting (some .reserve) false (.both false) 0 0 d
/-- Both thresholds at their boundaries, from each side of ready, and the greatest level; the conversion running, waiting and
neither, with and without a thermistor conversion that waits; and the start test of R139. -/
theorem witness_ReserveResult :
    (∀ l ∈ [0, 439, 440, 459, 460, 600], l ≤ 600) ∧ base.run ≠ .backup ∧ base.run = .run ∧ base.reserve.ready = true ∧
    base.faults.reserveLow = false ∧ { base with reserve := ⟨0, false⟩ }.reserve.ready = false ∧
    (∀ l ∈ [439, 440], (after (.reserveResult l) (measuring base)).reserve.ready = decide (l = 440)) ∧
    (∀ l ∈ [459, 460], (after (.reserveResult l) (measuring { base with reserve := ⟨0, false⟩ })).reserve.ready =
      decide (l = 460)) ∧
    base.adc.running ≠ some .reserve ∧ base.adc.reserveWaits = false ∧ (measuring base).adc.running = some .reserve ∧
    (converting (some (.thermistor .a)) true (.both false) 1 0 base).adc.reserveWaits = true ∧
    (converting (some .reserve) true (.both false) 0 0 base).adc.reserveWaits = true ∧
    (converting (some .reserve) false ⟨true, false⟩ 0 0 base).adc.thermistorWaits = (Per.both false).set .a true ∧
    (∀ o ∈ [ResumeOutcome.cool, .guard], (awaiting o).bkd.monitor.state = .present ∧ (awaiting o).link.resetHold = false ∧
      (after (.reserveResult 460) (measuring { awaiting o with reserve := ⟨0, false⟩ })).psq.a.state ≠ .waitstart) ∧
    (running .startup base).run ≠ .run := by decide +kernel
/-! The backup domain. -/

theorem witness_BackupPowerUp : { base.bkd with powered := false }.powered = false := by decide
theorem witness_BackupCollapse :
    base.bkd.powered = true ∧ (st base).array.wf = true ∧ base.engine.inFlight = none ∧
    (∀ a, (st base).array.read a = 0xFF) ∧
    (flying (.write .a 4 snap7 3 false) base).engine.inFlight = some (.write .a 4 snap7 3 false) ∧
    (flying (.erase .b 15 .entry) base).engine.inFlight = some (.erase .b 15 .entry) ∧
    (flying (.param [] false 0) base).engine.inFlight = some (.param [] false 0) :=
  ⟨by decide, by decide, by decide, fun _ => rfl, by decide, by decide, by decide⟩
theorem witness_BackupTick :
    waiting.bkd.powered = true ∧ waiting.run ≠ .backup ∧ (waiting.bkd.facts.get .a).stallRunning = true ∧
    waiting.bkd.tickMs = 0 ∧ (waiting.bkd.facts.get .a).stallMs < 1000 ∧
    (waiting.bkd.facts.get .b).stallRunning = false ∧ (waiting.tmb.get .a).state = .idle ∧
    (tumbling.tmb.get .a).state = .burst ∧ (tumbling.tmb.get .a).active = some ⟨10, 30, 3, 1⟩ ∧
    ((timer .rest ⟨10, 30, 3, 1⟩ 2 29 base).tmb.get .a).state = .rest ∧
    ((timer .rest ⟨10, 30, 3, 1⟩ 2 29 base).tmb.get .a).active = some ⟨10, 30, 3, 1⟩ ∧
    (running .backup base).run = .backup := by decide +kernel
/-- A waiting pocket whose door reads open, and an active one. -/
theorem witness_DoorSampleMark :
    waiting.bkd.powered = true ∧ (openDoors waiting).run = .run ∧
    ((openDoors waiting).bkd.facts.get .a).stallRunning = true ∧ (openDoors waiting).pins.doorOpen.get .a = true ∧
    ((openDoors waiting).bkd.facts.get .a).latch = false ∧ ((openDoors waiting).psq.get .a).state = .waitstart ∧
    ((openDoors waiting).psq.get .a).mark = none ∧ ((openDoors waiting).psq.get .a).startKind = .warm ∧
    ((openDoors waiting).bkd.facts.get .a).suspended = true ∧ ((openDoors waiting).psq.get .a).blocking = .empty ∧
    ((openDoors waiting).psq.get .a).strict = false ∧ ((openDoors waiting).journal.get .a).basis ≠ none ∧
    ((marked (openDoors waiting)).psq.get .a).mark ≠ none ∧ (running .startup waiting).run ≠ .run := by decide +kernel

/-! Doors and nRESET. -/

theorem witness_DoorInputChange :
    tumbling.pins.doorOpen.get .a ≠ true ∧ (openDoors tumbling).pins.doorOpen.get .a ≠ false ∧ tumbling.run = .run ∧
    tumbling.link.resetHold = false ∧ (tumbling.psq.get .a).state = .anticrease ∧ (tumbling.psq.get .a).mark = none ∧
    (tumbling.tmb.get .a).state = .burst ∧ tumbling.bkd.monitor.state = .present := by decide
/-- An opening in ANTICREASE with each commit status, with the engine free, busy and outside RUN; under JOURNAL_FAIL; and an
opening that is not acted on. -/
theorem witness_DoorDebounce :
    (openDoors tumbling).run ≠ .backup ∧
    (openDoors tumbling).pins.doorOpen.get .a ≠ ((openDoors tumbling).psq.get .a).doorOpen ∧
    ((openDoors tumbling).psq.get .a).state = .anticrease ∧ ((openDoors tumbling).psq.get .a).mark = none ∧
    (openDoors tumbling).pins.doorOpen.get .a = true ∧ ((openDoors tumbling).psq.get .a).blocking.journalFail = false ∧
    ((failed (openDoors tumbling)).psq.get .a).blocking.journalFail = true ∧
    (∀ k ∈ [CommitStatus.none, .queued .phase, .inFlight .phase],
      ((inState .anticrease (some { imageOf body4 with commit := k }) tumbling).image.get .a).map (fun im => im.commit) =
        some k) ∧
    tumbling.engine.inFlight = none ∧ (flying (.erase .b 9 .entry) tumbling).engine.inFlight ≠ none ∧
    (running .lossCommit tumbling).run ≠ .run ∧
    (openDoors reporting).pins.doorOpen.get .a ≠ ((openDoors reporting).psq.get .a).doorOpen ∧
    ((openDoors reporting).psq.get .a).state ≠ .anticrease := by decide
theorem witness_Nreset :
    base.pins.nresetLow = false ∧ base.link.resetHold = false ∧ base.run = .run ∧ base.engine.inFlight = none ∧
    reporting.run = .run ∧ reporting.engine.inFlight ≠ none ∧ (running .lossCommit base).run = .lossCommit ∧
    (running .startup base).run = .startup := by decide
/-- A request that waits takes effect with each operation that can be in flight; a record written is counted. -/
theorem witness_Nreset_waits :
    (∀ op ∈ [Operation.write .a 14 snap7 231 false, .erase .b 9 .entry, .param [] false 0],
      ∀ c, c = Instr.writeVerifyDone [] ∨ c = .eraseDone [] ∨ c = .paramOperationDone [] →
        (flying op { writing with link := { writing.link with resetHold := true } }).run = .run ∧
        (flying op { writing with link := { writing.link with resetHold := true } }).link.resetHold = true ∧
        (flying op { writing with link := { writing.link with resetHold := true } }).engine.inFlight = some op) ∧
    snap7.kind ≠ .close ∧ (st writing).array.wf = true ∧ (∀ a, (st writing).array.read a = 0xFF) := by
  refine ⟨fun op _ c _ => ⟨rfl, rfl, rfl⟩, by decide, by decide, fun _ => rfl⟩

/-! STARTUP and sampling. -/

/-- STARTUP before the parameter load, and while the scan goes on with this many pages read. -/
def starts : Dev := { running .startup base with link := { base.link with loaded := false } }
def scanning (a b : Nat) (bad : Nat) : Dev :=
  { running .startup base with
    scan := ⟨.scanning, bad⟩
    sns := .both { Sensor.start with sampling := .restore }
    journal := ⟨⟨List.replicate a .blank, none, []⟩, ⟨List.replicate b .blank, none, []⟩⟩ }

/-- An erased page has the sum −41 and takes the defaults; the page of the defaults has the sum 0 (chapter 11). -/
theorem witness_ParameterLoad :
    starts.run = .startup ∧ starts.link.resetHold = false ∧ starts.link.loaded = false ∧
    starts.faults.paramDefault = false ∧ starts.adc.running = none ∧ starts.adc.reserveMs ≠ 20 ∧
    (measuring starts).adc.running ≠ none ∧ (reserveAt 20 starts).adc.reserveMs = 20 ∧
    wordSum (pageWords (overlay ((st starts).array.page 32) [])) ≠ 0 ∧
    wordSum (pageWords (overlay (pageOf (imageBytes (Params.image maskDefaults))) [])) = 0 := by decide +kernel
/-- The first and the last page of pocket A, the first and the fifteenth of pocket B; a good read, a bad one and a third
bad one. -/
theorem witness_ScanPageRead :
    (∀ x ∈ [(0, 0), (15, 0), (16, 0), (16, 14)], (scanning x.1 x.2 0).run = .startup ∧
      (scanning x.1 x.2 0).link.resetHold = false ∧ (scanning x.1 x.2 0).scan.state = .scanning ∧
      ((scanning x.1 x.2 0).journal.get .a).map.length = x.1 ∧ ((scanning x.1 x.2 0).journal.get .b).map.length = x.2) ∧
    classify .a (overlay ((st (scanning 0 0 0)).array.page 0) []) = .good .blank ∧
    classify .a (overlay (pageOf (recordOf .suspend body7 57).written) [(12, 0x55)]) = .bad ∧
    (scanning 0 0 2).scan.badReads = 2 := by decide +kernel
/-- A bad read of an erased page 31: a record of pocket B with one wrong byte. -/
def badRead : List Host.Cell :=
  ((overlay (Snapshot.record ⟨body7, 5, .suspend, none, none⟩ .b 57).written [(12, 0x55)]).mapIdx fun i b => (i, b))
/-- A good last read and a third bad one; a map without a VALID slot, with a torn slot after the basis, and with none. -/
theorem witness_ScanEnds :
    (scanning 16 15 0).run = .startup ∧ (scanning 16 15 0).link.resetHold = false ∧
    (scanning 16 15 0).scan.state = .scanning ∧ ((scanning 16 15 0).journal.get .a).map.length = 16 ∧
    ((scanning 16 15 0).journal.get .b).map.length = 15 ∧ ((scanning 16 15 0).sns.get .a).sampling ≠ .none ∧
    classify .b (overlay ((st (scanning 16 15 0)).array.page 31) []) = .good .blank ∧
    classify .b (overlay ((st (scanning 16 15 2)).array.page 31) badRead) = .bad ∧ 2 ≤ (scanning 16 15 2).scan.badReads ∧
    selectBasis (List.replicate 16 .blank) = none ∧
    (selectBasis mapB).map (fun b => mapB[(b.slot + 1).val]?) = some (some .torn) ∧
    (selectBasis (.valid (recordOf .start body7 1) :: List.replicate 15 .blank)).isSome = true ∧
    (scanning 16 15 0).engine.queue = [] := by decide +kernel
theorem witness_BasisIsNewest :
    mapB.length = 16 ∧ mapB[(3 : Fin 16).val]? = some (.valid (recordOf .progress body7 3)) ∧
    (mapB.all fun c => match c with
      | .valid q => decide (serialDistance 3 q.seq ≤ 32767)
      | .blank => true
      | .torn => true
      | .foreign => true) = true := by decide +kernel
/-- The boundaries of the table, a temperature at T_LIMIT and one below it, the streak at 1 and at 2. -/
theorem witness_RoutineSample :
    base.run = .run ∧ base.link.resetHold = false ∧
    (base.sns.get .a).sampling ≠ .routine ∧ ((sampled base).sns.get .a).sampling = .routine ∧
    (sampled base).run = .run ∧ (sampled base).link.params = base.link.params ∧
    (Params.code base.link.params 0 ≤ (400 + 400 + 400 + 400) / 4 ∧ (400 + 400 + 400 + 400) / 4 ≤ Params.code base.link.params 8) ∧
    (399 + 399 + 399 + 399) / 4 < Params.code base.link.params 0 ∧
    Params.code base.link.params 8 < (3951 + 3951 + 3951 + 3951) / 4 ∧
    base.link.params[6].toInt ≤ Params.convert base.link.params 1027 ∧
    Params.convert base.link.params 1028 < base.link.params[6].toInt ∧
    (base.psq.get .a).blocking.sensor = false ∧ (base.sns.get .a).streak < 2 ∧
    2 ≤ { base.sns.a with streak := 2 }.streak := by decide +kernel
theorem witness_RestoreSample :
    (scanning 3 0 0).run = .startup ∧ ((scanning 3 0 0).sns.get .a).sampling = .restore ∧
    (scanning 3 0 0).scan.state ≠ .done ∧ ((scanning 3 0 0).sns.get Pocket.a.other).sampling ≠ .none := by decide
/-- The last restore sample, with a basis for pocket A and none for pocket B, in a warm and in a cold start. -/
def lastSample : Dev :=
  { running .startup base with
    scan := ⟨.done, 0⟩
    sns := ⟨{ Sensor.start with sampling := .restore }, Sensor.start⟩
    journal := ⟨⟨[], some ⟨3, recordOf .suspend body7 57⟩, []⟩, Journal.start⟩
    bkd := { base.bkd with facts := ⟨stalled 1850 0, .clear⟩ } }
theorem witness_StartupEnds :
    lastSample.run = .startup ∧ lastSample.link.resetHold = false ∧ (lastSample.sns.get .a).sampling = .restore ∧
    lastSample.scan.state = .done ∧ (lastSample.sns.get Pocket.a.other).sampling = .none ∧
    (lastSample.psq.get .a).state = .vacant ∧ (lastSample.psq.get .b).state = .vacant ∧
    (lastSample.journal.get .b).basis = none ∧ (recordOf .suspend body7 57).kind ≠ some .close ∧
    (after (.restoreSampleDone .a 2317 2317 2317 2317) lastSample).psq.a.state = .planned ∧ lastSample.adc.running = none ∧
    lastSample.adc.reserveMs ≠ 20 ∧ (reserveAt 20 lastSample).adc.reserveMs = 20 := by decide +kernel
/-- R14: pocket A's routine sample begins with the entry to RUN. -/
theorem test_run_begins_sampling :
    (after (.restoreSampleDone .a 2317 2317 2317 2317) lastSample).run = .run ∧
    (after (.restoreSampleDone .a 2317 2317 2317 2317) lastSample).sns.a.sampling = .routine ∧
    (after (.restoreSampleDone .a 2317 2317 2317 2317) lastSample).adc.running = some (.thermistor .a) := by decide +kernel
/-- The last page of the scan with both samples taken, read well and badly for the third time. -/
def lastPage (bad : Nat) : Dev := { scanning 16 15 bad with sns := .both Sensor.start }
theorem witness_StartupEnds_scan :
    (lastPage 2).run = .startup ∧ (lastPage 2).link.resetHold = false ∧ (lastPage 2).scan.state = .scanning ∧
    ((lastPage 2).journal.get .a).map.length = 16 ∧ ((lastPage 2).journal.get .b).map.length = 15 ∧
    ((lastPage 2).sns.get .a).sampling = .none ∧ ((lastPage 2).sns.get .b).sampling = .none ∧
    ((lastPage 2).psq.get .a).state = .vacant ∧ ((lastPage 2).psq.get .b).state = .vacant ∧
    classify .b (overlay ((st (lastPage 0)).array.page 31) []) = .good .blank ∧
    classify .b (overlay ((st (lastPage 2)).array.page 31) badRead) = .bad ∧ 2 ≤ (lastPage 2).scan.badReads ∧
    (after (.scanPageRead []) (lastPage 0)).run = .run := by decide +kernel
/-! Commits and the array. -/

/-- A dirty image with its window at n seconds, and a target slot that is not blank. -/
def windowAt (n : Nat) : Dev := inState .drying (some { imageOf body4 with dirty := true, window := some n }) base
def unwritable (n : Nat) : Dev := { windowAt n with ring := writing.ring }
/-- The engine serves the PROGRESS entry in the same step, in PRESENT and in DIP, the target blank and not; and the entry
joins the queue behind an operation in flight and under the reset hold. -/
theorem witness_MergeWindowExpiry_serves :
    (∀ d ∈ [windowAt 30, unwritable 30, mains .dip 30 0 (windowAt 30), mains .dip 30 0 (unwritable 30)],
      d.run = .run ∧ d.image.get .a = some { imageOf body4 with dirty := true, window := some 30 } ∧
      (d.bkd.monitor.state = .present ∨ d.bkd.monitor.state = .dip) ∧ d.link.resetHold = false ∧
      d.engine.inFlight = none ∧ d.engine.service = none ∧ d.hasCommit .a = false ∧ d.hasCommit .b = false ∧
      (d.psq.get .a).blocking.journalFail = false) ∧
    (imageOf body4).commit = .none ∧
    ((windowAt 30).ring.get .a).blank[((windowAt 30).ring.get .a).writePos] = true ∧
    ((unwritable 30).ring.get .a).blank[((unwritable 30).ring.get .a).writePos] = false ∧
    (flying (.erase .b 9 .entry) (windowAt 30)).engine.inFlight ≠ none ∧
    { (windowAt 30) with link := { base.link with resetHold := true } }.link.resetHold = true := by decide +kernel
/-- The window at 29 and at 30 s in STEADY, at 9 and at 10 s in WARY. -/
theorem witness_MergeWindowExpiry :
    (∀ n ∈ [29, 30], (windowAt n).image.get .a =
      some { imageOf body4 with dirty := true, window := some n }) ∧
    base.run = .run ∧ 8 ≤ base.bkd.confidence ∧ ¬8 ≤ { base.bkd with confidence := 7 }.confidence ∧
    (base.psq.get .a).blocking.journalFail = false ∧ ((failed base).psq.get .a).blocking.journalFail = true := by decide
theorem witness_WriteCompletes :
    writing.engine.inFlight = some (.write .a 14 snap7 231 false) ∧ writing.run = .run ∧ writing.link.resetHold = false ∧
    writing.anyEntry (Work.isFormatOf .a) = false ∧ (st writing).array.wf = true ∧ snap7.kind ≠ .close ∧
    (writing.image.get .a).isSome = true ∧ { snap7 with kind := .close }.kind = .close ∧
    (writing.psq.get .a).state ≠ .vacant ∧ (base.psq.get .a).state = .vacant ∧
    (owing .start (some .a) writing).owed .start (some .a) = some ⟨.start, some .a, false, 0⟩ ∧
    (owing .checkpoint (some .a) writing).owed .checkpoint (some .a) = some ⟨.checkpoint, some .a, false, 0⟩ ∧
    (owing .endCycle (some .a) writing).owed .endCycle (some .a) = some ⟨.endCycle, some .a, false, 0⟩ := by decide +kernel
/-- The page was erased; slot 0, two after it, is not blank, and is; and in LOSS_COMMIT with a SUSPEND recommit and none. -/
theorem witness_WriteCompletes_loss :
    (∀ a, (st writing).array.read a = 0xFF) ∧ (writing.ring.get .a).blank[(14 : Fin 16) + 2] = false ∧
    (flying (.write .a 13 snap7 231 false) writing).engine.inFlight = some (.write .a 13 snap7 231 false) ∧
    (writing.ring.get .a).blank[(13 : Fin 16) + 2] = true ∧ writing.countEntries Work.isErase < 4 ∧
    (running .lossCommit writing).run = .lossCommit ∧
    (∀ k ∈ [none, some Kind.suspend], ((inState .suspended
      (some { imageOf body7 with commit := .inFlight .progress, recommit := k }) writing).image.get .a).map
        (fun im => (im.recommit, im.dirty)) = some (k, false)) ∧
    (flying (.write .a 14 snap7 231 true) (running .lossCommit writing)).engine.inFlight =
      some (.write .a 14 snap7 231 true) :=
  ⟨fun _ => rfl, by decide, by decide, by decide, by decide, by decide, by decide, by decide⟩
theorem witness_WriteFails :
    programmed ((st writing).array.page (slotPage .a 14)) (snap7.record .a 231).written [(3, 0)] ≠
      pageOf (snap7.record .a 231).written ∧
    writing.engine.inFlight = some (.write .a 14 snap7 231 false) ∧ writing.run = .run ∧ writing.link.resetHold = false ∧
    (writing.ring.get .a).failures = 0 ∧ writing.engine.service = some ⟨.a, some snap7⟩ ∧
    (writing.ring.get .a).blank[(14 : Fin 16) + 1] = true ∧ (writing.ring.get .a).blank[(13 : Fin 16) + 1] = false ∧
    { writing.ring.a with failures := 1 }.failures ≠ 0 ∧ writing.anyEntry (Work.isFormatOf .a) = false ∧
    (writing.psq.get .a).mark = none ∧ ((marked writing).psq.get .a).mark ≠ none ∧
    (writing.psq.get .a).state ≠ .vacant := by decide +kernel
/-- In LOSS_COMMIT: a first write from before the loss, a second failure, and a SUSPEND write with the reserve at V_WRITE and
below, its next slot blank and not, and no other commit queued. -/
theorem witness_WriteFails_loss :
    (flying (.write .a 14 snap7 231 true) (running .lossCommit writing)).engine.inFlight =
      some (.write .a 14 snap7 231 true) ∧ (running .lossCommit writing).run = .lossCommit ∧
    { writing.ring.a with failures := 1 }.failures ≠ 0 ∧ (running .lossCommit writing).engine.service = some ⟨.a, some snap7⟩ ∧
    (writing.ring.get .a).failures = 0 ∧ { writing with reserve := ⟨360, false⟩ }.reserve.level = 360 ∧
    { writing with reserve := ⟨359, false⟩ }.reserve.level < 360 ∧ (writing.ring.get .a).blank[(14 : Fin 16) + 1] = true ∧
    (writing.ring.get .a).blank[(13 : Fin 16) + 1] = false ∧ writing.hasCommit .a = false ∧ writing.hasCommit .b = false := by
  decide +kernel
/-- A target erase for a queued commit, passed and failed, and an erase-ahead. -/
def erasing (u : ErasePurpose) : Dev :=
  { inState .drying (some { imageOf body7 with commit := .queued .phase }) base with
    ring := ⟨⟨0, Vector.replicate 16 false, 232, some 232, 0, none, 7⟩, base.ring.b⟩
    engine := { Engine.start with
      inFlight := some (.erase .a 0 u), service := if u = .target then some ⟨.a, none⟩ else none } }
theorem witness_EraseEnds :
    (∀ u ∈ [ErasePurpose.entry, .target], (erasing u).engine.inFlight = some (.erase .a 0 u) ∧ (erasing u).run = .run ∧
      (erasing u).link.resetHold = false) ∧
    (erasing .entry).engine.service = none ∧ (erasing .entry).anyEntry Work.isCommit = false ∧
    (erasing .target).engine.service = some ⟨.a, none⟩ ∧ ((erasing .target).ring.get .a).writePos = 0 ∧
    ((erasing .target).ring.get .a).failures = 0 ∧ ((erasing .target).ring.get .a).blank[(0 : Fin 16) + 1] = false ∧
    erasedPage (overlay (List.replicate 128 0xFF) []) = true ∧
    erasedPage (overlay (List.replicate 128 0xFF) [(127, 0)]) = false ∧
    ((erasing .target).image.get .a).map (fun im => im.commit) = some (.queued .phase) := by decide +kernel
/-- A FORMAT's erase of this slot. -/
def formatting (slot : Fin 16) : Dev :=
  { base with
    ring := ⟨⟨0, Vector.replicate 16 false, 232, some 232, 0, none, 7⟩, base.ring.b⟩
    engine := { Engine.start with inFlight := some (.erase .a slot .format), queue := [⟨0, .format .a slot false⟩] } }
/-- Pocket A's target erase of slot 0 with this many failures before it, this service, and the next slot blank or not. -/
def targeting (failures : Nat) (v : Option Snapshot) (nextBlank : Bool) : Dev :=
  { erasing .target with
    ring := ⟨⟨0, (Vector.replicate 16 false).set 1 nextBlank, 232, some 232, failures, none, 7⟩, base.ring.b⟩
    engine := { (erasing .target).engine with service := some ⟨.a, v⟩ } }
/-- The retry's target erase; a first failure with the next slot blank; a second failure of a first attempt's commit and of a
retry's, the pocket marked and not, and its START, CHECKPOINT and END replies owed. -/
theorem witness_EraseEnds_retry :
    (∀ f ∈ [0, 1], ∀ v ∈ [none, some snap7], ∀ b ∈ [true, false],
      (targeting f v b).engine.inFlight = some (.erase .a 0 .target) ∧ (targeting f v b).run = .run ∧
      (targeting f v b).link.resetHold = false ∧ (targeting f v b).engine.service = some ⟨.a, v⟩ ∧
      ((targeting f v b).ring.get .a).writePos = 0 ∧ ((targeting f v b).ring.get .a).failures = f ∧
      ((targeting f v b).ring.get .a).blank[(0 : Fin 16) + 1] = b ∧
      (targeting f v b).anyEntry (Work.isFormatOf .a) = false ∧
      ((targeting f v b).image.get .a).map (fun im => im.commit) = some (.queued .phase)) ∧
    ((targeting 1 none false).psq.get .a).mark = none ∧ ((marked (targeting 1 none false)).psq.get .a).mark ≠ none ∧
    ((targeting 1 none false).psq.get .a).state ≠ .vacant ∧
    (∀ q ∈ [Request.start, .checkpoint, .endCycle],
      ((owing q (some .a) (targeting 1 none false)).owed q (some .a)).isSome = true) := by decide +kernel
/-- Pocket A's ERASE entry in flight with these entries waiting. -/
def eraseAhead (queue : List Entry) : Dev :=
  { erasing .entry with engine := { (erasing .entry).engine with queue := queue, nextAge := 9 } }
/-- The selection after an ERASE entry's erase: in PRESENT each kind of entry starts behind the kinds above it; in DIP the
COMMIT entry alone. The expected operations are those of R85's order. -/
theorem test_selection_order :
    (after (.eraseDone []) (eraseAhead [⟨1, .erase .b 3⟩, ⟨2, .param false⟩, ⟨3, .commit .a⟩])).engine.inFlight =
      some (.write .a 0 ((imageOf body7).snapshot .phase) 233 false) ∧
    (after (.eraseDone []) (eraseAhead [⟨1, .erase .b 3⟩, ⟨2, .param false⟩])).engine.inFlight =
      some (.param (Params.image base.link.params) false 2) ∧
    (after (.eraseDone []) (eraseAhead [⟨1, .erase .b 3⟩, ⟨2, .erase .b 4⟩])).engine.inFlight = some (.erase .b 3 .entry) ∧
    (after (.eraseDone []) (mains .dip 30 0 (eraseAhead [⟨1, .erase .b 3⟩, ⟨2, .param false⟩]))).engine =
      { Engine.start with queue := [⟨1, .erase .b 3⟩, ⟨2, .param false⟩], nextAge := 9 } ∧
    (after (.eraseDone []) (mains .dip 30 0 (eraseAhead [⟨1, .erase .b 3⟩, ⟨3, .commit .a⟩]))).engine.inFlight =
      some (.write .a 0 ((imageOf body7).snapshot .phase) 233 false) := by decide +kernel
/-- Each selection that `Dev.selects` speaks of has its part. -/
theorem witness_EraseEnds_selects :
    (∀ q ∈ [[], [⟨1, .erase .b 3⟩], [⟨2, .param false⟩], [(⟨3, .commit .a⟩ : Entry)], [⟨4, .format .b 0 false⟩]],
      (eraseAhead q).engine.inFlight = some (.erase .a 0 .entry) ∧ (eraseAhead q).engine.service = none ∧
      (eraseAhead q).run = .run ∧ (eraseAhead q).link.resetHold = false ∧
      (eraseAhead q).bkd.monitor.state = .present ∧ (mains .dip 30 0 (eraseAhead q)).bkd.monitor.state = .dip) ∧
    { (eraseAhead []) with ring := .both (formatting 0).ring.a }.ring.b.blank[0] = false := by decide +kernel
/-- In LOSS_COMMIT: an erase-ahead with no commit in service, and the retry of a commit found in its target erase. -/
theorem witness_EraseEnds_loss :
    (running .lossCommit (erasing .entry)).run = .lossCommit ∧ (erasing .entry).engine.service = none ∧
    (erasing .entry).anyEntry (Work.isFormatOf .a) = false ∧ ErasePurpose.entry ≠ .target ∧
    retryAtLoss.engine.inFlight = some (.erase .a 14 .target) ∧ retryAtLoss.run = .lossCommit ∧
    retryAtLoss.engine.service = some ⟨.a, some snap7⟩ ∧ retryAtLoss.anyEntry (Work.isFormatOf .a) = false ∧
    (retryAtLoss.image.get .a).map (fun im => im.recommit) = some (some .suspend) := by decide +kernel
/-- Slot 14 and slot 15. -/
theorem witness_FormatEnds :
    ∀ i ∈ [(14 : Fin 16), 15], (formatting i).engine.inFlight = some (.erase .a i .format) ∧ (formatting i).run = .run ∧
      (formatting i).link.resetHold = false ∧ (formatting i).engine.service = none ∧
      (formatting i).engine.queue = [⟨0, .format .a i false⟩] ∧ (formatting i).bkd.monitor.state = .present ∧
      ((formatting i).ring.get .a).blank[(14 : Fin 16) + 1] = false := by decide +kernel
theorem witness_ParamOperationEnds :
    ∀ second ∈ [true, false],
      (flying (.param (Params.image maskDefaults) second 4) base).engine.inFlight =
        some (.param (Params.image maskDefaults) second 4) ∧
      overlay (pageOf (imageBytes (Params.image maskDefaults))) [] = pageOf (imageBytes (Params.image maskDefaults)) ∧
      overlay (pageOf (imageBytes (Params.image maskDefaults))) [(0, 1)] ≠ pageOf (imageBytes (Params.image maskDefaults)) ∧
      base.run = .run ∧ base.link.resetHold = false ∧ base.engine.service = none ∧
      base.anyEntry Work.isCommit = false ∧ base.anyEntry Work.isParam = false ∧ base.bkd.monitor.state = .present ∧
      (owing .paramStore none base).owed .paramStore none = some ⟨.paramStore, none, false, 0⟩ ∧
      (running .lossCommit base).run = .lossCommit ∧ base.link.deferred = [] := by decide +kernel

/-! Resumption and tumbling. -/

/-- The stagger length at its boundaries: 20 s in STEADY, 45 s in WARY. -/
theorem witness_HeaterGrant :
    waiting.arbiter.queue = .a :: [.b] ∧ waiting.run = .run ∧ waiting.link.resetHold = false ∧
    waiting.bkd.monitor.state = .present ∧ waiting.reserve.ready = true ∧
    (if 8 ≤ waiting.bkd.confidence then 20 else 45) ≤ waiting.arbiter.stagger ∧
    ((waiting.psq.get .a).choice.map fun c => c.outcome) = some .reheat ∧ ((waiting.journal.get .a).basis).isSome = true ∧
    (after .heaterGrant { waiting with arbiter := ⟨[.a], 19⟩ }).arbiter = ⟨[.a], 19⟩ ∧
    (after .heaterGrant { waiting with arbiter := ⟨[.a], 20⟩ }).arbiter = ⟨[], 0⟩ ∧
    (running .lossCommit waiting).run ≠ .run := by decide +kernel
theorem witness_BurstEnd :
    (tumbling.tmb.get .a).state = .burst ∧ (tumbling.tmb.get .a).active = some ⟨10, 30, 3, 1⟩ ∧
    10 ≤ (tumbling.tmb.get .a).position ∧ 2 ≤ (tumbling.tmb.get .a).burstsLeft ∧
    ((timer .burst ⟨10, 30, 3, 1⟩ 1 9 tumbling).tmb.get .a).position < 10 ∧
    ((timer .burst ⟨10, 30, 3, 1⟩ 1 10 tumbling).tmb.get .a).burstsLeft ≤ 1 ∧
    (tumbling.psq.get .a).state = .anticrease ∧ (tumbling.psq.get .a).mark = none ∧
    (tumbling.psq.get .a).blocking.journalFail = false ∧ ((failed tumbling).psq.get .a).blocking.journalFail = true ∧
    (∀ r ∈ [0, 1], (after (.burstEnd .a) (timer .burst ⟨10, 30, 3, r⟩ 2 10 tumbling)).motorRev .a = decide (r = 1)) := by
  decide +kernel
theorem witness_PeriodBoundary :
    ((timer .rest ⟨10, 30, 3, 1⟩ 2 30 base).tmb.get .a).state = .rest ∧
    ((timer .rest ⟨10, 30, 3, 1⟩ 2 30 base).tmb.get .a).active = some ⟨10, 30, 3, 1⟩ ∧
    30 ≤ ((timer .rest ⟨10, 30, 3, 1⟩ 2 30 base).tmb.get .a).position ∧
    ((timer .rest ⟨10, 30, 3, 1⟩ 2 29 base).tmb.get .a).position < 30 ∧
    ((timer .rest ⟨10, 30, 3, 1⟩ 2 30 base).tmb.get .a).staged = none ∧
    (after (.guard [0, 8, 12, 0, 2, 1]) (timer .rest ⟨10, 30, 3, 1⟩ 2 24 tumbling)).tmb.a.staged = some ⟨8, 13, 2, 1⟩ := by
  decide +kernel

/-! The link port. -/

/-- Lengths 56 and 57, a frame of length 56 with a wrong sum, the frames of STATUS and of a type 0; a reply of 56 payload
bytes. -/
theorem witness_FrameReception :
    base.run ≠ .backup ∧ (base.setReceiver .hunting).link.receiver = .hunting ∧
    base.link.receiver = .inFrame ⟨none, none, [], 0⟩ ∧
    56 < (57 : Byte).toNat ∧ (List.replicate 56 (0 : Byte)).length = (56 : Byte).toNat ∧ (56 : Byte).toNat ≤ 56 ∧
    ((List.replicate 56 (0 : Byte)).foldl (· + ·) ((56 : Byte) + 1)) + 0 ≠ 0 ∧
    ([] : List Byte).length = (0 : Byte).toNat ∧ (([] : List Byte).foldl (· + ·) ((0 : Byte) + 1)) + 0xFF = 0 ∧
    requestOf (.status []) = some (.status, []) ∧ (Instr.status []).wellFormed = true ∧
    (1 : Byte) = BitVec.ofNat 8 Request.status.code ∧ (([] : List Byte).foldl (· + ·) ((0 : Byte) + 0)) + 0 = 0 ∧
    (Reply.mk 0x81 (List.replicate 56 0)).payload.length ≤ 56 := by decide +kernel
theorem witness_LinkChecks_drop :
    requestOf (.start [0]) = some (.start, [0]) ∧ (Instr.start [0]).wellFormed = true ∧ base.run ≠ .backup ∧
    base.link.receiver.begins (BitVec.ofNat 8 Request.start.code) [0] = true ∧
    { base.link with resetHold := true }.resetHold = true ∧
    10 ≤ { base.link with transmit := List.replicate 10 ⟨0x81, []⟩ }.transmit.length := by decide
theorem witness_LinkChecks :
    (base.link.resetHold = false ∧ base.link.transmit.length + base.link.deferred.length < 10) ∧
    Request.start.lengthOk [0] = false ∧ Request.start.lengthOk [0, 0, 0, 0, 0, 0] = true ∧
    pocketOf [2, 0, 0, 0, 0, 0] = none ∧ pocketOf [1, 0, 0, 0, 0, 0] = some .b ∧
    Request.paramRead.namesPocket = false ∧ Request.paramRead.lengthOk [40] = true ∧ Request.paramRead.enumsOk [40] = false ∧
    Request.paramRead.enumsOk [39] = true ∧ (running .startup base).run ≠ .run ∧
    ((owing .paramStore none base).owed .paramStore none).isSome = true ∧
    Request.report.enumsOk [0, 1, 4] = false ∧ Request.report.enumsOk [0, 1, 3] = true ∧
    Request.start.deferrable = true ∧ ((owing .start (some .a) base).owed .start (some .a)).isSome = true := by decide
theorem witness_UnknownTypeAndReplySent :
    base.run ≠ .backup ∧ ([] : List Byte).length ≤ 56 ∧ (0 : Byte).toNat = 0 ∧ 14 < (15 : Byte).toNat ∧
    base.link.receiver.begins 0 [] = true ∧ base.link.receiver.begins 15 [] = true ∧ base.link.transmit = [] ∧
    (running .backup base).run = .backup ∧
    (base.link.resetHold = false ∧ base.link.transmit.length + base.link.deferred.length < 10) ∧
    { base.link with resetHold := true }.resetHold ≠ false ∧
    { base.link with transmit := [⟨0x81, [0]⟩] }.transmit = ⟨0x81, [0]⟩ :: [] := by decide
theorem witness_Status :
    base.run ≠ .backup ∧ base.link.resetHold = false ∧ base.link.transmit.length + base.link.deferred.length < 10 ∧
    base.link.receiver.begins 0x01 [] = true ∧ (starting.ring.get .a).newest = some 40 ∧
    (after (.status []) { base with link := { base.link with attention := ⟨true, false, false, false⟩ } }).attnPin = .released ∧
    { base with link := { base.link with attention := ⟨true, false, false, false⟩ } }.attnPin = .low := by decide +kernel

/-! Cycle requests. -/

theorem witness_Start :
    Admitted .start [0, 12, 0x10, 0x0E, 0x84, 3] starting ∧ Admitted .start [1, 64, 0xFF, 0xFF, 0, 0, 1, 0, 0, 0, 2] starting ∧
    pocketOf [0, 12, 0x10, 0x0E, 0x84, 3] = some .a ∧ (starting.psq.get .a).state = .vacant ∧
    (starting.psq.get .a).mark = none ∧ starting.anyEntry (Work.isFormatOf .a) = false ∧
    (starting.psq.get .a).blocking = .empty :=
  ⟨(Dev.admits_iff _ _ _).1 (by decide), (Dev.admits_iff _ _ _).1 (by decide), by decide, by decide, by decide, by decide,
    by decide⟩
theorem witness_Start_refused :
    Admitted .start [0, 12, 0x10, 0x0E, 0x84, 3] reporting ∧ (reporting.psq.get .a).state ≠ .vacant ∧
    Admitted .start [0, 12, 0x10, 0x0E, 0x84, 3] (formatting 15) ∧ (formatting 15).anyEntry (Work.isFormatOf .a) = true ∧
    Admitted .start [0, 12, 0x10, 0x0E, 0x84, 3] (failed base) ∧ ((failed base).psq.get .a).blocking ≠ .empty :=
  ⟨(Dev.admits_iff _ _ _).1 (by decide), by decide, (Dev.admits_iff _ _ _).1 (by decide), by decide,
    (Dev.admits_iff _ _ _).1 (by decide), by decide⟩
/-- Table 4-4: a report taken at a count of 14, the BUSY at 15, and both legal moves. -/
theorem witness_Report :
    Admitted .report [0, 0x20, 1, 0] reporting ∧ pocketOf [0, 0x20, 1, 0] = some .a ∧
    (reporting.psq.get .a).state.active = true ∧ (reporting.psq.get .a).mark = none ∧
    reportField [0, 0x20, 1, 0] 0 = none ∧ reportField [0, 1, 2] 0 = some 2 ∧ reportField [0, 1, 3] 0 = some 3 ∧
    (inState .drying (some { imageOf body4 with pending := 14 }) base).image.get .a = some { imageOf body4 with pending := 14 } ∧
    (inState .drying (some { imageOf body4 with pending := 15 }) base).image.get .a = some { imageOf body4 with pending := 15 } ∧
    Admitted .report [0, 1, 3] (inState .cooling (some (imageOf { body4 with phase := .cooling })) base) ∧
    ((inState .cooling (some (imageOf { body4 with phase := .cooling })) base).psq.get .a).state = .cooling :=
  ⟨(Dev.admits_iff _ _ _).1 (by decide), by decide, by decide, by decide, by decide, by decide, by decide, by decide,
    by decide, (Dev.admits_iff _ _ _).1 (by decide), by decide⟩
theorem witness_Report_refused :
    Admitted .report [0, 0] base ∧ (base.psq.get .a).state.active = false ∧ Admitted .report [0, 1, 3] reporting ∧
    reportField [0, 1, 3] 0 = some 3 ∧ (3 : Nat) ≠ (reporting.psq.get .a).state.code ∧
    ¬((reporting.psq.get .a).state = .drying ∧ (3 : Nat) = 2) ∧ ¬((reporting.psq.get .a).state = .cooling ∧ (3 : Nat) = 3) :=
  ⟨(Dev.admits_iff _ _ _).1 (by decide), by decide, (Dev.admits_iff _ _ _).1 (by decide), by decide, by decide, by decide,
    by decide⟩
theorem witness_ReportMerge : body4.energy ≤ 65535 ∧ body4.runTime ≤ 65535 := by decide
/-- Clean without an entry; dirty without one; queued; in flight, clean and dirty; JOURNAL_FAIL; VACANT. -/
theorem witness_Checkpoint :
    Admitted .checkpoint [0] starting ∧ (starting.psq.get .a).state.active = false ∧
    (∀ im ∈ [imageOf body4, { imageOf body4 with dirty := true }, { imageOf body4 with commit := .queued .phase },
      { imageOf body4 with commit := .inFlight .phase }, { imageOf body4 with commit := .inFlight .phase, dirty := true }],
      Admitted .checkpoint [0] (inState .drying (some im) starting) ∧
      ((inState .drying (some im) starting).psq.get .a).state.active = true ∧
      ((inState .drying (some im) starting).psq.get .a).mark = none ∧
      ((inState .drying (some im) starting).image.get .a) = some im) ∧
    (starting.ring.get .a).newest = some 40 ∧ ((failed starting).psq.get .a).blocking.journalFail = true := by
  refine ⟨(Dev.admits_iff _ _ _).1 (by decide), by decide, ?_, by decide, by decide⟩
  have h : ∀ im ∈ [imageOf body4, { imageOf body4 with dirty := true }, { imageOf body4 with commit := .queued .phase },
      { imageOf body4 with commit := .inFlight .phase }, { imageOf body4 with commit := .inFlight .phase, dirty := true }],
      (inState .drying (some im) starting).admits .checkpoint [0] = true ∧
      ((inState .drying (some im) starting).psq.get .a).state.active = true ∧
      ((inState .drying (some im) starting).psq.get .a).mark = none ∧
      ((inState .drying (some im) starting).image.get .a) = some im := by decide +kernel
  exact fun im hm => ⟨(Dev.admits_iff _ _ _).1 (h im hm).1, (h im hm).2⟩
theorem witness_EndCycle :
    Admitted .endCycle [0] base ∧ (base.psq.get .a).state = .vacant ∧ Admitted .endCycle [0] reporting ∧
    (reporting.psq.get .a).state.active = true ∧ (reporting.psq.get .a).mark = none ∧ Admitted .endCycle [0] waiting ∧
    (waiting.psq.get .a).state.waiting = true ∧ (waiting.psq.get .a).mark = none ∧ ((waiting.journal.get .a).basis).isSome = true ∧
    Admitted .endCycle [0] (failed reporting) ∧ ((failed reporting).psq.get .a).blocking.journalFail = true :=
  ⟨(Dev.admits_iff _ _ _).1 (by decide), by decide, (Dev.admits_iff _ _ _).1 (by decide), by decide, by decide,
    (Dev.admits_iff _ _ _).1 (by decide +kernel), by decide, by decide, by decide, (Dev.admits_iff _ _ _).1 (by decide), by decide⟩
theorem witness_Guard :
    Admitted .guard [0, 8, 12, 0, 2, 1] tumbling ∧ pocketOf [0, 8, 12, 0, 2, 1] = some .a ∧
    (tumbling.psq.get .a).state = .anticrease ∧ (tumbling.psq.get .a).mark = none ∧
    Admitted .guard [0, 8, 12, 0, 2, 1] reporting ∧ (reporting.psq.get .a).state ≠ .anticrease ∧
    (reporting.psq.get .a).state.active = true ∧ Admitted .guard [0, 8, 12, 0, 2, 1] base ∧
    (base.psq.get .a).state.active = false :=
  ⟨(Dev.admits_iff _ _ _).1 (by decide), by decide, by decide, by decide, (Dev.admits_iff _ _ _).1 (by decide), by decide,
    by decide, (Dev.admits_iff _ _ _).1 (by decide), by decide⟩

/-! Plans, choices, faults and history. -/

theorem witness_PlanAndHistory :
    pocketOf [0] = some .a ∧ Admitted .plan [0] base ∧ base.plan.get .a = none ∧ Admitted .plan [0] (planned .reheat base) ∧
    ((planned .reheat base).plan.get .a).isSome = true ∧ Admitted .history [0, 0] (planned .reheat base) ∧
    (((planned .reheat base).journal.get .a).history[secondByte [0, 0]]?).isSome = true ∧
    Admitted .history [0, 1] (planned .reheat base) ∧
    ((planned .reheat base).journal.get .a).history[secondByte [0, 1]]? = none :=
  ⟨by decide, (Dev.admits_iff _ _ _).1 (by decide), by decide, (Dev.admits_iff _ _ _).1 (by decide), by decide,
    (Dev.admits_iff _ _ _).1 (by decide), by decide, (Dev.admits_iff _ _ _).1 (by decide), by decide⟩
/-- A RESUME of each choice on a pocket that is not PLANNED; REHEAT and HOLD plans. -/
theorem witness_ResumeHeat :
    (∀ n ∈ [0, 1, 2, 3, 4], Admitted .resume [0, BitVec.ofNat 8 n] base ∧ secondByte [0, BitVec.ofNat 8 n] = n) ∧
    (base.psq.get .a).state ≠ .planned ∧
    (∀ o ∈ [ResumeOutcome.reheat, .hold], ((planned o base).psq.get .a).state = .planned ∧
      ((planned o base).psq.get .a).mark = none ∧ ((planned o base).plan.get .a).map (fun pl => pl.outcome) = some o ∧
      ((planned o base).journal.get .a).basis = some ⟨3, recordOf .suspend body7 57⟩) ∧
    Admitted .resume [0, 0] (planned .reheat base) ∧ Admitted .resume [0, 1] (planned .hold base) := by
  refine ⟨?_, by decide, by decide, (Dev.admits_iff _ _ _).1 (by decide), (Dev.admits_iff _ _ _).1 (by decide)⟩
  have h : ∀ n ∈ [0, 1, 2, 3, 4], base.admits .resume [0, BitVec.ofNat 8 n] = true ∧ secondByte [0, BitVec.ofNat 8 n] = n := by
    decide
  exact fun n hn => ⟨(Dev.admits_iff _ _ _).1 (h n hn).1, (h n hn).2⟩
/-- COOL, GUARD and CLOSE against each plan a PLANNED pocket can have, starting at once and waiting for the reserve. -/
theorem witness_ResumeConservative :
    ∀ o ∈ [ResumeOutcome.reheat, .cool, .hold],
      ((planned o base).psq.get .a).state = .planned ∧ ((planned o base).psq.get .a).mark = none ∧
      ((planned o base).plan.get .a).map (fun pl => pl.outcome) = some o ∧
      ((planned o base).journal.get .a).basis = some ⟨3, recordOf .suspend body7 57⟩ ∧
      (∀ n ∈ [0, 2, 3, 4], (planned o base).admits .resume [0, BitVec.ofNat 8 n] = true) ∧
      (planned o base).bkd.monitor.state = .present ∧ (planned o base).reserve.ready = true ∧
      (planned o { base with reserve := ⟨300, false⟩ }).reserve.ready = false := by decide
/-- All advisory faults and one, with and without a fault to remove, in PLANNED and out of it. -/
theorem witness_ClearAdvisory :
    (∀ n ∈ [16, 1, 2, 3], base.admits .clear [0, BitVec.ofNat 8 n] = true ∧
      (planned .hold base).admits .clear [0, BitVec.ofNat 8 n] = true ∧ secondByte [0, BitVec.ofNat 8 n] = n) ∧
    (base.psq.get .a).state ≠ .planned ∧ ((planned .hold base).psq.get .a).state = .planned ∧
    ((planned .hold base).psq.get .a).mark = none ∧ (⟨false, false, false⟩ : Advisory) = (base.psq.get .a).advisory ∧
    (⟨false, false, false⟩ : Advisory) ≠ { base.psq.a with advisory := ⟨true, false, false⟩ }.advisory := by decide
/-- Each blocking fault, standing or not, its condition gone or not (T_LIMIT 100 against 99 and 100). -/
theorem witness_ClearBlocking :
    (∀ n ∈ [4, 5, 6, 7], base.admits .clear [0, BitVec.ofNat 8 n] = true ∧
      (planned .hold base).admits .clear [0, BitVec.ofNat 8 n] = true ∧ secondByte [0, BitVec.ofNat 8 n] = n) ∧
    (base.psq.get .a).state = .vacant ∧ ((planned .hold base).psq.get .a).state = .planned ∧
    (reporting.psq.get .a).state ≠ .vacant ∧ (reporting.psq.get .a).state ≠ .planned ∧
    reporting.admits .clear [0, 6] = true ∧ (99 : Int) < Params.tLimit base.link.params ∧
    ¬(100 : Int) < Params.tLimit base.link.params ∧ ((failed base).psq.get .a).blocking.journalFail = true := by decide

/-! The array and the parameters. -/

theorem witness_FormatAndParamStore :
    Admitted .format [0] base ∧ (base.psq.get .a).state = .vacant ∧ (base.psq.get .a).mark = none ∧
    base.anyEntry Work.isFormat = false ∧ base.engine.inFlight = none ∧ base.engine.service = none ∧
    base.engine.queue = [] ∧ base.bkd.monitor.state = .present ∧ (base.ring.get .a).blank = Vector.replicate 16 true ∧
    (writing.ring.get .a).blank[0] = false ∧ Admitted .format [0] (flying (.erase .b 9 .entry) base) ∧
    (flying (.erase .b 9 .entry) base).engine.inFlight ≠ none ∧ (formatting 15).anyEntry Work.isFormat = true ∧
    Admitted .format [0] reporting ∧ (reporting.psq.get .a).state ≠ .vacant ∧ Admitted .paramStore [] base ∧
    base.anyEntry Work.isParam = false ∧
    Admitted .format [0] (mains .dip 30 0 base) ∧ Admitted .paramStore [] (mains .dip 30 0 base) ∧
    (mains .dip 30 0 base).bkd.monitor.state = .dip ∧ base.anyEntry Work.isCommit = false ∧
    { base with engine := { base.engine with queue := [⟨0, .param false⟩] } }.anyEntry Work.isParam = true :=
  ⟨(Dev.admits_iff _ _ _).1 (by decide), by decide, by decide, by decide, by decide, by decide, by decide, by decide,
    by decide, by decide, (Dev.admits_iff _ _ _).1 (by decide), by decide, by decide, (Dev.admits_iff _ _ _).1 (by decide),
    by decide, (Dev.admits_iff _ _ _).1 (by decide), by decide, (Dev.admits_iff _ _ _).1 (by decide),
    (Dev.admits_iff _ _ _).1 (by decide), by decide, by decide, by decide⟩
/-- The indices 0, 20, 21, 22 and 39, the dip gap above and at the absence time, a pocket VACANT and one not. -/
theorem witness_ParamReadWrite :
    (∀ i ∈ [(0 : Fin 40), 20, 21, 22, 39], base.admits .paramRead [BitVec.ofNat 8 i.val] = true ∧
      base.admits .paramWrite [BitVec.ofNat 8 i.val, 30, 0] = true ∧
      (([BitVec.ofNat 8 i.val] : List Byte).getD 0 0).toNat = i.val) ∧
    (base.psq.get .a).state = .vacant ∧ (base.psq.get .b).state = .vacant ∧ (reporting.psq.get .a).state ≠ .vacant ∧
    reporting.admits .paramWrite [0, 30, 0] = true ∧ base.link.loaded = true ∧
    (mains .present 29 0 base).bkd.monitor.absence < (Params.write base.link.params 21 30)[(21 : Fin 40)].toNat ∧
    (Params.write base.link.params 21 30)[(21 : Fin 40)].toNat ≤ (mains .present 30 0 base).bkd.monitor.absence := by
  decide +kernel

/-! The planner, conversion and records. -/

/-- Each gate by a sequencer and facts that meet it, the steps past them by the worked cases above, and COLD_LOAD at
T_CD. -/
theorem witness_PlanDecision :
    let plan := fun q f => decidePlan maskDefaults q f (some 35) (recordOf .suspend { body7 with phase := .cooling } 57)
    (plan (.start .cold false) (stalled 600 0)).reason = .noBackup ∧
    (plan warm { stalled 600 0 with suspended := false }).reason = .mismatch ∧
    (plan { warm with blocking := ⟨false, true, false, false⟩ } (stalled 600 0)).reason = .blocked ∧
    (plan { warm with strict := true, advisory := ⟨true, false, false⟩ } (stalled 600 0)).reason = .strict ∧
    (plan warm { stalled 600 0 with latch := true }).reason = .door ∧
    (plan warm (stalled 600 0)).reason = .coldLoad := by decide

/-- The outcomes of the planner are met by the worked cases above. -/
theorem witness_ReheatComputation :
    (decidePlan maskDefaults warm (stalled 1850 0) (some 48) (recordOf .suspend body7 57)).outcome = .reheat := by decide
theorem witness_CoolComputation :
    coolComputation maskDefaults 600 68 35 = .guard ∧ coolComputation maskDefaults 600 68 36 ≠ .guard ∧
    Params.tCd maskDefaults < 68 ∧ (48 : Int) < 68 ∧ (35 : Int) ≤ Params.tCd maskDefaults := by decide
theorem witness_ConversionTable :
    (∀ i, clampWord i maskDefaults[i] = maskDefaults[i]) ∧
    (∀ k : Fin 9, 0 < k.val → Params.code maskDefaults (prevBreakpoint k) < Params.code maskDefaults k) ∧
    Params.code maskDefaults 4 ≤ 2317 ∧ 2317 ≤ Params.code maskDefaults 5 := by decide +kernel
theorem witness_RecordRoundTrip :
    1 ≤ snap7.cycle ∧ snap7.cycle ≤ 65535 ∧ snap7.kind ≠ .resume ∧ snap7.kind ≠ .close ∧ snap7.body.heat ≤ 65535 ∧
    snap7.body.guard.period ≤ 65535 ∧ -32768 ≤ snap7.body.exhaustLast ∧ snap7.body.exhaustLast ≤ 32767 ∧
    (Snapshot.mk body7 65535 .resume none (some ⟨.reheat, .normal, 57, 16777215, none⟩)).resume ≠ none ∧
    (Snapshot.mk body7 1 .close (some .door) none).closeReason ≠ none := by decide

/-! Laws of every step. -/

theorem witness_ArrayKeepsItsForm : (st writing).array.wf = true ∧ ∃ t, step (st base) = .next t := ⟨by decide, _, rfl⟩
theorem witness_LawsKept :
    base.pendingBounded ∧ base.linkRoom ∧ base.backupRanges ∧ base.eraseCapacity ∧ ∃ t, step (st base) = .next t := by
  refine ⟨fun p im h => ?_, by unfold Dev.linkRoom; decide, ⟨by decide, by decide, by decide, fun p => ?_⟩,
    by unfold Dev.eraseCapacity; decide, _, rfl⟩
  · cases p <;> cases h
  · cases p <;> decide
theorem witness_DryingBeginsByStartOrGrant :
    (waiting.psq.get .a).state ≠ .drying ∧ (after .heaterGrant waiting).psq.a.state = .drying ∧
    (starting.psq.get .a).state ≠ .drying ∧ (after (.start [0, 12, 0x10, 0x0E, 0x84, 3]) starting).psq.a.state = .drying ∧
    (after (.frameDiscard [6, 2, 0, 12, 0x10, 0x0E, 0x84, 3, 0x47] false) starting).heatPermitPin .a = .high := by
  decide +kernel

end Sys2Proof.Tests
end

section
/-! The arithmetic of the resume planner: the rounded-up quotient and the clamp (00_scope.md 3.6), the reheat
computation (R128) and the cool computation (R129). -/

namespace Sys2Proof.Machine

/-! ### The rounded-up quotient and the clamp -/

/-- The rounded-up quotient is the least whole number whose multiple of the divisor covers the dividend. -/
theorem ceilDiv_le_iff {n d m : Nat} (hd : 0 < d) : ceilDiv n d ≤ m ↔ n ≤ m * d := by
  rw [ceilDiv, Nat.div_le_iff_le_mul_add_pred hd, Nat.mul_comm d m]
  omega

theorem le_ceilDiv_mul (n : Nat) {d : Nat} (hd : 0 < d) : n ≤ ceilDiv n d * d :=
  (ceilDiv_le_iff hd).1 (Nat.le_refl _)

theorem ceilDiv_mul_lt (n : Nat) {d : Nat} (hd : 0 < d) : ceilDiv n d * d < n + d := by
  have hquotient : (n + (d - 1)) / d * d ≤ n + (d - 1) := Nat.div_mul_le_self _ _
  rw [ceilDiv]
  omega

/-- A value at or below `hi` meets only the lower bound of a clamp to `lo` and `max lo hi`. -/
theorem clampNat_max_of_le {x lo hi : Nat} (h : x ≤ hi) : clampNat x lo (max lo hi) = max lo x := by
  unfold clampNat
  split
  · omega
  · rw [if_neg (by omega)]
    omega

/-! ### The reheat computation (R128) -/

/-- ΔT of R128: how far the load has cooled below the exhaust last of the basis. -/
def temperatureDrop (tLast tNow : Int) : Nat := (max 0 (tLast - tNow)).toNat

theorem temperatureDrop_cast (tLast tNow : Int) : (temperatureDrop tLast tNow : Int) = max 0 (tLast - tNow) :=
  Int.toNat_of_nonneg (Int.le_max_left _ _)

theorem temperatureDrop_eq_zero {tLast tNow : Int} (h : tLast ≤ tNow) : temperatureDrop tLast tNow = 0 := by
  unfold temperatureDrop
  omega

/-- The range of the temperatures bounds ΔT by 170. -/
theorem temperatureDrop_le {tLast tNow : Int} (hnow : -20 ≤ tNow) (hlast : tLast ≤ 150) :
    temperatureDrop tLast tNow ≤ 170 := by
  unfold temperatureDrop
  omega

theorem extraHeat_eq (pr : Params) (tLast tNow : Int) :
    extraHeat pr tLast tNow = min pr.eMax (ceilDiv (temperatureDrop tLast tNow * pr.kReheat) 16) := rfl

theorem extraHeat_le_eMax (pr : Params) (tLast tNow : Int) : extraHeat pr tLast tNow ≤ pr.eMax :=
  Nat.min_le_left _ _

/-- E is no more than what covers the product: E_MAX only lowers it. -/
theorem extraHeat_lt (pr : Params) (tLast tNow : Int) :
    16 * extraHeat pr tLast tNow < temperatureDrop tLast tNow * pr.kReheat + 16 := by
  have hceil := ceilDiv_mul_lt (temperatureDrop tLast tNow * pr.kReheat) (d := 16) (by decide)
  rw [extraHeat_eq]
  omega

/-- Below E_MAX, E covers the product. -/
theorem extraHeat_covers {pr : Params} {tLast tNow : Int} (h : extraHeat pr tLast tNow < pr.eMax) :
    temperatureDrop tLast tNow * pr.kReheat ≤ 16 * extraHeat pr tLast tNow := by
  have hceil := le_ceilDiv_mul (temperatureDrop tLast tNow * pr.kReheat) (d := 16) (by decide)
  rw [extraHeat_eq] at h ⊢
  omega

theorem extraHeat_eq_zero {pr : Params} {tLast tNow : Int} (h : pr.kReheat = 0 ∨ pr.eMax = 0 ∨ tLast ≤ tNow) :
    extraHeat pr tLast tNow = 0 := by
  have hle := extraHeat_le_eMax pr tLast tNow
  have hlt := extraHeat_lt pr tLast tNow
  obtain hk | he | ht := h
  · rw [hk, Nat.mul_zero] at hlt
    omega
  · omega
  · rw [temperatureDrop_eq_zero ht, Nat.zero_mul] at hlt
    omega

/-! ### The plans with outcome REHEAT (R123 to R127) -/

/-- A plan of the cool computation has outcome COOL or GUARD. -/
theorem coolPlan_outcome_ne_reheat (pr : Params) (r : Record) (f : Facts) (tNow : Option Int) (why : PlanReason) :
    (coolPlan pr r f tNow why).outcome ≠ .reheat := by
  unfold coolPlan
  split <;> exact nofun

/-- The plan of step 8 that heats: the basis figures with H′ of the reheat computation (R127, R128). -/
def reheatPlan (pr : Params) (r : Record) (f : Facts) (tNow : Option Int) : Plan :=
  { basisPlan r f tNow .reheat .normal with
    heat := reheatHeat pr r.body.heat r.body.exhaustLast (knownTemperature tNow) }

/-- Of steps 6 to 8, only the last course of step 8 gives REHEAT. -/
theorem phasePlan_eq_reheatPlan {pr : Params} {r : Record} {f : Facts} {tNow : Option Int}
    (h : (phasePlan pr r f tNow).outcome = .reheat) : phasePlan pr r f tNow = reheatPlan pr r f tNow := by
  unfold phasePlan at h ⊢
  cases hphase : r.body.phase with
  | anticrease =>
    simp only [hphase] at h
    split at h <;> cases h
  | cooling =>
    simp only [hphase] at h
    exact (coolPlan_outcome_ne_reheat _ _ _ _ _ h).elim
  | drying =>
    simp only [hphase] at h ⊢
    split at h
    · exact (coolPlan_outcome_ne_reheat _ _ _ _ _ h).elim
    · rename_i houtages
      split at h
      · cases h
      · rename_i hstall
        rw [if_neg houtages, if_neg hstall, reheatPlan]

/-- A decision with outcome REHEAT has passed every gate and is the reheat plan. -/
theorem decidePlan_eq_reheatPlan {pr : Params} {q : Sequencer} {f : Facts} {tNow : Option Int} {r : Record}
    (h : (decidePlan pr q f tNow r).outcome = .reheat) : decidePlan pr q f tNow r = reheatPlan pr r f tNow := by
  have hgates : decidePlan pr q f tNow r = phasePlan pr r f tNow := by
    unfold decidePlan at h ⊢
    repeat' split at h
    case isFalse hkind hsuspended hblocked hstrict hlatch =>
      rw [if_neg hkind, if_neg hsuspended, if_neg hblocked, if_neg hstrict, if_neg hlatch]
    all_goals cases h
  rw [hgates] at h ⊢
  exact phasePlan_eq_reheatPlan h

/-! ### The cool computation (R129) -/

/-- The recorded cool time scaled by the fraction of the excess over T_CD that remains, before the clamp (R129). -/
def scaledCool (pr : Params) (cool : Nat) (tLast tNow : Int) : Nat :=
  ceilDiv (cool * (tNow - pr.tCd).toNat) (tLast - pr.tCd).toNat

section ScaledCool
variable {pr : Params} {tLast tNow : Int}

/-- "Since T_now < T_last, the scaled figure does not exceed C" (R129). -/
theorem scaledCool_le (cool : Nat) (hlast : pr.tCd < tLast) (hslope : tNow < tLast) :
    scaledCool pr cool tLast tNow ≤ cool := by
  rw [scaledCool, ceilDiv_le_iff (by omega)]
  exact Nat.mul_le_mul_left cool (by omega)

theorem le_scaledCool_mul (cool : Nat) (hnow : pr.tCd < tNow) (hlast : pr.tCd < tLast) :
    (cool : Int) * (tNow - pr.tCd) ≤ scaledCool pr cool tLast tNow * (tLast - pr.tCd) := by
  have hceil := le_ceilDiv_mul (cool * (tNow - pr.tCd).toNat) (d := (tLast - pr.tCd).toNat) (by omega)
  have hcast := Int.ofNat_le.2 hceil
  push_cast [Int.toNat_of_nonneg (show 0 ≤ tNow - pr.tCd by omega),
    Int.toNat_of_nonneg (show 0 ≤ tLast - pr.tCd by omega)] at hcast
  exact hcast

theorem scaledCool_mul_lt (cool : Nat) (hnow : pr.tCd < tNow) (hlast : pr.tCd < tLast) :
    (scaledCool pr cool tLast tNow : Int) * (tLast - pr.tCd) < cool * (tNow - pr.tCd) + (tLast - pr.tCd) := by
  have hceil := ceilDiv_mul_lt (cool * (tNow - pr.tCd).toNat) (d := (tLast - pr.tCd).toNat) (by omega)
  have hcast := Int.ofNat_lt.2 hceil
  push_cast [Int.toNat_of_nonneg (show 0 ≤ tNow - pr.tCd by omega),
    Int.toNat_of_nonneg (show 0 ≤ tLast - pr.tCd by omega)] at hcast
  exact hcast

end ScaledCool

section CoolCases
variable {pr : Params} {cool : Nat} {tLast tNow : Int}

/-! The three cases of R129. -/

theorem coolComputation_of_le (h : tNow ≤ pr.tCd) : coolComputation pr cool tLast tNow = .guard := if_pos h

theorem coolComputation_of_no_slope (hnow : pr.tCd < tNow) (h : tLast ≤ pr.tCd ∨ tLast ≤ tNow) :
    coolComputation pr cool tLast tNow = .cool (max pr.cMin cool) := by
  rw [coolComputation, if_neg (Int.not_le.2 hnow), if_pos h]

theorem coolComputation_of_slope (hnow : pr.tCd < tNow) (hslope : tNow < tLast) :
    coolComputation pr cool tLast tNow = .cool (max pr.cMin (scaledCool pr cool tLast tNow)) := by
  rw [coolComputation, if_neg (Int.not_le.2 hnow), if_neg (by omega), ← scaledCool,
    clampNat_max_of_le (scaledCool_le cool (Int.lt_trans hnow hslope) hslope)]

theorem coolComputation_eq_guard_iff : coolComputation pr cool tLast tNow = .guard ↔ tNow ≤ pr.tCd := by
  refine ⟨fun hguard => ?_, coolComputation_of_le⟩
  obtain hnow | hcold := Int.lt_or_le pr.tCd tNow
  · obtain hslope | hflat := Int.lt_or_le tNow tLast
    · cases (coolComputation_of_slope hnow hslope).symm.trans hguard
    · cases (coolComputation_of_no_slope hnow (.inr hflat)).symm.trans hguard
  · exact hcold

/-- Where the cool computation gives COOL, the load is above T_CD, and C′ is the greater of C_MIN and the whole or the
scaled cool time. -/
theorem coolComputation_cool_cases {c : Nat} (h : coolComputation pr cool tLast tNow = .cool c) :
    pr.tCd < tNow ∧
    ((tLast ≤ tNow ∧ c = max pr.cMin cool) ∨ (tNow < tLast ∧ c = max pr.cMin (scaledCool pr cool tLast tNow))) := by
  have hnow : pr.tCd < tNow := Int.not_le.1 fun hcold => by
    cases (coolComputation_of_le hcold).symm.trans h
  refine ⟨hnow, ?_⟩
  obtain hslope | hflat := Int.lt_or_le tNow tLast
  · rw [coolComputation_of_slope hnow hslope] at h
    exact .inr ⟨hslope, (CoolResult.cool.inj h).symm⟩
  · rw [coolComputation_of_no_slope hnow (.inr hflat)] at h
    exact .inl ⟨hflat, (CoolResult.cool.inj h).symm⟩

end CoolCases

/-- At or below T_CD the plan is GUARD COLD_LOAD with a full course of the basis program (R126, R127). -/
theorem coolPlan_of_le {pr : Params} {tNow : Int} (r : Record) (f : Facts) (why : PlanReason) (h : tNow ≤ pr.tCd) :
    coolPlan pr r f (some tNow) why =
      { basisPlan r f (some tNow) .guard .coldLoad with bursts := r.body.guard.bursts } := by
  rw [coolPlan, knownTemperature, coolComputation_of_le h]

end Sys2Proof.Machine

/-! ### The statements -/

namespace Sys2Proof.Proofs

open Sys2Proof.Machine

/-- Settles O54: the decision is the reheat plan, whose H′ is set by E with the bounds above. -/
theorem reheatComputation : Obligations.ReheatComputation := by
  rintro pr q f tNow r pl rfl houtcome
  rw [decidePlan_eq_reheatPlan houtcome]
  have hle := extraHeat_le_eMax pr r.body.exhaustLast tNow
  have hlt := extraHeat_lt pr r.body.exhaustLast tNow
  have hheat : (reheatPlan pr r f (some tNow)).heat =
      min 14400 (r.body.heat + extraHeat pr r.body.exhaustLast tNow) := rfl
  refine ⟨temperatureDrop r.body.exhaustLast tNow, extraHeat pr r.body.exhaustLast tNow,
    temperatureDrop_cast _ _, hle, fun hbelow => ⟨extraHeat_covers hbelow, hlt⟩, fun _ => hlt, extraHeat_eq_zero,
    fun hnow hlast hk => ?product, hheat, rfl, rfl, rfl, fun hbasis => ?atLeastBasis, ?atMost⟩
  case product => exact Nat.mul_le_mul (temperatureDrop_le hnow hlast) hk
  case atLeastBasis =>
    rw [hheat]
    omega
  case atMost =>
    rw [hheat]
    omega

/-- Settles O55: by whether the load has cooled since the basis was recorded. -/
theorem coolComputation : Obligations.CoolComputation := by
  intro pr cool tLast tNow
  refine ⟨coolComputation_eq_guard_iff, fun r f why pl hpl hcold => ?plan, fun c hcool => ?figure⟩
  case plan =>
    rw [hpl, coolPlan_of_le r f why hcold]
    exact ⟨rfl, rfl, rfl⟩
  case figure =>
    obtain ⟨hnow, ⟨hflat, rfl⟩ | ⟨hslope, rfl⟩⟩ := coolComputation_cool_cases hcool
    · exact ⟨Nat.le_max_left _ _, Nat.le_refl _, fun hmin hc => Nat.max_le.2 ⟨hmin, hc⟩, fun _ => rfl,
        fun _ hslope => absurd hslope (Int.not_lt.2 hflat)⟩
    · have hlast : pr.tCd < tLast := Int.lt_trans hnow hslope
      have hscaled := scaledCool_le cool hlast hslope
      exact ⟨Nat.le_max_left _ _, Nat.max_le.2 ⟨Nat.le_max_left _ _, Nat.le_trans hscaled (Nat.le_max_right _ _)⟩,
        fun hmin hc => Nat.max_le.2 ⟨hmin, Nat.le_trans hscaled hc⟩,
        fun hnone => absurd hnone (by omega),
        fun _ _ => ⟨Int.sub_pos_of_lt hnow, Int.sub_pos_of_lt hlast, scaledCool pr cool tLast tNow, hscaled,
          le_scaledCool_mul cool hnow hlast, scaledCool_mul_lt cool hnow hlast, rfl⟩⟩

end Sys2Proof.Proofs
end

section
/-! The end of a burst (R155, R40, R63): the timer's step, the handover of the count to the image, and the closure of an
exhausted course. -/

namespace Sys2Proof

theorem Per.set_set {α : Type} (x : Per α) (p : Pocket) (v w : α) : (x.set p v).set p w = x.set p w := by
  cases p <;> rfl

namespace Machine

/-! ### What a body write, a trigger and a selection do to one pocket's image -/

/-- R65: setting dirty changes the flag and the merge window alone. -/
theorem Image.soil_eq (journalFailed : Bool) (im : Image) :
    im.soil journalFailed = { im with dirty := true, window := (im.soil journalFailed).window } := by
  obtain ⟨_, _, _, dirty, _, _, _, _, _, _⟩ := im
  cases dirty <;> rfl

theorem Dev.writeBody_image_of_some {d : Dev} {p : Pocket} {im : Image} (f : Body → Body) (him : d.image.get p = some im) :
    (d.writeBody p f).image.get p = some (Image.soil (d.journalFailed p) { im with body := f im.body }) := by
  simp [Dev.writeBody, Dev.modImage, him]

/-- R66, R67: a trigger that is not discarded keeps the body, and queues its kind where no commit was owed. -/
theorem Dev.trigger_image_of_some {d : Dev} {p : Pocket} {im : Image} (kind : Kind) (reason : Option CloseReason)
    (hj : d.journalFailed p = false) (him : d.image.get p = some im) :
    ∃ im', (d.trigger p kind reason).image.get p = some im' ∧ im'.body = im.body ∧
      (im.commit = .none → im'.commit = .queued kind) := by
  rcases d.trigger_cases p kind reason with
    ⟨hj' | hnone, _⟩ | ⟨_, im₀, him₀, ⟨hc, heq⟩ | ⟨_, hc, heq⟩ | ⟨_, hc, heq⟩⟩
  · simp [hj] at hj'
  · simp [him] at hnone
  all_goals
    obtain rfl : im = im₀ := Option.some.inj (him.symm.trans him₀)
    simp [heq, hc]

/-- R68: a selection keeps a body, and leaves a queued commit queued or starts it. -/
theorem Dev.select_image_of_some {d : Dev} {p : Pocket} {im : Image} (him : d.image.get p = some im) :
    ∃ im', d.select.image.get p = some im' ∧ im'.body = im.body ∧
      ∀ k, im.commit = .queued k → im'.commit = .queued k ∨ im'.commit = .inFlight k := by
  obtain ⟨im', him', hkept⟩ := (d.select_image p).2 im him
  refine ⟨im', him', (Image.keptOrTaken_body hkept).1, fun k hk => ?_⟩
  rcases hkept with rfl | ⟨k', hk', rfl⟩
  · exact .inl hk
  · obtain rfl : k' = k := CommitStatus.queued.inj (hk'.symm.trans hk)
    exact .inr rfl

theorem Dev.select_attention (d : Dev) : d.select.link.attention = d.link.attention := by
  rw [d.select_link.1]

/-! ### What a closure does to its pocket, and that it spares the other (R37, R39) -/

theorem Dev.closureEffect_psq (p : Pocket) (r : Result) (d : Dev) :
    (d.closureEffect p r).psq =
      d.psq.set p { d.psq.get p with state := .vacant, mark := none, choice := none, startKind := .warm } := by
  simp only [Dev.closureEffect]
  (repeat' split) <;> simp

theorem Dev.closureEffect_image (p : Pocket) (r : Result) (d : Dev) :
    (d.closureEffect p r).image = d.image.set p none := by
  simp only [Dev.closureEffect]
  (repeat' split) <;> simp

theorem Dev.closureEffect_facts (p : Pocket) (r : Result) (d : Dev) :
    (d.closureEffect p r).bkd.facts = d.bkd.facts.set p .clear := by
  simp only [Dev.closureEffect]
  (repeat' split) <;> simp [Dev.releaseFacts]

/-- R39: the closure of an announced mark raises CLOSED. -/
theorem Dev.closureEffect_raises_closed {d : Dev} {p : Pocket} {reason : CloseReason} (r : Result)
    (hmark : (d.psq.get p).mark = some reason) (ha : reason.announced = true) :
    (d.closureEffect p r).link.attention.closed = true := by
  simp [Dev.closureEffect, hmark, ha, Dev.raiseCause, Attention.add]

theorem Dev.decideClosure_tmb (p : Pocket) (reason : CloseReason) (d : Dev) :
    (d.decideClosure p reason).tmb = d.tmb.set p (.idle (d.tmb.get p).burstsLeft) := by
  rcases d.decideClosure_cases p reason with ⟨_, heq⟩ | ⟨_, heq⟩ <;> simp [heq, Dev.stopTumbler]

theorem Dev.decideClosure_other (p : Pocket) (reason : CloseReason) (d : Dev) {q : Pocket} (hq : q ≠ p) :
    (d.decideClosure p reason).psq.get q = d.psq.get q ∧
      (d.decideClosure p reason).bkd.facts.get q = d.bkd.facts.get q := by
  rcases d.decideClosure_cases p reason with ⟨_, heq⟩ | ⟨_, heq⟩ <;>
    simp [heq, Dev.closureEffect_psq, Dev.closureEffect_facts, Per.set_get_of_ne _ _ hq]

/-- R37: without JOURNAL_FAIL a decided closure marks the pocket, keeps the body and queues a CLOSE. -/
theorem Dev.decideClosure_marks {d : Dev} {p : Pocket} (reason : CloseReason) (hj : d.journalFailed p = false) :
    (d.decideClosure p reason).psq = d.psq.set p { d.psq.get p with mark := some reason } ∧
      ∀ im, d.image.get p = some im → ∃ im', (d.decideClosure p reason).image.get p = some im' ∧
        im'.body = im.body ∧ (im.commit = .none → im'.commit = .queued .close) := by
  rcases d.decideClosure_cases p reason with ⟨hj', _⟩ | ⟨_, heq⟩
  · simp [hj] at hj'
  · rw [heq]
    refine ⟨by simp, fun im him => Dev.trigger_image_of_some _ _ ?_ (by simpa using him)⟩
    simpa [Dev.journalFailed] using hj

/-- R37, R66: under JOURNAL_FAIL a decided closure takes effect at once. -/
theorem Dev.decideClosure_vacates {d : Dev} {p : Pocket} {reason : CloseReason} (ha : reason.announced = true)
    (hj : d.journalFailed p = true) :
    ((d.decideClosure p reason).psq.get p).state = .vacant ∧ (d.decideClosure p reason).image.get p = none ∧
      (d.decideClosure p reason).bkd.facts.get p = .clear ∧ (d.decideClosure p reason).link.attention.closed = true := by
  rcases d.decideClosure_cases p reason with ⟨_, heq⟩ | ⟨hj', _⟩
  · rw [heq]
    exact ⟨by simp [Dev.closureEffect_psq], by simp [Dev.closureEffect_image], by simp [Dev.closureEffect_facts],
      Dev.closureEffect_raises_closed _ (by simp) ha⟩
  · simp [hj] at hj'

/-! ### The timer at a burst end (R155) -/

/-- The other direction. -/
def Direction.turned : Direction → Direction
  | .forward => .reverse
  | .reverse => .forward

/-- R155, step 4: the direction toggles where reverse is 1. -/
theorem Direction.afterBurst_eq (reverse : Nat) (x : Direction) :
    x.afterBurst reverse = if reverse = 1 then x.turned else x := by
  cases x <;> rfl

theorem Direction.afterBurst_eq_reverse_iff (reverse : Nat) (x : Direction) :
    x.afterBurst reverse = .reverse ↔ x = if reverse = 1 then .forward else .reverse := by
  cases x <;> by_cases h : reverse = 1 <;> simp [Direction.afterBurst, h]

/-- A timer as a burst end leaves it: at REST with the rest of its course, or IDLE where none is left. -/
def Tumbler.burstEnded (g : GuardProgram) (t : Tumbler) : Tumbler :=
  if 2 ≤ t.burstsLeft then
    { t with state := .rest, burstsLeft := t.burstsLeft - 1, direction := t.direction.afterBurst g.reverse }
  else .idle 0

theorem Tumbler.burstEnded_of_owed {t : Tumbler} (g : GuardProgram) (h : 2 ≤ t.burstsLeft) :
    t.burstEnded g =
      { t with state := .rest, burstsLeft := t.burstsLeft - 1, direction := t.direction.afterBurst g.reverse } :=
  if_pos h

theorem Tumbler.burstEnded_of_spent {t : Tumbler} (g : GuardProgram) (h : t.burstsLeft ≤ 1) :
    t.burstEnded g = .idle 0 :=
  if_neg (by omega)

theorem Tumbler.burstEnded_state_ne_burst (g : GuardProgram) (t : Tumbler) : (t.burstEnded g).state ≠ .burst := by
  unfold Tumbler.burstEnded
  split <;> simp [Tumbler.idle]

/-! ### The part at a burst end -/

/-- The count goes to the image and the timer takes its step; the sequencer has not heard of it yet. -/
def Dev.countBurst (p : Pocket) (g : GuardProgram) (d : Dev) : Dev :=
  (d.writeBody p fun b => { b with burstsLeft := (d.tmb.get p).burstsLeft - 1 }).setTmb p ((d.tmb.get p).burstEnded g)

@[simp] theorem Dev.countBurst_psq (p : Pocket) (g : GuardProgram) (d : Dev) : (d.countBurst p g).psq = d.psq := by
  simp [Dev.countBurst]

@[simp] theorem Dev.countBurst_bkd (p : Pocket) (g : GuardProgram) (d : Dev) : (d.countBurst p g).bkd = d.bkd := by
  simp [Dev.countBurst]

@[simp] theorem Dev.countBurst_tmb (p : Pocket) (g : GuardProgram) (d : Dev) :
    (d.countBurst p g).tmb = d.tmb.set p ((d.tmb.get p).burstEnded g) := by
  simp [Dev.countBurst]

@[simp] theorem Dev.countBurst_journalFailed (p q : Pocket) (g : GuardProgram) (d : Dev) :
    (d.countBurst p g).journalFailed q = d.journalFailed q := by
  simp [Dev.journalFailed]

theorem Dev.countBurst_frame (p : Pocket) (g : GuardProgram) (d : Dev) :
    d.countBurst p g = { d with tmb := (d.countBurst p g).tmb, image := (d.countBurst p g).image } := by
  apply Dev.ext <;> simp [Dev.countBurst]

/-- R63: the image takes the count and is dirty; its pending count and its commit stay as they were. -/
theorem Dev.countBurst_image_of_some {d : Dev} {p : Pocket} {im : Image} (g : GuardProgram)
    (him : d.image.get p = some im) :
    ∃ im', (d.countBurst p g).image.get p = some im' ∧
      im' = { im with
        body := { im.body with burstsLeft := (d.tmb.get p).burstsLeft - 1 }, dirty := true, window := im'.window } :=
  ⟨_, by rw [Dev.countBurst, Dev.setTmb_image, Dev.writeBody_image_of_some _ him], Image.soil_eq _ _⟩

/-- R155, R40: what the end of a burst can do. A pocket in ANTICREASE without a mark is closed with GUARD_DONE where its
course is exhausted; in every other case the count and the timer's step are all. -/
theorem Dev.endBurst_cases (p : Pocket) (g : GuardProgram) (d : Dev) :
    ((d.tmb.get p).burstsLeft ≤ 1 ∧ (d.psq.get p).state = .anticrease ∧ (d.psq.get p).mark = none ∧
      d.endBurst p g = ((d.countBurst p g).decideClosure p .guardDone).select) ∨
    ((2 ≤ (d.tmb.get p).burstsLeft ∨ (d.psq.get p).state ≠ .anticrease ∨ (d.psq.get p).mark ≠ none) ∧
      d.endBurst p g = d.countBurst p g) := by
  by_cases howed : 2 ≤ (d.tmb.get p).burstsLeft
  · have hone : 1 ≤ (d.tmb.get p).burstsLeft - 1 := by omega
    exact .inr ⟨.inl howed, by simp [Dev.endBurst, Dev.countBurst, hone, Tumbler.burstEnded_of_owed g howed]⟩
  · have hspent : (d.tmb.get p).burstsLeft ≤ 1 := by omega
    have hnone : (d.tmb.get p).burstsLeft - 1 = 0 := by omega
    by_cases hopen : (d.psq.get p).state = .anticrease ∧ (d.psq.get p).mark = none
    · obtain ⟨hstate, hmark⟩ := hopen
      refine .inl ⟨hspent, hstate, hmark, ?_⟩
      simp [Dev.endBurst, Dev.countBurst, hnone, hstate, hmark, Tumbler.burstEnded_of_spent g hspent]
    · refine .inr ⟨.inr (Decidable.not_and_iff_not_or_not.1 hopen), ?_⟩
      simp [Dev.endBurst, Dev.countBurst, hnone, hopen, Tumbler.burstEnded_of_spent g hspent]

/-- With bursts owed, the count and the timer's step are all. -/
theorem Dev.endBurst_of_owed {d : Dev} {p : Pocket} (g : GuardProgram) (h : 2 ≤ (d.tmb.get p).burstsLeft) :
    d.endBurst p g = d.countBurst p g := by
  rcases d.endBurst_cases p g with ⟨hspent, _⟩ | ⟨_, heq⟩
  · omega
  · exact heq

/-- An exhausted course of a pocket in ANTICREASE without a mark closes it (R40). -/
theorem Dev.endBurst_of_exhausted {d : Dev} {p : Pocket} (g : GuardProgram) (h : (d.tmb.get p).burstsLeft ≤ 1)
    (hstate : (d.psq.get p).state = .anticrease) (hmark : (d.psq.get p).mark = none) :
    d.endBurst p g = ((d.countBurst p g).decideClosure p .guardDone).select := by
  rcases d.endBurst_cases p g with ⟨_, _, _, heq⟩ | ⟨howed | hstate' | hmark', _⟩
  · exact heq
  · omega
  · exact absurd hstate hstate'
  · exact absurd hmark hmark'

/-- The timer's step is the same with and without a closure: a closure stops a timer that stands IDLE. -/
theorem Dev.endBurst_tmb (p : Pocket) (g : GuardProgram) (d : Dev) :
    (d.endBurst p g).tmb = d.tmb.set p ((d.tmb.get p).burstEnded g) := by
  rcases d.endBurst_cases p g with ⟨hspent, _, _, heq⟩ | ⟨_, heq⟩
  · simp [heq, Dev.decideClosure_tmb, Tumbler.burstEnded_of_spent g hspent, Tumbler.idle, Per.set_set]
  · simp [heq]

theorem Dev.endBurst_tmb_self (p : Pocket) (g : GuardProgram) (d : Dev) :
    (d.endBurst p g).tmb.get p = (d.tmb.get p).burstEnded g := by
  rw [Dev.endBurst_tmb, Per.set_get_self]

/-- R156: the motor request is off, since the timer is no longer in BURST. -/
theorem Dev.endBurst_motorRun (p : Pocket) (g : GuardProgram) (d : Dev) : (d.endBurst p g).motorRun p = false := by
  simp [Dev.motorRun, Dev.endBurst_tmb_self, Tumbler.burstEnded_state_ne_burst]

theorem Dev.endBurst_other (p : Pocket) (g : GuardProgram) (d : Dev) {q : Pocket} (hq : q ≠ p) :
    (d.endBurst p g).tmb.get q = d.tmb.get q ∧ (d.endBurst p g).psq.get q = d.psq.get q ∧
      (d.endBurst p g).bkd.facts.get q = d.bkd.facts.get q := by
  refine ⟨by rw [Dev.endBurst_tmb, Per.set_get_of_ne _ _ hq], ?_⟩
  rcases d.endBurst_cases p g with ⟨_, _, _, heq⟩ | ⟨_, heq⟩
  · simpa [heq] using Dev.decideClosure_other p .guardDone (d.countBurst p g) hq
  · simp [heq]

theorem Dev.endBurst_frame (p : Pocket) (g : GuardProgram) (d : Dev) :
    d.endBurst p g = { d with
      tmb := (d.endBurst p g).tmb, psq := (d.endBurst p g).psq, image := (d.endBurst p g).image
      engine := (d.endBurst p g).engine, ring := (d.endBurst p g).ring, journal := (d.endBurst p g).journal
      bkd := (d.endBurst p g).bkd, link := (d.endBurst p g).link } := by
  rcases d.endBurst_cases p g with ⟨_, _, _, heq⟩ | ⟨_, heq⟩ <;> rw [heq] <;> apply Dev.ext <;> simp [Dev.countBurst]

/-- R155 with bursts owed: the timer rests, MOTOR_REV_x shows its new direction, and the image takes the count. -/
theorem Dev.endBurst_rests {d : Dev} {p : Pocket} (g : GuardProgram) (h : 2 ≤ (d.tmb.get p).burstsLeft) :
    (d.endBurst p g).tmb.get p =
      { d.tmb.get p with
        state := .rest
        burstsLeft := (d.tmb.get p).burstsLeft - 1
        direction := if g.reverse = 1 then (d.tmb.get p).direction.turned else (d.tmb.get p).direction } ∧
    ((d.endBurst p g).motorRev p = true ↔ (d.tmb.get p).direction = if g.reverse = 1 then .forward else .reverse) ∧
    (∀ im, d.image.get p = some im → ∃ im', (d.endBurst p g).image.get p = some im' ∧
      im' = { im with
        body := { im.body with burstsLeft := (d.tmb.get p).burstsLeft - 1 }, dirty := true, window := im'.window }) ∧
    d.endBurst p g = { d with tmb := (d.endBurst p g).tmb, image := (d.endBurst p g).image } := by
  have htmb := (d.endBurst_tmb_self p g).trans (Tumbler.burstEnded_of_owed g h)
  refine ⟨by rw [htmb, Direction.afterBurst_eq], ?motorRev, ?_⟩
  case motorRev =>
    rw [← Direction.afterBurst_eq_reverse_iff]
    simp [Dev.motorRev, htmb]
  rw [Dev.endBurst_of_owed g h]
  exact ⟨fun im him => Dev.countBurst_image_of_some g him, d.countBurst_frame p g⟩

/-- R155 with the course exhausted: the timer is IDLE and FORWARD without a program, and MOTOR_REV_x is low. -/
theorem Dev.endBurst_idles {d : Dev} {p : Pocket} (g : GuardProgram) (h : (d.tmb.get p).burstsLeft ≤ 1) :
    (d.endBurst p g).tmb.get p = .idle 0 ∧ (d.endBurst p g).motorRev p = false := by
  have htmb := (d.endBurst_tmb_self p g).trans (Tumbler.burstEnded_of_spent g h)
  exact ⟨htmb, by simp [Dev.motorRev, htmb, Tumbler.idle]⟩

/-- R40: the exhausted course marks its pocket GUARD_DONE; the image takes the count 0 and owes a CLOSE. -/
theorem Dev.endBurst_marks {d : Dev} {p : Pocket} (g : GuardProgram) (h : (d.tmb.get p).burstsLeft ≤ 1)
    (hstate : (d.psq.get p).state = .anticrease) (hmark : (d.psq.get p).mark = none) (hj : d.journalFailed p = false) :
    (d.endBurst p g).psq = d.psq.set p { d.psq.get p with mark := some .guardDone } ∧
      ∀ im, d.image.get p = some im → ∃ im', (d.endBurst p g).image.get p = some im' ∧
        im'.body = { im.body with burstsLeft := 0 } ∧
        (im.commit = .none → im'.commit = .queued .close ∨ im'.commit = .inFlight .close) := by
  rw [Dev.endBurst_of_exhausted g h hstate hmark]
  obtain ⟨hpsq, hclose⟩ := Dev.decideClosure_marks (d := d.countBurst p g) (p := p) .guardDone (by simpa using hj)
  refine ⟨by simp [hpsq], fun im him => ?_⟩
  obtain ⟨counted, hcounted, heq⟩ := Dev.countBurst_image_of_some g him
  obtain ⟨closing, hclosing, hbody, hqueued⟩ := hclose counted hcounted
  obtain ⟨im', him', hbody', hcommit⟩ := Dev.select_image_of_some hclosing
  have hzero : (d.tmb.get p).burstsLeft - 1 = 0 := by omega
  refine ⟨im', him', ?_, fun hnone => hcommit .close (hqueued ?_)⟩
  · rw [hbody', hbody, heq, hzero]
  · rw [heq, hnone]

/-- R37, R40, R66: under JOURNAL_FAIL the exhausted course leaves its pocket VACANT and released, and raises CLOSED. -/
theorem Dev.endBurst_vacates {d : Dev} {p : Pocket} (g : GuardProgram) (h : (d.tmb.get p).burstsLeft ≤ 1)
    (hstate : (d.psq.get p).state = .anticrease) (hmark : (d.psq.get p).mark = none) (hj : d.journalFailed p = true) :
    ((d.endBurst p g).psq.get p).state = .vacant ∧ (d.endBurst p g).image.get p = none ∧
      (d.endBurst p g).bkd.facts.get p = .clear ∧ (d.endBurst p g).link.attention.closed = true := by
  rw [Dev.endBurst_of_exhausted g h hstate hmark]
  obtain ⟨hvacant, himage, hfacts, hclosed⟩ := Dev.decideClosure_vacates (d := d.countBurst p g) (p := p)
    (reason := .guardDone) rfl (by simpa using hj)
  exact ⟨by simpa using hvacant, (Dev.select_image _ p).1 himage, by simpa using hfacts, by rwa [Dev.select_attention]⟩

/-- R154, R155: the command of a timer in BURST ends the burst once the position has reached on. -/
theorem exec_burstEnd_of_burst {s : State} {p : Pocket} {g : GuardProgram} (hstate : (s.dev.tmb.get p).state = .burst)
    (hactive : (s.dev.tmb.get p).active = some g) :
    exec (.burstEnd p) s =
      .next { s with dev := if g.on ≤ (s.dev.tmb.get p).position then s.dev.endBurst p g else s.dev } := by
  change onDev (burstEnd p) s = _
  simp [onDev, burstEnd, hstate, hactive]

end Machine

end Sys2Proof

/-! ### The statement -/

namespace Sys2Proof.Proofs

open Sys2Proof.Machine

/-- Settles O34: by whether the position has reached on, then whether bursts are owed, then whether JOURNAL_FAIL is set. -/
theorem burstEnd : Obligations.BurstEnd := by
  intro s p g hstate hactive
  rw [exec_burstEnd_of_burst hstate hactive]
  refine ⟨fun hearly => by rw [if_neg (Nat.not_le.2 hearly)], fun hreached => ?_⟩
  refine ⟨s.dev.endBurst p g, by rw [if_pos hreached], s.dev.endBurst_motorRun p g, Dev.endBurst_rests g,
    fun hspent => ?exhausted, fun _ => s.dev.endBurst_other p g, s.dev.endBurst_frame p g⟩
  case exhausted =>
    obtain ⟨htimer, hrev⟩ := Dev.endBurst_idles g hspent
    exact ⟨htimer, hrev, fun hphase hmark =>
      ⟨Dev.endBurst_marks g hspent hphase hmark, Dev.endBurst_vacates g hspent hphase hmark⟩⟩

end Sys2Proof.Proofs
end

section
/-! What every operation of the part keeps: the laws of Sys2Proof/Safety.lean, said once for each shared operation, so that
what a command keeps is read off the operations it is made of. -/

namespace Sys2Proof.Machine

/-! ### The laws as a relation between two parts -/

/-- R26 for one pocket, whatever the run state. -/
def Dev.stallRests (d : Dev) (p : Pocket) : Prop :=
  (d.psq.get p).state = .vacant ∨ (d.psq.get p).state = .drying ∨ (d.psq.get p).state = .cooling ∨
    (d.psq.get p).state = .anticrease →
  (d.bkd.facts.get p).stall = 0 ∧ (d.bkd.facts.get p).stallRunning = false

/-- From `d` to `d'` the laws are kept, the link owes at most `n` replies more, and no pocket but `u` becomes DRYING. -/
structure Dev.Guards (u : Option Pocket) (n : Nat) (d d' : Dev) : Prop where
  legal : Params.legal d.link.params → Params.legal d'.link.params
  room : d'.link.taken ≤ d.link.taken + n
  ranges : d.backupRanges → d'.backupRanges
  rests : ∀ p, d.stallRests p → d'.stallRests p
  pending : d.pendingBounded → d'.pendingBounded
  capacity : d.eraseCapacity → d'.eraseCapacity
  dries : ∀ p, u ≠ some p → (d'.psq.get p).state = .drying → (d.psq.get p).state = .drying

/-- The run state and the reset hold stay as well. -/
structure Dev.Keeps (u : Option Pocket) (n : Nat) (d d' : Dev) : Prop extends Dev.Guards u n d d' where
  run : d'.run = d.run
  hold : d'.link.resetHold = d.link.resetHold

section
variable {u : Option Pocket} {m n : Nat} {d e f : Dev}

theorem Dev.Guards.trans (h : d.Guards u m e) (g : e.Guards u n f) : d.Guards u (m + n) f where
  legal := g.legal ∘ h.legal
  room := by have := h.room; have := g.room; omega
  ranges := g.ranges ∘ h.ranges
  rests p := g.rests p ∘ h.rests p
  pending := g.pending ∘ h.pending
  capacity := g.capacity ∘ h.capacity
  dries p hp := h.dries p hp ∘ g.dries p hp

theorem Dev.Keeps.trans (h : d.Keeps u m e) (g : e.Keeps u n f) : d.Keeps u (m + n) f where
  toGuards := h.toGuards.trans g.toGuards
  run := g.run.trans h.run
  hold := g.hold.trans h.hold

theorem Dev.Keeps.mono (h : d.Keeps u m e) (hle : m ≤ n) : d.Keeps u n e :=
  { h with room := by have := h.room; omega }

end

/-- The items that the laws speak of, but for the run state and the reset hold. -/
def Dev.lawItems (d : Dev) : Backup × Per Sequencer × Per (Option Image) × List Entry × Nat × Params :=
  (d.bkd, d.psq, d.image, d.engine.queue, d.link.taken, d.link.params)

/-- What leaves these items alone keeps every law. -/
theorem Dev.Guards.of_lawItems {u : Option Pocket} {d d' : Dev} (h : d'.lawItems = d.lawItems := by rfl) :
    d.Guards u 0 d' := by
  simp only [Dev.lawItems, Prod.mk.injEq] at h
  obtain ⟨hbkd, hpsq, himage, hqueue, htaken, hparams⟩ := h
  exact {
    legal := by rw [hparams]; exact id
    room := Nat.le_of_eq htaken
    ranges := by unfold Dev.backupRanges; rw [hbkd]; exact id
    rests := by unfold Dev.stallRests; rw [hbkd, hpsq]; exact fun _ => id
    pending := by unfold Dev.pendingBounded; rw [himage]; exact id
    capacity := by unfold Dev.eraseCapacity Dev.countEntries; rw [hqueue]; exact id
    dries := by rw [hpsq]; exact fun _ _ => id }

theorem Dev.Keeps.refl (u : Option Pocket) (d : Dev) : d.Keeps u 0 d := ⟨.of_lawItems, rfl, rfl⟩

/-- What leaves the items of the laws alone may follow anything. -/
theorem Dev.Keeps.step {u : Option Pocket} {n : Nat} {e d d' : Dev} (h : e.Keeps u n d) (hd : d.Keeps u 0 d') : e.Keeps u n d' :=
  h.trans hd

theorem Dev.Keeps.aside {u : Option Pocket} {n : Nat} {e d d' : Dev} (h : e.Keeps u n d)
    (hd : d'.lawItems = d.lawItems := by rfl) (hrun : d'.run = d.run := by rfl)
    (hhold : d'.link.resetHold = d.link.resetHold := by rfl) : e.Keeps u n d' := h.step ⟨.of_lawItems hd, hrun, hhold⟩

section
variable {u : Option Pocket} {n : Nat} {e d : Dev} {p : Pocket}

theorem Dev.Keeps.setTmb {t : Tumbler} (h : e.Keeps u n d) : e.Keeps u n (d.setTmb p t) := h.aside
theorem Dev.Keeps.setSns {x : Sensor} (h : e.Keeps u n d) : e.Keeps u n (d.setSns p x) := h.aside
theorem Dev.Keeps.setAdc {a : Adc} (h : e.Keeps u n d) : e.Keeps u n (d.setAdc a) := h.aside
theorem Dev.Keeps.setArbiter {a : Arbiter} (h : e.Keeps u n d) : e.Keeps u n (d.setArbiter a) := h.aside
theorem Dev.Keeps.setPins {x : Pins} (h : e.Keeps u n d) : e.Keeps u n (d.setPins x) := h.aside
theorem Dev.Keeps.setSettle {t : Settle} (h : e.Keeps u n d) : e.Keeps u n (d.setSettle t) := h.aside
theorem Dev.Keeps.setScan {x : Scanner} (h : e.Keeps u n d) : e.Keeps u n (d.setScan x) := h.aside
theorem Dev.Keeps.setFreeCount {k : Nat} (h : e.Keeps u n d) : e.Keeps u n (d.setFreeCount k) := h.aside
theorem Dev.Keeps.setPlan {pl : Option Plan} (h : e.Keeps u n d) : e.Keeps u n (d.setPlan p pl) := h.aside
theorem Dev.Keeps.setRing {r : Ring} (h : e.Keeps u n d) : e.Keeps u n (d.setRing p r) := h.aside
theorem Dev.Keeps.setJournal {j : Journal} (h : e.Keeps u n d) : e.Keeps u n (d.setJournal p j) := h.aside

end

/-! ### The updates that move one of these items -/

section Steps
variable {u : Option Pocket} {m n : Nat} {e d d' : Dev} {p : Pocket}

namespace Dev.Keeps

/-- A change of the link that keeps the hold and the parameters. -/
theorem setLink {l : Link} (h : e.Keeps u m d) (hhold : l.resetHold = d.link.resetHold)
    (hlegal : Params.legal d.link.params → Params.legal l.params) (hroom : l.taken ≤ d.link.taken + n) : e.Keeps u (m + n) (d.setLink l) :=
  h.trans {
    run := rfl
    hold := hhold
    legal := hlegal
    room := hroom
    ranges := id
    rests := fun _ => id
    pending := id
    capacity := id
    dries := fun _ _ => id }

/-- A change of a sequencer's other items keeps its laws; so does a move to SUSPENDED, PLANNED or WAITSTART. -/
theorem setPsq {q : Sequencer} (h : e.Keeps u n d)
    (hq : q.state = (d.psq.get p).state ∨ q.state = .suspended ∨ q.state = .planned ∨ q.state = .waitstart) :
    e.Keeps u n (d.setPsq p q) :=
  h.step {
    run := rfl
    hold := rfl
    legal := id
    room := Nat.le_refl _
    ranges := id
    rests := fun x hx => by
      by_cases hp : x = p
      · subst hp
        rcases hq with hq | hq | hq | hq
        · simpa [Dev.stallRests, hq] using hx
        all_goals simp [Dev.stallRests, hq]
      · simpa [Dev.stallRests, Per.set_get_of_ne _ _ hp] using hx
    pending := id
    capacity := id
    dries := fun x _ hx => by
      by_cases hp : x = p
      · subst hp
        rcases hq with hq | hq | hq | hq
        · simpa [hq] using hx
        all_goals simp [hq] at hx
      · simpa [Per.set_get_of_ne _ _ hp] using hx }

/-- An image that counts no more reports than the one it replaces, or no more than 15, keeps R62. -/
theorem setImage {x : Option Image} (h : e.Keeps u n d)
    (hx : ∀ im, x = some im → im.pending ≤ 15 ∨ ∃ im₀, d.image.get p = some im₀ ∧ im.pending ≤ im₀.pending) :
    e.Keeps u n (d.setImage p x) :=
  h.step {
    run := rfl
    hold := rfl
    legal := id
    room := Nat.le_refl _
    ranges := id
    rests := fun _ => id
    pending := fun hd q im hq => by
      by_cases hp : q = p
      · subst hp
        rcases hx im (by simpa using hq) with h | ⟨im₀, him₀, hle⟩
        · exact h
        · exact Nat.le_trans hle (hd q im₀ him₀)
      · exact hd q im (by simpa [Per.set_get_of_ne _ _ hp] using hq)
    capacity := id
    dries := fun _ _ => id }

/-- Removing an image keeps R62. -/
theorem dropImage (h : e.Keeps u n d) : e.Keeps u n (d.setImage p none) := h.setImage fun _ h => nomatch h

/-- An image that replaces one with as many reports or more keeps R62. -/
theorem replaceImage {im im' : Image} (h : e.Keeps u n d) (him : d.image.get p = some im) (hle : im'.pending ≤ im.pending) :
    e.Keeps u n (d.setImage p (some im')) := h.setImage fun _ h' => Option.some.inj h' ▸ .inr ⟨im, him, hle⟩

/-- A new image with at most 15 reports keeps R62. -/
theorem newImage {im : Image} (h : e.Keeps u n d) (hle : im.pending ≤ 15) : e.Keeps u n (d.setImage p (some im)) :=
  h.setImage fun _ h' => Option.some.inj h' ▸ .inl hle

/-- An engine whose queue holds no more ERASE entries than 4 and no more FORMAT entries than 1, or than before, keeps Table 5-2. -/
theorem setEngine {g : Engine} (h : e.Keeps u n d)
    (herase : (g.queue.countP fun x => x.work.isErase) ≤ max 4 (d.countEntries Work.isErase))
    (hformat : (g.queue.countP fun x => x.work.isFormat) ≤ max 1 (d.countEntries Work.isFormat)) : e.Keeps u n (d.setEngine g) :=
  h.step {
    run := rfl
    hold := rfl
    legal := id
    room := Nat.le_refl _
    ranges := id
    rests := fun _ => id
    pending := id
    capacity := by
      rintro ⟨h1, h2⟩
      simp only [Dev.eraseCapacity, Dev.countEntries, Dev.setEngine_engine] at *
      omega
    dries := fun _ _ => id }

/-- A queue that loses entries keeps Table 5-2. -/
theorem setQueue {g : Engine} (h : e.Keeps u n d) (hq : g.queue.Sublist d.engine.queue) : e.Keeps u n (d.setEngine g) :=
  h.setEngine (Nat.le_trans hq.countP_le (Nat.le_max_right _ _)) (Nat.le_trans hq.countP_le (Nat.le_max_right _ _))

theorem setEngine_queue {g : Engine} (h : e.Keeps u n d) (hq : g.queue = d.engine.queue := by rfl) :
    e.Keeps u n (d.setEngine g) := h.setQueue (hq ▸ .refl _)

/-- Facts in their ranges, with a stall counter that is as it was, or 0 and stopped. -/
theorem setFacts {f : Facts} (h : e.Keeps u n d) (hstall : f.stall ≤ max stallTop (d.bkd.facts.get p).stall)
    (hlosses : f.losses ≤ max 255 (d.bkd.facts.get p).losses)
    (hrests : (d.bkd.facts.get p).stall = 0 ∧ (d.bkd.facts.get p).stallRunning = false →
      f.stall = 0 ∧ f.stallRunning = false) : e.Keeps u n (d.setFacts p f) :=
  h.step {
    run := rfl
    hold := rfl
    legal := id
    room := Nat.le_refl _
    ranges := by
      rintro ⟨h1, h2, h3, h4⟩
      refine ⟨h1, h2, h3, fun q => ?_⟩
      by_cases hp : q = p
      · subst hp
        have := h4 q
        simp only [stallTop, Dev.setFacts_bkd, Per.set_get_self] at *
        omega
      · simpa [Per.set_get_of_ne _ _ hp] using h4 q
    rests := fun q hq hstate => by
      have hold := hq (by simpa using hstate)
      by_cases hp : q = p
      · subst hp
        simpa using hrests hold
      · simpa [Per.set_get_of_ne _ _ hp] using hold
    pending := id
    capacity := id
    dries := fun _ _ => id }

theorem releaseFacts (h : e.Keeps u n d) : e.Keeps u n (d.releaseFacts p) :=
  h.setFacts (by simp [Facts.clear]) (by simp [Facts.clear]) (by simp [Facts.clear])

end Dev.Keeps

/-- A pocket that is released as it takes another state rests (R26, R29). -/
theorem Dev.Keeps.enter {q : Sequencer} (h : e.Keeps u n d) (hq : q.state ≠ .drying ∨ u = some p) :
    e.Keeps u n ((d.setPsq p q).releaseFacts p) :=
  h.step { (Dev.Keeps.refl u d).releaseFacts (p := p) with
    rests := fun x hx => by
      by_cases hp : x = p
      · subst hp
        simp [Dev.stallRests, Dev.releaseFacts, Facts.clear]
      · simpa [Dev.stallRests, Dev.releaseFacts, Per.set_get_of_ne _ _ hp] using hx
    dries := fun x hu hx => by
      by_cases hp : x = p
      · subst hp
        exact absurd (by simpa using hx) (hq.resolve_right hu)
      · simpa [Per.set_get_of_ne _ _ hp] using hx }

/-- A move between the states in which a pocket's counter rests (R26). -/
theorem Dev.Keeps.moves {q : Sequencer} (h : e.Keeps u n d) (hq : q.state ≠ .drying ∨ u = some p)
    (hold : (d.psq.get p).state = .vacant ∨ (d.psq.get p).state = .drying ∨ (d.psq.get p).state = .cooling) :
    e.Keeps u n (d.setPsq p q) :=
  h.step { Dev.Keeps.refl u d with
    rests := fun x hx hstate => by
      refine hx ?_
      by_cases hp : x = p
      · subst hp
        rcases hold with h | h | h <;> simp [h]
      · simpa [Per.set_get_of_ne _ _ hp] using hstate
    dries := fun x hu hx => by
      by_cases hp : x = p
      · subst hp
        exact absurd (by simpa using hx) (hq.resolve_right hu)
      · simpa [Per.set_get_of_ne _ _ hp] using hx }

@[simp] theorem Sequencer.put_state (q : Sequencer) (f : PocketFault) (v : Bool) : (q.put f v).state = q.state := by
  cases f <;> rfl

/-- An entry that is owed leaves its place free when it is taken out. -/
theorem Dev.undefer_room {q : Request} {x : Option Pocket} {o : Deferred} (h : d.owed q x = some o) :
    (d.undefer q x).link.taken + 1 ≤ d.link.taken := by
  have hlt : (d.link.deferred.filter fun e => !(Deferred.isFor q x e)).length < d.link.deferred.length :=
    List.length_filter_lt_length_iff_exists.2
      ⟨o, List.mem_of_find?_eq_some h, by simpa using List.find?_some h⟩
  simp only [Link.taken, Dev.undefer, Dev.setLink_link]
  omega

theorem insertByAge_perm (x : Entry) (l : List Entry) : (insertByAge x l).Perm (x :: l) := by
  induction l with
  | nil => exact .refl _
  | cons y ys ih =>
    unfold insertByAge
    split
    · exact .refl _
    · exact (List.Perm.cons y ih).trans (.swap x y ys)

theorem Image.soil_pending (journalFailed : Bool) (im : Image) : (im.soil journalFailed).pending = im.pending := by
  rw [Image.soil_eq]

namespace Dev.Keeps

/-! ### The shared operations -/

theorem raiseCause {c : Cause} (h : e.Keeps u n d) : e.Keeps u n (d.raiseCause c) :=
  h.setLink (n := 0) rfl id (Nat.le_refl _)

theorem raiseFault {f : PocketFault} (h : e.Keeps u n d) : e.Keeps u n (d.raiseFault p f) := by
  rcases d.raiseFault_cases p f with ⟨_, heq⟩ | ⟨_, heq⟩ <;> rw [heq]
  · exact h
  · exact .raiseCause (.setPsq h (.inl (Sequencer.put_state _ _ _)))

theorem clearDevice {f : DeviceFault} (h : e.Keeps u n d) : e.Keeps u n (d.clearDevice f) := h.aside

theorem raiseDevice {f : DeviceFault} (h : e.Keeps u n d) : e.Keeps u n (d.raiseDevice f) := by
  rcases d.raiseDevice_cases f with ⟨_, heq⟩ | ⟨_, heq⟩ <;> rw [heq]
  · exact h
  · exact .raiseCause (.aside h)

theorem send {r : Reply} (h : e.Keeps u n d) : e.Keeps u (n + 1) (d.send r) :=
  h.setLink rfl id (by simp only [Link.taken, List.length_append, List.length_singleton]; omega)

theorem reply {q : Request} {payload : List Byte} (h : e.Keeps u n d) : e.Keeps u (n + 1) (d.reply q payload) := h.send

theorem answer {q : Request} {r : Result} {figures : List Byte} (h : e.Keeps u n d) :
    e.Keeps u (n + 1) (d.answer q p r figures) := h.send

theorem refuse {q : Request} {payload : List Byte} {r : Result} (h : e.Keeps u n d) :
    e.Keeps u (n + 1) (d.refuse q payload r) := h.send

theorem defer {o : Deferred} (h : e.Keeps u n d) : e.Keeps u (n + 1) (d.defer o) :=
  h.setLink rfl id (by simp only [Link.taken, List.length_append, List.length_singleton]; omega)

theorem undefer {q : Request} {x : Option Pocket} (h : e.Keeps u n d) : e.Keeps u n (d.undefer q x) :=
  h.setLink (n := 0) rfl id (by
    have := List.length_filter_le (fun o => !(Deferred.isFor q x o)) d.link.deferred
    simp only [Link.taken]; omega)

/-- What takes an owed entry out and puts one reply or one entry in its place owes no more than before. -/
theorem replaces {q : Request} {x : Option Pocket} {o : Deferred} (h : e.Keeps u n d) (howed : d.owed q x = some o)
    (hd : (d.undefer q x).Keeps u 1 d') : e.Keeps u n d' :=
  h.step { (Dev.Keeps.refl u d).undefer (q := q) (x := x) |>.trans hd with
    room := by have := hd.room; have := Dev.undefer_room howed; omega }

theorem release {q : Request} {x : Option Pocket} {payload : List Byte} (h : e.Keeps u n d) :
    e.Keeps u n (d.release q x payload) := by
  rcases d.release_cases q x payload with ⟨_, heq⟩ | ⟨_, howed, heq⟩ <;> rw [heq]
  · exact h
  · exact h.replaces howed (.reply (.refl u _))

/-! ### The queue (Table 5-2) -/

theorem enqueue {w : Work} (h : e.Keeps u n d) (he : w.isErase = false) (hf : w.isFormat = false) :
    e.Keeps u n (d.enqueue w) :=
  h.setEngine (by simp [List.countP_append, he, Dev.countEntries, Nat.le_max_right])
    (by simp [List.countP_append, hf, Dev.countEntries, Nat.le_max_right])

theorem askErase {slot : Fin 16} (h : e.Keeps u n d) : e.Keeps u n (d.askErase p slot) := by
  rcases d.askErase_cases p slot with ⟨_, heq⟩ | ⟨_, _, hroom, heq⟩ <;> rw [heq]
  · exact h
  · refine h.setEngine ?_ (by simp [List.countP_append, Work.isFormat, Dev.countEntries, Nat.le_max_right])
    simp only [List.countP_append, List.countP_singleton, Work.isErase, if_true, Dev.countEntries] at hroom ⊢
    omega

theorem keepEntries {keep : Work → Bool} (h : e.Keeps u n d) : e.Keeps u n (d.keepEntries keep) :=
  h.setQueue List.filter_sublist

theorem dequeue {x : Entry} (h : e.Keeps u n d) : e.Keeps u n (d.dequeue x) := h.setQueue List.erase_sublist

theorem updateFormat {next : Fin 16} {failed : Bool} (h : e.Keeps u n d) : e.Keeps u n (d.updateFormat p next failed) := by
  have hmoved : ∀ x : Entry,
      (if x.work.isFormatOf p then { x with work := .format p next failed } else x : Entry).work.isErase = x.work.isErase ∧
      (if x.work.isFormatOf p then { x with work := .format p next failed } else x : Entry).work.isFormat =
        x.work.isFormat := by
    rintro ⟨age, w⟩
    cases w with
    | format q _ _ => by_cases hq : q = p <;> simp [Work.isFormatOf, Work.isErase, Work.isFormat, hq]
    | _ => exact ⟨rfl, rfl⟩
  refine h.setEngine ?_ ?_ <;>
    simp only [List.countP_map, Function.comp_def, hmoved, Dev.countEntries] <;> omega

theorem paramEnded {matched second : Bool} {age : Nat} (h : e.Keeps u n d) : e.Keeps u n (d.paramEnded matched second age) := by
  unfold Dev.paramEnded
  split
  · exact .clearDevice (.release h)
  · split
    · exact .release h
    · refine .setEngine h ?_ ?_ <;>
        simp [(insertByAge_perm _ _).countP_eq, Work.isErase, Work.isFormat, Dev.countEntries, Nat.le_max_right]

/-! ### Images (R62) -/

theorem modImage {f : Image → Image} (h : e.Keeps u n d) (hf : ∀ im, (f im).pending ≤ im.pending) :
    e.Keeps u n (d.modImage p f) :=
  h.setImage fun im him => by
    obtain ⟨im₀, him₀, rfl⟩ := Option.map_eq_some_iff.1 him
    exact .inr ⟨im₀, him₀, hf im₀⟩

theorem writeBody {f : Body → Body} (h : e.Keeps u n d) : e.Keeps u n (d.writeBody p f) :=
  h.modImage fun _ => Nat.le_of_eq (Image.soil_pending _ _)

theorem trigger {kind : Kind} {reason : Option CloseReason} (h : e.Keeps u n d) : e.Keeps u n (d.trigger p kind reason) := by
  rcases d.trigger_cases p kind reason with ⟨_, heq⟩ | ⟨_, im, him, ⟨_, heq⟩ | ⟨_, _, heq⟩ | ⟨_, _, heq⟩⟩ <;> rw [heq]
  · exact h
  · exact .enqueue (.replaceImage h him (Nat.le_refl _)) rfl rfl
  all_goals exact .replaceImage h him (Nat.le_refl _)

theorem rebuildForClosure (h : e.Keeps u n d) : e.Keeps u n (d.rebuildForClosure p) := by
  unfold Dev.rebuildForClosure
  split
  · exact h
  · exact .newImage h (Nat.zero_le _)

theorem rebuildForResumption {c : Choice} (h : e.Keeps u n d) : e.Keeps u n (d.rebuildForResumption p c) := by
  unfold Dev.rebuildForResumption
  split
  · exact h
  · exact .newImage h (Nat.zero_le _)

/-! ### Timers and closures -/

theorem stopTumbler (h : e.Keeps u n d) : e.Keeps u n (d.stopTumbler p) := h.aside

theorem stopTumblers (h : e.Keeps u n d) : e.Keeps u n d.stopTumblers := h.aside

theorem mapTumblers {f : Tumbler → Tumbler} (h : e.Keeps u n d) : e.Keeps u n (d.mapTumblers f) := h.aside

theorem startTumbler {g : GuardProgram} {bursts : Nat} (h : e.Keeps u n d) : e.Keeps u n (d.startTumbler p g bursts) := h.aside

theorem leaveGrantQueue (h : e.Keeps u n d) : e.Keeps u n (d.leaveGrantQueue p) := h.aside

theorem closureEffect {r : Result} (h : e.Keeps u n d) : e.Keeps u n (d.closureEffect p r) := by
  have hvacate : e.Keeps u n (((d.setPsq p
      { d.psq.get p with state := .vacant, mark := none, choice := none, startKind := .warm }).setImage p
        none).releaseFacts p) := .dropImage (.enter h (.inl (by simp)))
  simp only [Dev.closureEffect]
  split
  · split
    · exact .raiseCause (.release hvacate)
    · exact .release hvacate
  · exact .release hvacate

theorem startupClosureEnds (h : e.Keeps u n d) : e.Keeps u n (d.startupClosureEnds p) := .dropImage (.setPsq h (.inl rfl))

theorem finishClosure {r : Result} (h : e.Keeps u n d) : e.Keeps u n (d.finishClosure p r) := by
  unfold Dev.finishClosure
  split
  · exact h.startupClosureEnds
  · exact h.closureEffect

theorem decideClosure {reason : CloseReason} (h : e.Keeps u n d) : e.Keeps u n (d.decideClosure p reason) := by
  have hmark : e.Keeps u n ((d.stopTumbler p).setPsq p { d.psq.get p with mark := some reason }) :=
    .setPsq h.stopTumbler (.inl rfl)
  rcases d.decideClosure_cases p reason with ⟨_, heq⟩ | ⟨_, heq⟩ <;> rw [heq]
  · exact hmark.closureEffect
  · exact hmark.trigger

theorem closeWaiting {reason : CloseReason} (h : e.Keeps u n d) : e.Keeps u n (d.closeWaiting p reason) :=
  .decideClosure (.rebuildForClosure (.leaveGrantQueue (.setPsq h (.inl rfl))))

theorem enterAnticrease {g : GuardProgram} {bursts : Nat} (h : e.Keeps u n d) :
    e.Keeps u n (d.enterAnticrease p g bursts) := by
  rcases d.enterAnticrease_cases p g bursts with ⟨_, heq⟩ | ⟨_, heq⟩ <;> rw [heq]
  · exact h.decideClosure
  · exact h.startTumbler

end Dev.Keeps

end Steps

/-! ### Leaving WAITSTART (R46) -/

section Waitstart
variable (p : Pocket) (d : Dev)

/-- The rebuild, the RESUME commit, the release and the new state of a pocket that leaves WAITSTART (R46). -/
def Dev.resumed (c : Choice) (phase : Phase) : Dev :=
  let d1 := (d.rebuildForResumption p c).trigger p .resume none
  (d1.setPsq p { d1.psq.get p with state := phase.pocketState, startKind := .warm, choice := none }).releaseFacts p

theorem Dev.Keeps.resumed {u : Option Pocket} {n : Nat} {e d : Dev} {p : Pocket} {c : Choice} {phase : Phase}
    (h : e.Keeps u n d) (hphase : phase ≠ .drying ∨ u = some p) : e.Keeps u n (d.resumed p c phase) :=
  .enter (.trigger (.rebuildForResumption h)) (hphase.imp_left fun h => by cases phase <;> simp_all [Phase.pocketState])

theorem Dev.leaveWaitstart_eq (c : Choice) (phase : Phase) :
    d.leaveWaitstart p c phase =
      if phase = .anticrease then (d.resumed p c phase).enterAnticrease p c.guard c.bursts else d.resumed p c phase := by
  cases phase <;> rfl

end Waitstart

section Steps
variable {u : Option Pocket} {n : Nat} {e d d' : Dev} {p : Pocket}

namespace Dev.Keeps

theorem leaveWaitstart {c : Choice} {phase : Phase} (h : e.Keeps u n d) (hphase : phase ≠ .drying ∨ u = some p) :
    e.Keeps u n (d.leaveWaitstart p c phase) := by
  rw [Dev.leaveWaitstart_eq]
  split
  · exact .enterAnticrease (.resumed h hphase)
  · exact .resumed h hphase

theorem startTest (h : e.Keeps u n d) : e.Keeps u n (d.startTest p) := by
  rcases d.startTest_cases p with heq | ⟨_, _, _, _, c, _, ⟨_, heq⟩ | ⟨_, heq⟩⟩ <;> rw [heq]
  · exact h
  all_goals exact h.leaveWaitstart (.inl (by simp))

theorem startTests (h : e.Keeps u n d) : e.Keeps u n d.startTests := h.startTest.startTest

/-! ### The engine in RUN -/

theorem startOperation {op : Operation} (h : e.Keeps u n d) : e.Keeps u n (d.startOperation op) := h.aside

theorem setService {v : Option Service} (h : e.Keeps u n d) : e.Keeps u n (d.setService v) := h.aside

theorem endOperation (h : e.Keeps u n d) : e.Keeps u n d.endOperation := h.aside

theorem markBlank {slot : Fin 16} {v : Bool} (h : e.Keeps u n d) : e.Keeps u n (d.markBlank p slot v) := h.aside

theorem writeSnapshot {snap : Snapshot} (h : e.Keeps u n d) : e.Keeps u n (d.writeSnapshot p snap) := h.aside

theorem writeStart {v : Service} (h : e.Keeps u n d) : e.Keeps u n (d.writeStart v) := by
  unfold Dev.writeStart
  split
  · exact h.writeSnapshot
  · split
    · exact h.setService
    · next im him =>
      split
      · exact .writeSnapshot (.replaceImage h him (Nat.zero_le _))
      · exact h.setService
      · exact h.setService

theorem serve {v : Service} (h : e.Keeps u n d) : e.Keeps u n (d.serve v) := by
  unfold Dev.serve
  split
  · exact h.writeStart
  · exact .startOperation (.setService (.keepEntries h))

theorem finishFormat {failed : Bool} (h : e.Keeps u n d) : e.Keeps u n (d.finishFormat p failed) :=
  .release (.setJournal (.setRing (.keepEntries h)))

theorem formatStep {failed : Bool} {l : List (Fin 16)} (h : e.Keeps u n d) : e.Keeps u n (Dev.formatStep p failed l d) := by
  induction l with
  | nil => exact h.finishFormat
  | cons i l ih =>
    unfold Dev.formatStep
    split
    · exact ih
    · exact .startOperation (.updateFormat h)

theorem selectBackground (h : e.Keeps u n d) : e.Keeps u n d.selectBackground := by
  unfold Dev.selectBackground
  split
  · split
    · exact .startOperation (.dequeue h)
    all_goals exact h
  · split
    · split
      · exact .startOperation (.dequeue h)
      all_goals exact h
    · split
      · split
        · exact h.formatStep
        all_goals exact h
      · exact h

theorem select (h : e.Keeps u n d) : e.Keeps u n d.select := by
  unfold Dev.select
  split
  · exact h
  · split
    · exact h.serve
    · split
      · split
        · exact .serve (.dequeue h)
        · exact h
      · split
        · exact h.selectBackground
        · exact h

/-! ### The engine in LOSS_COMMIT -/

theorem skipCommit (h : e.Keeps u n d) : e.Keeps u n (d.skipCommit p) :=
  .modImage (.setRing (.setService (.keepEntries h))) fun _ => Nat.le_refl _

theorem skipAll (h : e.Keeps u n d) : e.Keeps u n d.skipAll := by
  have hif : ∀ {d : Dev} (b : Bool) (q : Pocket), e.Keeps u n d → e.Keeps u n (if b then d.skipCommit q else d) := by
    intro d b q h
    cases b
    · exact h
    · exact h.skipCommit
  refine hif _ .b (hif _ .a ?_)
  split
  · exact h.skipCommit
  · exact h

theorem lossSelect (i : Nat) (h : e.Keeps u n d) : e.Keeps u n (Dev.lossSelect i d) := by
  induction i generalizing d with
  | zero => exact h
  | succ i ih =>
    unfold Dev.lossSelect
    split
    · exact h
    · split
      · split
        · exact h.skipAll
        · split
          · exact h.writeStart
          · exact ih h.skipCommit
      · split
        · exact h
        · split
          · exact h.skipAll
          · split
            · exact .writeStart (.keepEntries h)
            · exact ih h.skipCommit

/-! ### The end of an operation -/

theorem answerStart {cycle : Nat} {seq : Word} (h : e.Keeps u n d) : e.Keeps u n (d.answerStart p cycle seq) := by
  unfold Dev.answerStart
  split
  · exact h
  · exact h.release

theorem answerCheckpoint {seq : Word} (h : e.Keeps u n d) : e.Keeps u n (d.answerCheckpoint p seq) := by
  unfold Dev.answerCheckpoint
  split
  · exact h
  · next o howed =>
    split
    · exact h.release
    · exact h.replaces howed (.defer (.refl u _))

theorem recommit (h : e.Keeps u n d) : e.Keeps u n (d.recommit p) := by
  unfold Dev.recommit
  split
  · exact h
  · next im him =>
    have hset : ∀ {im' : Image}, im'.pending = im.pending → e.Keeps u n (d.setImage p (some im')) := fun h' =>
      .replaceImage h him (Nat.le_of_eq h')
    split
    · exact .enqueue (hset rfl) rfl rfl
    · dsimp only
      split
      · exact .trigger (hset rfl)
      · exact hset rfl

theorem imageCompleted {snap : Snapshot} (h : e.Keeps u n d) : e.Keeps u n (d.imageCompleted p snap) :=
  .recommit (.modImage h fun _ => Nat.le_refl _)

theorem clearLosses (h : e.Keeps u n d) : e.Keeps u n (d.setFacts p { d.bkd.facts.get p with losses := 0 }) :=
  h.setFacts (Nat.le_max_right _ _) (Nat.zero_le _) id

theorem commitCompleted {slot : Fin 16} {snap : Snapshot} {seq : Word} {beforeLoss : Bool} (h : e.Keeps u n d) :
    e.Keeps u n (d.commitCompleted p slot snap seq beforeLoss) := by
  unfold Dev.commitCompleted
  extract_lets _ _ d1 d2 _ d3 d4 d5
  have h2 : e.Keeps u n d2 := .setJournal (.setEngine_queue (.setRing h))
  have h3 : e.Keeps u n d3 := by
    unfold d3
    split
    · exact h2
    · exact h2.clearLosses
  have h4 : e.Keeps u n d4 := h3.answerStart.answerCheckpoint
  refine .askErase ?_
  unfold d5
  split
  · exact h4.finishClosure
  · exact h4.imageCompleted

theorem journalFail {slot : Fin 16} {snap : Option Snapshot} {failedWrite : Bool} (h : e.Keeps u n d) :
    e.Keeps u n (d.journalFail p slot snap failedWrite) := by
  unfold Dev.journalFail
  extract_lets d1 d2 _ d3 cycle d4 d5
  have h2 : e.Keeps u n d2 := by
    unfold d2
    split
    · exact h.raiseFault.askErase
    · exact h.raiseFault
  have h5 : e.Keeps u n d5 := .modImage (.release (.release (.setService (.setRing h2)))) fun _ => Nat.le_refl _
  split
  · exact h5.finishClosure
  · exact h5

theorem dropMark (h : e.Keeps u n d) : e.Keeps u n (d.dropMark p) :=
  .modImage (.setPsq h (.inl rfl)) fun _ => Nat.le_refl _

theorem endWithoutRecord {kind : Kind} (h : e.Keeps u n d) : e.Keeps u n (d.endWithoutRecord p kind) := by
  unfold Dev.endWithoutRecord
  extract_lets _ d1 d2
  have h2 : e.Keeps u n d2 := by
    unfold d2
    split
    · exact .dropMark (.setService h.setRing)
    · exact .setService h.setRing
  split
  · exact h2
  · next im him =>
    split
    · exact .enqueue (.replaceImage h2 him (Nat.le_refl _)) rfl rfl
    · exact .replaceImage h2 him (Nat.le_refl _)

theorem writeRetry {slot : Fin 16} (h : e.Keeps u n d) : e.Keeps u n (d.writeRetry p slot) := h.raiseFault.askErase.setRing

theorem writeFailed {slot : Fin 16} {snap : Snapshot} {beforeLoss : Bool} (h : e.Keeps u n d) :
    e.Keeps u n (d.writeFailed p slot snap beforeLoss) := by
  unfold Dev.writeFailed
  split
  · split
    · exact h.writeRetry.endWithoutRecord
    · exact h.writeRetry
  · exact h.journalFail

theorem formatSlotDone {slot : Fin 16} {passed : Bool} (h : e.Keeps u n d) : e.Keeps u n (d.formatSlotDone p slot passed) := by
  unfold Dev.formatSlotDone
  split
  · exact h
  · split
    · split
      · exact h.finishFormat
      · exact h.updateFormat
    all_goals exact h

theorem targetEraseFailed {slot : Fin 16} (h : e.Keeps u n d) : e.Keeps u n (d.targetEraseFailed p slot) := by
  unfold Dev.targetEraseFailed
  split
  · exact h.setRing.endWithoutRecord
  · dsimp only
    split
    · exact h.setRing
    · exact h.keepEntries.journalFail

theorem targetErasePassed (h : e.Keeps u n d) : e.Keeps u n (d.targetErasePassed p) := by
  unfold Dev.targetErasePassed
  split
  · exact h.endWithoutRecord
  · exact h

theorem eraseEnded {slot : Fin 16} {purpose : ErasePurpose} {passed : Bool} (h : e.Keeps u n d) :
    e.Keeps u n (d.eraseEnded p slot purpose passed) := by
  unfold Dev.eraseEnded
  extract_lets d1
  have h1 : e.Keeps u n d1 := by
    unfold d1
    split
    · exact h.markBlank
    · exact h.markBlank.raiseFault
  cases purpose with
  | entry => exact h1
  | format => exact h1.formatSlotDone
  | target =>
    dsimp only
    split
    · exact h1.targetErasePassed
    · exact h1.targetEraseFailed

end Dev.Keeps
end Steps

end Sys2Proof.Machine
end

section
/-! What the owners of the requests and the commands of RUN keep, read off the shared operations they are made of. -/

namespace Sys2Proof.Machine

section Planner
variable {u : Option Pocket} {n : Nat} {e d : Dev} {p : Pocket}

namespace Dev.Keeps

/-! ### The planner (R45) -/

theorem awaitGuard {pl : Plan} (h : e.Keeps u n d) : e.Keeps u n (d.awaitGuard p pl) :=
  .raiseCause (.setPsq h (.inr (.inr (.inr rfl))))

theorem becomePlanned (h : e.Keeps u n d) : e.Keeps u n (d.becomePlanned p) :=
  .raiseCause (.setPsq h (.inr (.inr (.inl rfl))))

theorem actOnPlan {pl : Plan} (h : e.Keeps u n d) : e.Keeps u n (d.actOnPlan p pl) := by
  unfold Dev.actOnPlan
  split
  · exact h.closeWaiting
  · exact h.awaitGuard.startTest
  all_goals exact h.becomePlanned

theorem recompute (h : e.Keeps u n d) : e.Keeps u n (d.recompute p) := by
  unfold Dev.recompute
  split
  · exact h
  · exact .actOnPlan (.setPlan (.leaveGrantQueue (.setPsq h (.inl rfl))))

/-! ### FORMAT and the parameters (R53, R97, R99, R174) -/

theorem formatOwner {payload : List Byte} : d.Keeps u 1 (formatOwner payload p d) := by
  unfold Machine.formatOwner
  dsimp only
  split
  · exact .refuse (.refl u d)
  · split
    · exact .refuse (.refl u d)
    · next hnone =>
      refine .select (.defer (.setEngine (.keepEntries (.refl u d)) ?_ ?_))
      · simp [List.countP_append, Work.isErase, Dev.countEntries, Nat.le_max_right]
      · have hzero : (d.keepEntries fun w => !w.isEraseOf p).countEntries Work.isFormat = 0 := by
          simp only [Dev.anyEntry, List.any_eq_true, not_exists, not_and, Bool.not_eq_true] at hnone
          simp only [Dev.countEntries, Dev.keepEntries, Dev.setEngine_engine, List.countP_eq_zero, List.mem_filter,
            Bool.not_eq_true]
          exact fun x hx => hnone x hx.1
        refine Nat.le_trans ?_ (Nat.le_max_left _ _)
        simp only [Dev.countEntries] at hzero
        simp only [List.countP_append, hzero]
        exact Nat.le_refl 1

theorem paramStoreOwner {payload : List Byte} : d.Keeps u 1 (paramStoreOwner payload d) := by
  unfold Machine.paramStoreOwner
  split
  · exact .refuse (.refl u d)
  · exact .select (.defer (.enqueue (.refl u d) rfl rfl))

theorem takeStrictCopies (h : e.Keeps u n d) : e.Keeps u n d.takeStrictCopies :=
  .setPsq (.setPsq h (.inl rfl)) (.inl rfl)

/-- A backup domain in its ranges, with a counter that rests still at rest. -/
theorem setBkd {b : Backup} (h : e.Keeps u n d) (hranges : d.backupRanges → (d.setBkd b).backupRanges)
    (hrests : ∀ p, (d.bkd.facts.get p).stall = 0 ∧ (d.bkd.facts.get p).stallRunning = false →
      (b.facts.get p).stall = 0 ∧ (b.facts.get p).stallRunning = false) : e.Keeps u n (d.setBkd b) :=
  h.step { Dev.Keeps.refl u d with
    ranges := hranges
    rests := fun x hx hstate => hrests x (hx hstate) }

theorem setMonitor {m : Monitor} (h : e.Keeps u n d)
    (hride : m.rideThrough = d.bkd.monitor.rideThrough ∨ m.rideThrough = 200 ∨ m.rideThrough = 80) :
    e.Keeps u n (d.setMonitor m) :=
  h.setBkd (fun ⟨h1, h2, h3, h4⟩ => ⟨h1, h2, hride.elim (fun hr => hr ▸ h3) id, h4⟩) fun _ => id

theorem restartInterval (h : e.Keeps u n d) : e.Keeps u n d.restartInterval :=
  h.setBkd (fun ⟨h1, _, h3, h4⟩ => ⟨h1, Nat.zero_le _, h3, h4⟩) fun _ => id

theorem lowerConfidence {k : Nat} (h : e.Keeps u n d) : e.Keeps u n (d.lowerConfidence k) :=
  h.setBkd (fun ⟨h1, h2, h3, h4⟩ => ⟨Nat.le_trans (Nat.sub_le _ _) h1, h2, h3, h4⟩) fun _ => id

theorem enterDip (h : e.Keeps u n d) : e.Keeps u n d.enterDip :=
  .mapTumblers (.setSettle (.restartInterval (.setMonitor h (.inr (by
    unfold Dev.rideThroughLength; split <;> simp)))))

theorem abortQualifying (h : e.Keeps u n d) : e.Keeps u n d.abortQualifying := .setMonitor h (.inl rfl)

theorem applyDipGap (h : e.Keeps u n d) : e.Keeps u n d.applyDipGap := by
  unfold Dev.applyDipGap
  dsimp only
  split
  · exact h
  · split
    · exact h.enterDip
    · exact h.abortQualifying
    all_goals exact h

theorem applyParam {i : Fin 40} (h : e.Keeps u n d) : e.Keeps u n (d.applyParam i) := by
  unfold Dev.applyParam
  split
  · exact h.takeStrictCopies
  · split
    · exact h.applyDipGap
    · exact h

/-! ### The cycle requests (R33 to R37, R60 to R62, R72, R157) -/

theorem acceptStart {payload : List Byte} (hvacant : (d.psq.get p).state = .vacant) :
    d.Keeps (some p) 1 (d.acceptStart p payload) := by
  unfold Dev.acceptStart
  extract_lets raw cycle t _ d1 _ d2 _ d3 d4
  have h3 : d.Keeps (some p) 0 d3 :=
    .setRing (.newImage (.setFreeCount (.setJournal (.setPlan (.setPsq (.refl _ d) (.inl rfl))))) (Nat.zero_le _))
  have h4 : d.Keeps (some p) 0 d4 := h3.trigger
  refine .defer (.moves h4 (.inr rfl) (.inl ?_))
  unfold d4 d3 d2 d1
  simpa using hvacant

theorem startOwner {payload : List Byte} : d.Keeps (some p) 1 (startOwner payload p d) := by
  unfold Machine.startOwner
  dsimp only
  split
  · exact .refuse (.refl _ d)
  · next hstate =>
    split
    · exact .refuse (.refl _ d)
    · split
      · exact .refuse (.refl _ d)
      · exact .select (.acceptStart (by simp at hstate; exact hstate.1))

end Dev.Keeps

theorem phaseCheck_move {state : PocketState} {field : Option Nat} {ph : Phase} (h : phaseCheck state field = .move ph) :
    state = .drying ∧ ph = .cooling ∨ state = .cooling ∧ ph = .anticrease := by
  unfold phaseCheck at h
  split at h
  · cases h
  · split at h
    · cases h
    · split at h <;> simp_all

namespace Dev.Keeps

theorem movePhase {ph : Phase} (h : e.Keeps u n d)
    (hmove : (d.psq.get p).state = .drying ∧ ph = .cooling ∨ (d.psq.get p).state = .cooling ∧ ph = .anticrease) :
    e.Keeps u n (d.movePhase p ph) := by
  unfold Dev.movePhase
  extract_lets _ d1 d2
  have h1 : e.Keeps u n d1 := by
    refine .modImage (.moves h (.inl ?_) ?_) fun _ => Nat.le_refl _
    · rcases hmove with ⟨_, rfl⟩ | ⟨_, rfl⟩ <;> simp [Phase.pocketState]
    · rcases hmove with ⟨h, _⟩ | ⟨h, _⟩ <;> simp [h]
  have h2 : e.Keeps u n d2 := h1.trigger
  split
  · split
    · exact h2.decideClosure
    · exact .writeBody h2.startTumbler
  · exact h2

theorem takeReport {payload : List Byte} {field : Option Nat} {im : Image} (h : e.Keeps u n d) (hroom : im.pending < 15) :
    e.Keeps u n (d.takeReport p payload (phaseCheck (d.psq.get p).state field) im) := by
  unfold Dev.takeReport
  extract_lets im1 d1 d2
  have h1 : e.Keeps u n d1 := .newImage h (by unfold im1 Image.report; rw [Image.soil_pending]; exact hroom)
  have h2 : e.Keeps u n d2 := by
    unfold d2
    split
    · next ph hph => exact h1.movePhase (by simpa [d1] using phaseCheck_move hph)
    all_goals exact h1
  split
  · exact h2.trigger
  · exact h2

theorem reportOwner {payload : List Byte} : d.Keeps u 1 (reportOwner payload p d) := by
  unfold Machine.reportOwner
  dsimp only
  split
  · split
    · exact .refuse (.refl u d)
    · split
      · exact .refuse (.refl u d)
      · next hroom => exact .select (.answer (.takeReport (.refl u d) (by unfold pendingTop at hroom; omega)))
  · exact .refuse (.refl u d)

theorem checkpointOwner {payload : List Byte} : d.Keeps u 1 (checkpointOwner payload p d) := by
  unfold Machine.checkpointOwner
  split
  · split
    · exact .answer (.refl u d)
    · split
      · unfold Dev.answerClean
        split
        · exact .answer (.refl u d)
        · exact .setFreeCount (.answer (.refl u d))
      · exact .select (.defer (.trigger (.refl u d)))
      · exact .defer (.refl u d)
      · exact .defer (.refl u d)
      · exact .defer (.trigger (.refl u d))
  · exact .refuse (.refl u d)

theorem replyEnd {jf : Bool} (h : e.Keeps u n d) : e.Keeps u (n + 1) (d.replyEnd p jf) := by
  unfold Dev.replyEnd
  split
  · exact h.answer
  · exact h.defer

theorem endOwner {payload : List Byte} : d.Keeps u 1 (endOwner payload p d) := by
  unfold Machine.endOwner
  dsimp only
  split
  · exact .refuse (.refl u d)
  · split
    · exact .select (.replyEnd (.decideClosure (.refl u d)))
    · split
      · exact .select (.replyEnd (.closeWaiting (.refl u d)))
      · exact .refuse (.refl u d)

theorem takeGuard {g : GuardProgram} (h : e.Keeps u n d) : e.Keeps u n (d.takeGuard p g) := by
  unfold Dev.takeGuard
  split
  · exact h.aside
  · exact h.writeBody

theorem guardOwner {payload : List Byte} : d.Keeps u 1 (guardOwner payload p d) := by
  unfold Machine.guardOwner
  split
  · exact .answer (.takeGuard (.refl u d))
  · exact .refuse (.refl u d)

/-! ### Plans, resumption, faults, history, status (R44, R54, R55, R117, R138, R168) -/

theorem planOwner : d.Keeps u 1 (planOwner p d) := .answer (.refl u d)

theorem takeChoice {c : Choice} (h : e.Keeps u n d) : e.Keeps u n (d.takeChoice p c) := by
  have h1 : e.Keeps u n (d.setPsq p { d.psq.get p with state := .waitstart, choice := some c }) :=
    .setPsq h (.inr (.inr (.inr rfl)))
  unfold Dev.takeChoice
  dsimp only
  split
  · exact h1.aside
  · exact h1.startTest

theorem resumeOwner {payload : List Byte} {choose : Params → Plan → Body → ResumeVerdict} :
    d.Keeps u 1 (resumeOwner payload choose p d) := by
  unfold Machine.resumeOwner
  dsimp only
  split
  · split
    · split
      · exact .refuse (.refl u d)
      · exact .select (.answer (.takeChoice (.refl u d)))
      · exact .select (.answer (.closeWaiting (.refl u d)))
    · exact .refuse (.refl u d)
  · exact .refuse (.refl u d)

theorem takeClear {q : Sequencer} {removed : Bool} (hq : q.state = (d.psq.get p).state) :
    d.Keeps u 1 (d.takeClear p q removed) := by
  have h1 : d.Keeps u 0 (d.setPsq p q) := .setPsq (.refl u d) (.inl hq)
  refine .select (.answer ?_)
  unfold Dev.replanAfterClear
  dsimp only
  split
  · exact h1.recompute
  · exact h1

theorem clearAllOwner : d.Keeps u 1 (clearAllOwner p d) := .takeClear rfl

theorem clearAdvisoryOwner {payload : List Byte} : d.Keeps u 1 (clearAdvisoryOwner payload p d) := by
  unfold Machine.clearAdvisoryOwner
  split
  · exact (Dev.Keeps.refl u d).mono (Nat.zero_le _)
  · exact .takeClear (Sequencer.put_state _ _ _)

theorem clearBlockingOwner {payload : List Byte} : d.Keeps u 1 (clearBlockingOwner payload p d) := by
  unfold Machine.clearBlockingOwner
  dsimp only
  split
  · exact (Dev.Keeps.refl u d).mono (Nat.zero_le _)
  · split
    · exact .refuse (.refl u d)
    · split
      · exact .answer (.refl u d)
      · split
        · exact .refuse (.refl u d)
        · exact .takeClear (Sequencer.put_state _ _ _)

theorem historyOwner {payload : List Byte} : d.Keeps u 1 (historyOwner payload p d) := .answer (.refl u d)

theorem paramReadOwner {payload : List Byte} : d.Keeps u 1 (paramReadOwner payload d) := .reply (.refl u d)

theorem serveStatus : d.Keeps u 1 (serveStatus d) :=
  .setFreeCount (.reply (.clearDevice (.setLink (n := 0) (.refl u d) rfl id (Nat.le_refl _))))

end Dev.Keeps
end Planner
end Sys2Proof.Machine
end

section
/-! The parameter words: what a clamped word reads as, and that a write and a load leave every word in its range and the
table codes rising (R76, R174, R175, Table 11-8). -/

namespace Sys2Proof.Machine

/-- A word as its index reads it: signed where the unit is °C (R178). -/
def wordReading (i : Fin 40) (w : Word) : Int := if (paramRange i).1 then w.toInt else (w.toNat : Int)

theorem clampWord_eq (i : Fin 40) (w : Word) :
    clampWord i w = BitVec.ofInt 16 (clampInt (wordReading i w) (paramRange i).2.1 (paramRange i).2.2) := rfl

/-- Table 11-8: each range is one that its words can hold. -/
theorem paramRange_bounds : ∀ i : Fin 40, (paramRange i).2.1 ≤ (paramRange i).2.2 ∧
    ((paramRange i).1 = true → -20 ≤ (paramRange i).2.1 ∧ (paramRange i).2.2 ≤ 150) ∧
    ((paramRange i).1 = false → 0 ≤ (paramRange i).2.1 ∧ (paramRange i).2.2 ≤ 65535) := by decide

theorem ofInt_wordReading (i : Fin 40) (w : Word) : BitVec.ofInt 16 (wordReading i w) = w := by
  unfold wordReading
  split
  · exact BitVec.ofInt_toInt
  · simp

theorem wordReading_ofInt {i : Fin 40} {v : Int} (hlo : (paramRange i).2.1 ≤ v) (hhi : v ≤ (paramRange i).2.2) :
    wordReading i (BitVec.ofInt 16 v) = v := by
  obtain ⟨_, hsigned, hunsigned⟩ := paramRange_bounds i
  unfold wordReading
  split
  · next h =>
    have := hsigned h
    rw [BitVec.toInt_ofInt, Int.bmod_def]
    omega
  · next h =>
    have := hunsigned (by simpa using h)
    rw [BitVec.toNat_ofInt]
    omega

theorem wordReading_clampWord (i : Fin 40) (w : Word) :
    wordReading i (clampWord i w) = clampInt (wordReading i w) (paramRange i).2.1 (paramRange i).2.2 := by
  have := (paramRange_bounds i).1
  rw [clampWord_eq, wordReading_ofInt] <;> unfold clampInt <;> omega

/-- A word is left alone by the clamp exactly where its reading is in range. -/
theorem clampWord_eq_self_iff (i : Fin 40) (w : Word) :
    clampWord i w = w ↔ (paramRange i).2.1 ≤ wordReading i w ∧ wordReading i w ≤ (paramRange i).2.2 := by
  have hrange := (paramRange_bounds i).1
  constructor
  · intro h
    rw [← h, wordReading_clampWord]
    unfold clampInt
    omega
  · rintro ⟨hlo, hhi⟩
    rw [clampWord_eq, show clampInt (wordReading i w) (paramRange i).2.1 (paramRange i).2.2 = wordReading i w by
      unfold clampInt; omega, ofInt_wordReading]

theorem clampWord_clampWord (i : Fin 40) (w : Word) : clampWord i (clampWord i w) = clampWord i w := by
  have hrange := (paramRange_bounds i).1
  rw [clampWord_eq_self_iff, wordReading_clampWord]
  unfold clampInt
  omega

/-! ### The table codes (R76) -/

theorem paramRange_codeIndex : ∀ k : Fin 9, paramRange (codeIndex k) = (false, (k.val : Int), (4087 + k.val : Int)) := by
  decide

theorem codeIndex_inj {j k : Fin 9} (h : codeIndex j = codeIndex k) : j = k := by
  simp only [codeIndex, Fin.mk.injEq] at h
  omega

theorem isCodeIndex_codeIndex : ∀ k : Fin 9, isCodeIndex (codeIndex k) = true := by decide

/-- Every word lies in the range of its index. -/
def Params.inRange (p : Params) : Prop := ∀ i : Fin 40, clampWord i p[i] = p[i]

/-- The codes rise as far as breakpoint `n`. -/
def Params.risesTo (n : Nat) (p : Params) : Prop := ∀ k : Fin 9, 0 < k.val → k.val ≤ n → p.code (prevBreakpoint k) < p.code k

theorem Params.legal_iff (p : Params) : p.legal ↔ p.inRange ∧ p.risesTo 8 :=
  ⟨fun ⟨h, hr⟩ => ⟨h, fun k hk _ => hr k hk⟩, fun ⟨h, hr⟩ => ⟨h, fun k hk => hr k hk (by omega)⟩⟩

theorem Params.code_bounds {p : Params} (h : p.inRange) (k : Fin 9) : k.val ≤ p.code k ∧ p.code k ≤ 4087 + k.val := by
  have := (clampWord_eq_self_iff _ _).1 (h (codeIndex k))
  simp only [paramRange_codeIndex, wordReading, Bool.false_eq_true, if_false] at this
  unfold Params.code Params.nat
  omega

theorem Params.getElem_set (p : Params) (i j : Fin 40) (w : Word) : (p.set i w)[j] = if i = j then w else p[j] := by
  simp only [Fin.getElem_fin, Vector.getElem_set, Fin.ext_iff]

theorem Params.inRange_set {p : Params} (h : p.inRange) {i : Fin 40} {w : Word} (hw : clampWord i w = w) :
    Params.inRange (p.set i w) := by
  intro j
  rw [Params.getElem_set]
  split
  · next hij => rw [← hij, hw]
  · exact h j

theorem Params.code_set_of_ne {p : Params} {i : Fin 40} {w : Word} {k : Fin 9} (h : i ≠ codeIndex k) :
    Params.code (p.set i w) k = p.code k := by
  unfold Params.code Params.nat
  rw [Params.getElem_set, if_neg h]

theorem Params.code_set_self (p : Params) (w : Word) (k : Fin 9) : Params.code (p.set (codeIndex k) w) k = w.toNat := by
  unfold Params.code Params.nat
  rw [Params.getElem_set, if_pos rfl]

/-- One step of the pass: code_k ends above the code before it, in its range, and every other word stays (R76). -/
theorem raiseCode_risesTo {p : Params} {n : Nat} (k : Fin 9) (hk : k.val = n + 1) (h : p.inRange ∧ p.risesTo n) :
    Params.inRange (raiseCode p k) ∧ Params.risesTo (n + 1) (raiseCode p k) := by
  obtain ⟨hin, hrise⟩ := h
  have hprev : (prevBreakpoint k).val = k.val - 1 := rfl
  have hbounds := Params.code_bounds hin (prevBreakpoint k)
  unfold raiseCode
  split
  · next hle =>
    have hval : (BitVec.ofNat 16 (p.code (prevBreakpoint k) + 1)).toNat = p.code (prevBreakpoint k) + 1 := by
      rw [BitVec.toNat_ofNat]
      omega
    refine ⟨Params.inRange_set hin ((clampWord_eq_self_iff _ _).2 ?_), fun j hj hjk => ?_⟩
    · simp only [paramRange_codeIndex, wordReading, Bool.false_eq_true, if_false, hval]
      omega
    · have hother : ∀ i : Fin 9, i.val < k.val → codeIndex k ≠ codeIndex i := fun i hi heq => by
        have := codeIndex_inj heq
        omega
      have hpj : (prevBreakpoint j).val = j.val - 1 := rfl
      rw [Params.code_set_of_ne (hother (prevBreakpoint j) (by omega))]
      by_cases hjk' : j = k
      · subst hjk'
        rw [Params.code_set_self, hval]
        omega
      · rw [Params.code_set_of_ne (hother j (by omega))]
        exact hrise j hj (by omega)
  · next hlt =>
    refine ⟨hin, fun j hj hjk => ?_⟩
    by_cases hjk' : j = k
    · subst hjk'
      omega
    · exact hrise j hj (by omega)

theorem raiseCodes_legal {p : Params} (h : p.inRange) : Params.legal (raiseCodes p) := by
  have h0 : p.inRange ∧ p.risesTo 0 := ⟨h, fun k hk hk' => by omega⟩
  have h1 := raiseCode_risesTo 1 rfl h0
  have h2 := raiseCode_risesTo 2 rfl h1
  have h3 := raiseCode_risesTo 3 rfl h2
  have h4 := raiseCode_risesTo 4 rfl h3
  have h5 := raiseCode_risesTo 5 rfl h4
  have h6 := raiseCode_risesTo 6 rfl h5
  have h7 := raiseCode_risesTo 7 rfl h6
  have h8 := raiseCode_risesTo 8 rfl h7
  rw [Params.legal_iff]
  simpa only [raiseCodes, laterBreakpoints, List.foldl_cons, List.foldl_nil] using h8

theorem Params.write_legal {p : Params} (h : p.legal) (i : Fin 40) (w : Word) : Params.legal (p.write i w) := by
  obtain ⟨hin, hrise⟩ := h
  have hset : Params.inRange (p.set i (clampWord i w)) := Params.inRange_set hin (clampWord_clampWord i w)
  unfold Params.write
  dsimp only
  split
  · exact raiseCodes_legal hset
  · next hcode =>
    have hne : ∀ k : Fin 9, i ≠ codeIndex k := fun k hk => hcode (hk ▸ isCodeIndex_codeIndex k)
    refine ⟨hset, fun k hk => ?_⟩
    rw [Params.code_set_of_ne (hne _), Params.code_set_of_ne (hne _)]
    exact hrise k hk

theorem Params.ofPage_legal {page : List Byte} {p : Params} (h : Params.ofPage page = some p) : p.legal := by
  by_cases hsum : wordSum (pageWords page) = 0
  · rw [Params.ofPage, if_pos hsum] at h
    obtain rfl := Option.some.inj h
    exact raiseCodes_legal fun i => by simp [clampWord_clampWord]
  · rw [Params.ofPage, if_neg hsum] at h
    cases h

theorem maskDefaults_legal : Params.legal maskDefaults := by
  have hin : ∀ i : Fin 40, clampWord i maskDefaults[i] = maskDefaults[i] := by decide
  have hrise : ∀ k : Fin 9, 0 < k.val → Params.code maskDefaults (prevBreakpoint k) < Params.code maskDefaults k := by decide
  exact ⟨hin, hrise⟩

end Sys2Proof.Machine
end

section
/-! What each command keeps: the laws of Sys2Proof/Safety.lean from one part to the next, and which pocket it may bring to
DRYING. -/

namespace Sys2Proof.Machine

/-! ### The laws from one part to the next -/

/-- Each law of Sys2Proof/Safety.lean that holds of `d` holds of `d'`. -/
structure Dev.Lawful (d d' : Dev) : Prop where
  pending : d.pendingBounded → d'.pendingBounded
  room : d.linkRoom → d'.linkRoom
  ranges : d.backupRanges → d'.backupRanges
  stall : d.stallLaw → d'.stallLaw
  dark : d.darkIsLost → d'.darkIsLost
  capacity : d.eraseCapacity → d'.eraseCapacity
  legal : Params.legal d.link.params → Params.legal d'.link.params

/-- The laws are kept, and no pocket but `u` becomes DRYING. -/
structure Dev.Kept (u : Option Pocket) (d d' : Dev) : Prop extends Dev.Lawful d d' where
  dries : ∀ p, u ≠ some p → (d'.psq.get p).state = .drying → (d.psq.get p).state = .drying

section
variable {u : Option Pocket} {d e : Dev}

theorem Dev.linkRoom_iff (d : Dev) : d.linkRoom ↔ d.link.taken ≤ 10 := Iff.rfl

/-- The laws are kept where the stall law already spoke of `d` if it speaks of `e`. -/
theorem Dev.Guards.kept (h : d.Guards u 0 e)
    (hrun : e.run = .run ∨ e.run = .lossCommit → d.run = .run ∨ d.run = .lossCommit)
    (hdark : d.darkIsLost → e.darkIsLost) : d.Kept u e where
  pending := h.pending
  room hd := Nat.le_trans h.room hd
  ranges := h.ranges
  stall hd he p := h.rests p (hd (hrun he) p)
  dark := hdark
  capacity := h.capacity
  legal := h.legal
  dries := h.dries

/-- With the run state as it was, the laws are kept where a dark part stays dark. -/
theorem Dev.Guards.kept_of_run (h : d.Guards u 0 e) (hrun : e.run = d.run) (hoff : d.mainOff = d → e.mainOff = e) :
    d.Kept u e :=
  h.kept (fun he => hrun ▸ he) fun hd he => hoff (hd (hrun ▸ he))

theorem Dev.Keeps.kept (h : d.Keeps u 0 e) (hoff : d.mainOff = d → e.mainOff = e) : d.Kept u e :=
  h.toGuards.kept_of_run h.run hoff

/-- A part that is powered has no darkness to keep. -/
theorem Dev.Keeps.kept_of_powered (h : d.Keeps u 0 e) (hrun : d.run ≠ .backup) : d.Kept u e :=
  h.kept fun hoff => absurd (congrArg Dev.run hoff).symm hrun

theorem Dev.Kept.refl (u : Option Pocket) (d : Dev) : d.Kept u d := (Dev.Keeps.refl u d).kept id

theorem Dev.Lawful.trans {f : Dev} (h : d.Lawful e) (g : e.Lawful f) : d.Lawful f where
  pending := g.pending ∘ h.pending
  room := g.room ∘ h.room
  ranges := g.ranges ∘ h.ranges
  stall := g.stall ∘ h.stall
  dark := g.dark ∘ h.dark
  capacity := g.capacity ∘ h.capacity
  legal := g.legal ∘ h.legal

theorem Dev.Kept.trans {f : Dev} (h : d.Kept u e) (g : e.Kept u f) : d.Kept u f :=
  ⟨h.toLawful.trans g.toLawful, fun p hp => h.dries p hp ∘ g.dries p hp⟩

/-- A start of the main domain keeps the laws that its backup domain keeps, and every pocket is VACANT. -/
theorem Dev.Kept.started (kind : StartKind) (hold : Bool) (doors : Per Bool) (hranges : d.backupRanges → e.backupRanges) :
    d.Kept u (e.mainInit .startup kind hold doors) where
  pending _ p im him := by cases p <;> cases him
  room _ := Nat.zero_le _
  ranges := hranges
  stall _ hrun := by simp at hrun
  dark _ hrun := by simp at hrun
  capacity _ := ⟨Nat.zero_le _, Nat.zero_le _⟩
  legal _ := maskDefaults_legal
  dries p _ hp := by cases p <;> cases hp

/-- So does a main domain that stops. -/
theorem Dev.Kept.stopped (hranges : d.backupRanges → e.backupRanges) : d.Kept u e.mainOff where
  pending _ p im him := by cases p <;> cases him
  room _ := Nat.zero_le _
  ranges := hranges
  stall _ hrun := by simp [Dev.mainOff] at hrun
  dark _ _ := rfl
  capacity _ := ⟨Nat.zero_le _, Nat.zero_le _⟩
  legal _ := maskDefaults_legal
  dries p _ hp := by cases p <;> cases hp

end

/-! ### A dark part (R17) -/

section
variable {d : Dev}

theorem Dev.run_of_off (h : d.mainOff = d) : d.run = .backup := (congrArg Dev.run h).symm

theorem Dev.unpowered_of_off (h : d.mainOff = d) : d.powered = false := by simp [Dev.powered, Dev.run_of_off h]

theorem Dev.off_setBkd (h : d.mainOff = d) (b : Backup) : (d.setBkd b).mainOff = d.setBkd b := congrArg (Dev.setBkd b) h

theorem Dev.startTests_of_off (h : d.mainOff = d) : d.startTests = d := by
  simp [Dev.startTests, Dev.startTest, Dev.runningFree, Dev.run_of_off h]

theorem Dev.select_of_off (h : d.mainOff = d) : d.select = d := by
  simp [Dev.select, Dev.runningFree, Dev.run_of_off h]

end

/-! ### The mains commands -/

section
variable {u : Option Pocket} {n : Nat} {d e : Dev} {p : Pocket}

theorem Dev.Keeps.raiseIfPowered {c : Cause} (h : e.Keeps u n d) : e.Keeps u n (d.raiseIfPowered c) := by
  unfold Dev.raiseIfPowered
  split
  · exact h.raiseCause
  · exact h

theorem Dev.Keeps.beginSettle (h : e.Keeps u n d) : e.Keeps u n d.beginSettle := by
  unfold Dev.beginSettle
  split
  · exact h.setSettle
  · exact h

theorem Dev.Keeps.recoverDip (h : e.Keeps u n d) : e.Keeps u n d.recoverDip :=
  .select (.startTests (.mapTumblers (.beginSettle (.raiseIfPowered (.restartInterval (.lowerConfidence
    (.setMonitor h (.inl rfl))))))))

theorem Dev.raiseIfPowered_of_off {c : Cause} (h : d.mainOff = d) : d.raiseIfPowered c = d := by
  simp [Dev.raiseIfPowered, Dev.unpowered_of_off h]

theorem Dev.beginSettle_of_off (h : d.mainOff = d) : d.beginSettle = d := by
  simp [Dev.beginSettle, Dev.unpowered_of_off h]

theorem Dev.recoverDip_off (h : d.mainOff = d) : d.recoverDip.mainOff = d.recoverDip := by
  unfold Dev.recoverDip
  extract_lets m d1 d2
  have hbkd : ((d1.lowerConfidence 2).restartInterval).mainOff = (d1.lowerConfidence 2).restartInterval :=
    Dev.off_setBkd (Dev.off_setBkd (Dev.off_setBkd h _) _) _
  have heq : d2 = (d1.lowerConfidence 2).restartInterval := by
    unfold d2
    rw [Dev.raiseIfPowered_of_off hbkd, Dev.beginSettle_of_off hbkd]
  have htmb : (d2.mapTumblers Tumbler.unpause).mainOff = d2.mapTumblers Tumbler.unpause :=
    heq ▸ congrArg (Dev.mapTumblers Tumbler.unpause) hbkd
  rw [Dev.startTests_of_off htmb, Dev.select_of_off htmb, htmb]

theorem zeroCross_kept (d : Dev) : d.Kept u (zeroCross d) := by
  unfold zeroCross
  dsimp only
  split
  · exact .refl u d
  · split
    · exact Dev.Keeps.kept (.setMonitor (.refl u d) (.inl rfl)) fun h => Dev.off_setBkd h _
    · exact (Dev.Keeps.refl u d).recoverDip.kept Dev.recoverDip_off
    all_goals exact Dev.Keeps.kept (.setMonitor (.refl u d) (.inl rfl)) fun h => Dev.off_setBkd h _

theorem Dev.Keeps.drawDipGap (h : e.Keeps u n d) : e.Keeps u n d.drawDipGap := by
  unfold Dev.drawDipGap
  split
  · exact h
  · exact h.setFreeCount

theorem Dev.drawDipGap_off (h : d.mainOff = d) : d.drawDipGap.mainOff = d.drawDipGap := by
  unfold Dev.drawDipGap
  split
  · exact h
  · exact congrArg (Dev.setFreeCount _) h

theorem Dev.enterDip_off (h : d.mainOff = d) : d.enterDip.mainOff = d.enterDip :=
  congrArg (Dev.mapTumblers Tumbler.pause) (congrArg (Dev.setSettle ⟨false, 0⟩) (Dev.off_setBkd (Dev.off_setBkd h _) _))

theorem dipEntry_kept (d : Dev) : d.Kept u (dipEntry d) := by
  unfold dipEntry
  split
  · exact (Dev.Keeps.refl u d).enterDip.drawDipGap.kept fun h => Dev.drawDipGap_off (Dev.enterDip_off h)
  · exact .refl u d

theorem qualifyAbort_kept (d : Dev) : d.Kept u (qualifyAbort d) := by
  unfold qualifyAbort
  split
  · exact (Dev.Keeps.refl u d).abortQualifying.drawDipGap.kept fun h => Dev.drawDipGap_off (Dev.off_setBkd h _)
  · exact .refl u d

theorem settleEnd_kept (d : Dev) : d.Kept u (settleEnd d) := by
  unfold settleEnd
  split
  · exact (Dev.Keeps.refl u d).setSettle.kept fun h => congrArg (Dev.setSettle ⟨false, 0⟩) h
  · exact .refl u d

theorem satAdd_le (a b top : Nat) : satAdd a b top ≤ top := by
  unfold satAdd
  omega

theorem confidenceRise_kept (d : Dev) : d.Kept u (confidenceRise d) := by
  unfold confidenceRise
  split
  · exact Dev.Keeps.kept (.setBkd (.refl u d) (fun ⟨_, _, h3, h4⟩ => ⟨satAdd_le _ _ _, Nat.zero_le _, h3, h4⟩) fun _ => id)
      fun h => Dev.off_setBkd h _
  · exact .refl u d

/-! ### A loss (R15, R18) -/

/-- A pocket that a loss suspends gets facts in their ranges and is SUSPENDED (R15). -/
theorem Dev.Keeps.suspend {f : Facts} {q : Sequencer} (h : e.Keeps u n d)
    (hstall : f.stall ≤ max stallTop (d.bkd.facts.get p).stall) (hlosses : f.losses ≤ 255) (hq : q.state = .suspended) :
    e.Keeps u n ((d.setFacts p f).setPsq p q) :=
  h.step { (Dev.Keeps.refl u d) with
    ranges := by
      rintro ⟨h1, h2, h3, h4⟩
      refine ⟨h1, h2, h3, fun x => ?_⟩
      by_cases hp : x = p
      · subst hp
        have := h4 x
        simp only [stallTop, Dev.setPsq_bkd, Dev.setFacts_bkd, Per.set_get_self] at *
        omega
      · simpa [Per.set_get_of_ne _ _ hp] using h4 x
    rests := fun x hx => by
      by_cases hp : x = p
      · subst hp
        simp [Dev.stallRests, hq]
      · simpa [Dev.stallRests, Per.set_get_of_ne _ _ hp] using hx
    dries := fun x _ hx => by
      by_cases hp : x = p
      · subst hp
        simp [hq] at hx
      · simpa [Per.set_get_of_ne _ _ hp] using hx }

theorem Image.suspendCommit_pending (active jf : Bool) (im : Image) : (im.suspendCommit active jf).pending = im.pending := by
  unfold Image.suspendCommit
  split
  · split <;> rfl
  · rfl
  · split <;> rfl

theorem Image.atLoss_pending (active waiting jf : Bool) (im : Image) : (im.atLoss active waiting jf).pending = im.pending := by
  unfold Image.atLoss
  dsimp only
  rw [Image.suspendCommit_pending]
  split <;> rfl

theorem Facts.atLoss_stall_le (f : Facts) : f.atLoss.stall ≤ max stallTop f.stall := by
  unfold Facts.atLoss Facts.startStall
  split
  · exact Nat.le_max_right _ _
  · exact Nat.zero_le _

theorem Dev.Keeps.lossPocket (h : e.Keeps u n d) : e.Keeps u n (d.lossPocket p) := by
  have hpsq : ∀ q : Sequencer, q.state = (if (d.psq.get p).state.active || (d.psq.get p).state.waiting then
      PocketState.suspended else (d.psq.get p).state) → e.Keeps u n ((if (d.psq.get p).state.active ||
        (d.psq.get p).state.waiting then d.setFacts p (d.bkd.facts.get p).atLoss else d).setPsq p q) := by
    intro q hq
    split at hq
    · next hin =>
      rw [if_pos hin]
      exact h.suspend (Facts.atLoss_stall_le _) (satAdd_le _ _ _) hq
    · next hout =>
      rw [if_neg hout]
      exact h.setPsq (.inl hq)
  unfold Dev.lossPocket
  dsimp only
  split
  · exact hpsq _ (by split <;> rfl)
  · next im him =>
    have hsame : (if (d.psq.get p).state.active || (d.psq.get p).state.waiting then
        d.setFacts p (d.bkd.facts.get p).atLoss else d).image.get p = some im := by split <;> exact him
    have hle := Nat.le_of_eq (im.atLoss_pending (d.psq.get p).state.active (d.psq.get p).state.waiting (d.journalFailed p))
    split
    · exact .enqueue (.replaceImage (hpsq _ (by split <;> split <;> rfl)) hsame hle) rfl rfl
    · exact .replaceImage (hpsq _ (by split <;> split <;> rfl)) hsame hle

theorem Dev.Keeps.lossEngine (h : e.Keeps u n d) : e.Keeps u n d.lossEngine := by
  have hkeep : e.Keeps u n ((d.keepEntries Work.isCommit).setEngine
      { (d.keepEntries Work.isCommit).engine with inFlight := d.engine.inFlight.map Operation.atLoss }) :=
    .setQueue (.keepEntries h) (.refl _)
  unfold Dev.lossEngine
  dsimp only
  split
  · exact .enqueue (.setService hkeep) rfl rfl
  · exact hkeep

theorem Dev.Keeps.stopSampling (h : e.Keeps u n d) : e.Keeps u n d.stopSampling := h.aside

theorem lossWork_kept (h : d.Guards u 0 e) (hd : d.run = .run ∨ d.run = .lossCommit) (he : e.run = .lossCommit) :
    d.Kept u e.lossWork := by
  have hwork : d.Guards u 0 (Dev.lossSelect 3 e) := h.trans (Dev.Keeps.lossSelect 3 (.refl u e)).toGuards
  unfold Dev.lossWork
  dsimp only
  split
  · exact h.kept (fun _ => hd) fun _ hoff => by simp [he] at hoff
  · split
    · exact hwork.kept (fun _ => hd) fun _ hoff => by simp [he] at hoff
    · exact .stopped hwork.ranges

theorem lossInRun_kept (h : d.Keeps u 0 e) (hd : d.run = .run) : d.Kept u e.lossInRun := by
  unfold Dev.lossInRun
  extract_lets d1 d2 d3 _ d4 _ d5
  have hstart : e.Guards u 0 (e.setRun .lossCommit) := .of_lawItems
  have h4 : (e.setRun .lossCommit).Keeps u 0 d4 :=
    (.setArbiter (.stopTumblers (.lossPocket (.lossPocket (.lossEngine (.setAdc (.stopSampling
      (.setSettle (.refl u _)))))))))
  have hend : d4.Guards u 0 d5 := { Dev.Guards.of_lawItems (d' := d4) with
    room := Nat.le_add_right d4.link.transmit.length d4.link.deferred.length }
  exact lossWork_kept (h.toGuards.trans (hstart.trans (h4.toGuards.trans hend))) (.inl hd) h4.run

theorem lossInStartup_kept (h : d.Keeps u 0 e) : d.Kept u e.lossInStartup := by
  have hfacts : ∀ {f : Dev} (p : Pocket), d.Keeps u 0 f → d.Keeps u 0 (f.lossInStartupFacts p) := by
    intro f p h
    unfold Dev.lossInStartupFacts
    dsimp only
    split
    · exact h.setFacts (Nat.le_max_right _ _) (Nat.le_trans (satAdd_le _ _ _) (Nat.le_max_left _ _)) id
    · exact h
  exact .stopped (hfacts .b (hfacts .a h)).ranges

theorem lossDeclaration_kept (d : Dev) : d.Kept u (lossDeclaration d) := by
  unfold lossDeclaration
  dsimp only
  split
  · have h1 : d.Keeps u 0 ((d.setMonitor { d.bkd.monitor with
        state := .absent, absence := max d.bkd.monitor.absence d.bkd.monitor.rideThrough }).lowerConfidence 4) :=
      .lowerConfidence (.setMonitor (.refl u d) (.inl rfl))
    split
    · next hrun => exact lossInRun_kept h1 hrun
    · exact lossInStartup_kept h1
    · next hrun => exact h1.setSettle.kept_of_powered (by simp [hrun])
    · exact h1.kept fun hoff => Dev.off_setBkd (Dev.off_setBkd hoff _) _
  · exact .refl u d

theorem Backup.coldStart_ranges (h : d.backupRanges) : (d.setBkd d.bkd.coldStart).backupRanges := by
  obtain ⟨_, h2, h3, _⟩ := h
  refine ⟨by simp [Backup.coldStart], h2, h3, fun p => ?_⟩
  cases p <;> simp [Backup.coldStart, Facts.clear, Per.both]

theorem mainsReturn_kept (d : Dev) : d.Kept u (mainsReturn d) := by
  unfold mainsReturn
  dsimp only
  split
  · have h1 : d.Keeps u 0 (((d.setMonitor { d.bkd.monitor with
        state := .present, qualification := max d.bkd.monitor.qualification 1000 }).restartInterval).setSettle ⟨false, 0⟩) :=
      .setSettle (.restartInterval (.setMonitor (.refl u d) (.inl rfl)))
    split
    · next hpow => exact h1.kept_of_powered (by simpa [Dev.powered] using hpow)
    · unfold Dev.startMain
      split
      · exact .started _ _ _ h1.ranges
      · exact Dev.Kept.trans (.started _ _ _ (Backup.coldStart_ranges ∘ h1.ranges))
          ((Dev.Keeps.refl u _).raiseDevice.kept_of_powered (by simp))
  · exact .refl u d

/-! ### The reserve, the backup domain and the doors -/

theorem reserveConversionDue_kept (d : Dev) : d.Kept u (reserveConversionDue d) := by
  unfold reserveConversionDue
  split
  · next hpow => exact Dev.Keeps.kept_of_powered (.aside (.refl u d)) (by simpa [Dev.powered] using hpow)
  · exact .refl u d

theorem Dev.Keeps.noteReady {before after : Bool} (h : e.Keeps u n d) : e.Keeps u n (d.noteReady before after) := by
  unfold Dev.noteReady
  split
  · exact h
  · split
    · exact h.raiseDevice
    · split
      · exact h.clearDevice
      · exact h

theorem reserveResult_kept (level : Nat) (d : Dev) : d.Kept u (reserveResult level d) := by
  unfold reserveResult
  split
  · next hpow =>
    exact Dev.Keeps.kept_of_powered (.select (.startTests (.noteReady (.setAdc (.aside (d := d) (.refl u d))))))
      (by simpa [Dev.powered] using (Bool.and_eq_true_iff.1 hpow).1)
  · exact .refl u d

theorem Backup.powerUp_ranges (d : Dev) : (d.setBkd .powerUp).backupRanges ∧ (d.setBkd .collapsed).backupRanges := by
  constructor <;>
    refine ⟨by simp [Backup.collapsed, Backup.powerUp], by simp [Backup.collapsed, Backup.powerUp],
      by simp [Backup.collapsed, Backup.powerUp, Monitor.powerUp], fun p => ?_⟩ <;>
    cases p <;> simp [Backup.collapsed, Backup.powerUp, Per.both, Facts.clear]

theorem backupPowerUp_kept (d : Dev) : d.Kept u (backupPowerUp d) := by
  unfold backupPowerUp
  split
  · exact .refl u d
  · exact Dev.Keeps.kept (.setBkd (.refl u d) (fun _ => (Backup.powerUp_ranges d).1)
      fun p _ => by cases p <;> exact ⟨rfl, rfl⟩) fun h => Dev.off_setBkd h _

theorem backupCollapse_kept (d : Dev) : d.Kept u (d.setBkd .collapsed).mainOff :=
  .stopped fun _ => (Backup.powerUp_ranges d).2

theorem Facts.elapse_stall_le (ms : Nat) (f : Facts) : (f.elapse ms).stall ≤ max stallTop f.stall := by
  unfold Facts.elapse
  split
  · exact Nat.le_trans (Nat.min_le_left _ _) (Nat.le_max_left _ _)
  · exact Nat.le_max_right _ _

theorem Facts.elapse_losses (ms : Nat) (f : Facts) : (f.elapse ms).losses = f.losses := by
  unfold Facts.elapse
  split <;> rfl

theorem Facts.elapse_of_stopped (ms : Nat) {f : Facts} (h : f.stallRunning = false) : f.elapse ms = f := by
  simp [Facts.elapse, h]

/-- A backup domain whose counters are as they were, or have advanced, with its other items in their ranges. -/
theorem Dev.Keeps.setBkd_elapsed {b : Backup} (h : e.Keeps u n d) (hconf : b.confidence = d.bkd.confidence)
    (hint : b.interval ≤ max 600 d.bkd.interval) (hride : b.monitor.rideThrough = d.bkd.monitor.rideThrough)
    (hfacts : ∀ p, b.facts.get p = d.bkd.facts.get p ∨ ∃ ms, b.facts.get p = (d.bkd.facts.get p).elapse ms) :
    e.Keeps u n (d.setBkd b) := by
  refine .setBkd h ?_ ?_
  · rintro ⟨h1, h2, h3, h4⟩
    refine ⟨hconf ▸ h1, by simp only [Dev.setBkd_bkd]; omega, hride ▸ h3, fun p => ?_⟩
    have hp := h4 p
    rcases hfacts p with heq | ⟨ms, heq⟩
    · exact heq ▸ hp
    · have hle := Facts.elapse_stall_le ms (d.bkd.facts.get p)
      rw [Dev.setBkd_bkd, heq, Facts.elapse_losses]
      simp only [stallTop] at hle
      omega
  · intro p hp
    rcases hfacts p with heq | ⟨ms, heq⟩
    · exact heq ▸ hp
    · rw [heq, Facts.elapse_of_stopped ms hp.2]
      exact hp

theorem backupTick_kept (d : Dev) : d.Kept u (backupTick d) := by
  have htick : d.Keeps u 0 (d.setBkd d.bkd.tick) :=
    .setBkd_elapsed (.refl u d) rfl (by
      simp only [Backup.tick, Backup.tickInterval]
      split
      · exact Nat.le_trans (satAdd_le _ _ _) (Nat.le_max_left _ _)
      · exact Nat.le_max_right _ _) rfl fun p => .inr ⟨1000 - d.bkd.tickMs, by cases p <;> rfl⟩
  unfold backupTick
  dsimp only
  split
  · split
    · next hpow =>
      exact Dev.Keeps.kept_of_powered (.setArbiter (.mapTumblers
        (.modImage (.modImage htick fun _ => Nat.le_refl _) fun _ => Nat.le_refl _))) (by simpa [Dev.powered] using hpow)
    · exact htick.kept fun h => Dev.off_setBkd h _
  · exact .refl u d

theorem Dev.Keeps.setLatch (h : e.Keeps u n d) : e.Keeps u n (d.setFacts p { d.bkd.facts.get p with latch := true }) :=
  h.setFacts (Nat.le_max_right _ _) (Nat.le_max_right _ _) id

theorem Dev.Keeps.sampleDoor (h : e.Keeps u n d) : e.Keeps u n (d.sampleDoor p) := by
  unfold Dev.sampleDoor
  split
  · unfold Dev.latchReport
    split
    · exact h.setLatch.recompute
    · exact h.setLatch
  · exact h

theorem Dev.sampleDoor_off (h : d.mainOff = d) : (d.sampleDoor p).mainOff = d.sampleDoor p := by
  have hset := Dev.off_setBkd h { d.bkd with facts := d.bkd.facts.set p { d.bkd.facts.get p with latch := true } }
  unfold Dev.sampleDoor
  split
  · rw [show Dev.latchReport p _ = _ from if_neg (by simp [Dev.run_of_off h])]
    exact hset
  · exact h

theorem doorSampleMark_kept (d : Dev) : d.Kept u (doorSampleMark d) := by
  unfold doorSampleMark
  split
  · exact Dev.Keeps.kept (.select (.sampleDoor (.sampleDoor (.refl u d)))) fun h => by
      rw [Dev.select_of_off (Dev.sampleDoor_off (Dev.sampleDoor_off h))]
      exact Dev.sampleDoor_off (Dev.sampleDoor_off h)
  · exact .refl u d

theorem doorInputChange_kept (x : Pocket) (isOpen : Bool) (d : Dev) : d.Kept u (doorInputChange x isOpen d) := by
  unfold doorInputChange
  split
  · exact .refl u d
  · refine Dev.Keeps.kept (.setPsq (.setPins (.refl u d)) (.inl rfl)) fun h => ?_
    have hms : (d.psq.get x).doorHoldMs = 0 := by rw [← h]; cases x <;> rfl
    have hsame : ({ d.psq.get x with doorHoldMs := 0 } : Sequencer) = d.psq.get x := by
      rw [← hms]
    rw [hsame]
    have hpsq : (d.setPins { d.pins with doorOpen := d.pins.doorOpen.set x isOpen }).setPsq x (d.psq.get x) =
        d.setPins { d.pins with doorOpen := d.pins.doorOpen.set x isOpen } := by
      simp [Dev.setPsq, Dev.setPins]
    rw [hpsq]
    exact congrArg (Dev.setPins _) h

theorem doorDebounce_kept (x : Pocket) (d : Dev) : d.Kept u (doorDebounce x d) := by
  have h1 : d.Keeps u 0 (d.setPsq x { d.psq.get x with doorOpen := d.pins.doorOpen.get x }) := .setPsq (.refl u d) (.inl rfl)
  unfold doorDebounce
  split
  · next hpow =>
    refine Dev.Keeps.kept_of_powered ?_ (by simpa [Dev.powered] using (Bool.and_eq_true_iff.1 hpow).1)
    unfold Dev.doorOpened
    dsimp only
    split
    · exact .select (.decideClosure h1)
    · exact h1
  · exact .refl u d

end
end Sys2Proof.Machine
end

section
/-! What each command keeps, continued: resets, STARTUP, samples, the ends of operations, resumption and the link. -/

namespace Sys2Proof.Machine

section
variable {u : Option Pocket} {n : Nat} {d e : Dev} {p : Pocket}

/-! ### Resets (R19) -/

theorem setHold_guards (b : Bool) (d : Dev) : d.Guards u 0 (d.setLink { d.link with resetHold := b }) := .of_lawItems

theorem takeReset_guards (d : Dev) : d.Guards u 0 d.takeReset :=
  (Dev.Keeps.refl u d).stopTumblers.stopSampling.toGuards.trans (setHold_guards true _)

theorem nresetAssert_kept (d : Dev) : d.Kept u (nresetAssert d) := by
  have hpins : d.Keeps u 0 (d.setPins { d.pins with nresetLow := true }) := .aside (.refl u d)
  have hoff : d.mainOff = d → (d.setPins { d.pins with nresetLow := true }).mainOff = d.setPins { d.pins with nresetLow := true } :=
    fun h => congrArg (Dev.setPins _) h
  unfold nresetAssert
  dsimp only
  split
  · exact hpins.kept hoff
  · split
    · next hrun =>
      split
      · exact (hpins.toGuards.trans (takeReset_guards _)).kept_of_run rfl fun h => by simp [Dev.run_of_off h] at hrun
      · exact .started _ _ _ id
    · exact .started _ _ _ id
    · exact hpins.kept hoff
    · exact hpins.kept hoff

theorem nresetRelease_kept (d : Dev) : d.Kept u (nresetRelease d) := by
  have hpins : d.Keeps u 0 (d.setPins { d.pins with nresetLow := false }) := .aside (.refl u d)
  unfold nresetRelease
  dsimp only
  split
  · next hheld =>
    refine (hpins.toGuards.trans (setHold_guards false _)).kept_of_run rfl fun h => ?_
    simp [Dev.held, Dev.run_of_off h] at hheld
  · exact hpins.kept fun h => congrArg (Dev.setPins _) h

/-! ### STARTUP (R13, R14, R26, R105, R175) -/

theorem parameterLoad_kept (page : List Byte) (d : Dev) : d.Kept u (parameterLoad page d) := by
  unfold parameterLoad
  split
  · next hstart =>
    extract_lets _ d1
    have h1 : d.Keeps u 0 d1 := by
      unfold d1
      split
      · next pr hpr => exact .setLink (n := 0) (.refl u d) rfl (fun _ => Params.ofPage_legal hpr) (Nat.le_refl _)
      · exact .raiseDevice (.setLink (n := 0) (.refl u d) rfl (fun _ => maskDefaults_legal) (Nat.le_refl _))
    refine Dev.Keeps.kept_of_powered (.setScan (.setAdc (.setSns (.setSns h1.takeStrictCopies)))) ?_
    have : d.run = .startup := by simp [Dev.starting] at hstart; exact hstart.1.1
    simp [this]
  · exact .refl u d

theorem Dev.Keeps.startupPlan {r : Record} (h : e.Keeps u n d) : e.Keeps u n (d.startupPlan p r) := by
  unfold Dev.startupPlan
  dsimp only
  split
  · exact h.raiseFault.setPlan
  · exact h.setPlan

theorem Dev.Keeps.startupClosure {reason : CloseReason} (h : e.Keeps u n d) : e.Keeps u n (d.startupClosure p reason) :=
  .raiseCause (.releaseFacts (.trigger (.rebuildForClosure (.setPsq h (.inl rfl)))))

/-- A pocket that waits may run its stall counter (R26). -/
theorem Dev.Keeps.alignWaiting (h : e.Keeps u n d) (hstate : (d.psq.get p).state = .planned ∨ (d.psq.get p).state = .waitstart) :
    e.Keeps u n (d.alignStall p) :=
  h.step { (Dev.Keeps.refl u d) with
    ranges := by
      rintro ⟨h1, h2, h3, h4⟩
      refine ⟨h1, h2, h3, fun x => ?_⟩
      by_cases hp : x = p
      · subst hp
        have := h4 x
        simp only [Dev.alignStall, Dev.setFacts_bkd, Per.set_get_self, Facts.startStall]
        split <;> simp_all
      · simpa [Dev.alignStall, Per.set_get_of_ne _ _ hp] using h4 x
    rests := fun x hx => by
      by_cases hp : x = p
      · subst hp
        rcases hstate with h | h <;> simp [Dev.stallRests, Dev.alignStall, h]
      · simpa [Dev.stallRests, Dev.alignStall, Per.set_get_of_ne _ _ hp] using hx }

theorem Dev.releaseFacts_rests (p : Pocket) (d : Dev) : (d.releaseFacts p).stallRests p := by
  simp [Dev.stallRests, Dev.releaseFacts, Facts.clear]

theorem Dev.raiseCause_rests {c : Cause} (h : d.stallRests p) : (d.raiseCause c).stallRests p := h

theorem Dev.startupPlan_plan (p : Pocket) (r : Record) (d : Dev) : ∃ pl, (d.startupPlan p r).plan.get p = some pl :=
  ⟨_, Per.set_get_self _ _ _⟩

/-- The pocket takes its state: the laws are kept, and its counter rests where R26 says so, whatever it did before. -/
theorem Dev.takeState_keeps (p : Pocket) (d : Dev) : d.Keeps u 0 (d.takeState p) ∧ (d.takeState p).stallRests p := by
  have hrelease : d.Keeps u 0 (d.releaseFacts p) ∧ (d.releaseFacts p).stallRests p :=
    ⟨.releaseFacts (.refl u d), Dev.releaseFacts_rests p d⟩
  have hwait : ∀ {f : Dev}, d.Keeps u 0 f → (f.psq.get p).state = .planned ∨ (f.psq.get p).state = .waitstart →
      d.Keeps u 0 (f.alignStall p) ∧ (f.alignStall p).stallRests p := by
    intro f h hstate
    refine ⟨h.alignWaiting hstate, ?_⟩
    rcases hstate with h | h <;> simp [Dev.stallRests, Dev.alignStall, h]
  unfold Dev.takeState
  split
  · exact hrelease
  · next b _ =>
    split
    · obtain ⟨pl, hpl⟩ := d.startupPlan_plan p b.record
      have h1 : d.Keeps u 0 (d.startupPlan p b.record) := .startupPlan (.refl u d)
      simp only [hpl]
      split
      · exact ⟨h1.startupClosure, Dev.raiseCause_rests (Dev.releaseFacts_rests p _)⟩
      · exact hwait h1.awaitGuard (.inr (by simp [Dev.awaitGuard]))
      all_goals exact hwait h1.becomePlanned (.inl (by simp [Dev.becomePlanned]))
    · exact hrelease

theorem Dev.Keeps.beginSample (h : e.Keeps u n d) : e.Keeps u n (d.beginSample p) := h.aside

/-- Entry to RUN, from a part whose counters rest, is lawful (R14, R26). -/
theorem enterRun_kept (h : d.Guards u 0 e) (hrests : ∀ p, e.stallRests p) : d.Kept u e.enterRun := by
  have hrun : e.Guards u 0 ((e.setRun .run).setArbiter { e.arbiter with stagger := 0 }) := .of_lawItems
  have hkeep : ((e.setRun .run).setArbiter { e.arbiter with stagger := 0 }).Keeps u 0 e.enterRun := by
    refine .select (.startTests (.beginSample ?_))
    split
    · exact .refl u _
    · exact .raiseDevice (.refl u _)
  have hall : e.Guards u 0 e.enterRun := hrun.trans hkeep.toGuards
  have hon : e.enterRun.run = .run := hkeep.run
  exact {
    pending := hall.pending ∘ h.pending
    room := fun hd => Nat.le_trans hall.room (Nat.le_trans h.room hd)
    ranges := hall.ranges ∘ h.ranges
    stall := fun _ _ p => hall.rests p (hrests p)
    dark := fun _ hoff => by simp [hon] at hoff
    capacity := hall.capacity ∘ h.capacity
    legal := hall.legal ∘ h.legal
    dries := fun p hp => h.dries p hp ∘ hall.dries p hp }

theorem endStartup_kept (h : d.Keeps u 0 e) (hd : d.run ≠ .backup) : d.Kept u e.endStartup := by
  unfold Dev.endStartup
  split
  · obtain ⟨ha, hresta⟩ := e.takeState_keeps (u := u) .a
    obtain ⟨hb, hrestb⟩ := (e.takeState .a).takeState_keeps (u := u) .b
    refine enterRun_kept (h.toGuards.trans (ha.toGuards.trans hb.toGuards)) fun p => ?_
    cases p with
    | a => exact hb.rests .a hresta
    | b => exact hrestb
  · exact h.kept_of_powered hd

theorem Dev.Keeps.concludeRing (h : e.Keeps u n d) : e.Keeps u n (d.concludeRing p) := by
  unfold Dev.concludeRing
  extract_lets j d1 d2
  have h1 : e.Keeps u n d1 := h.setJournal
  have h2 : e.Keeps u n d2 := by
    unfold d2
    split
    · exact h1.raiseFault
    · exact h1
  split
  · exact h2.raiseFault
  · exact h2

theorem Dev.Keeps.handOffRing (h : e.Keeps u n d) : e.Keeps u n (d.handOffRing p) := h.setRing

theorem Dev.Keeps.askScanErases (h : e.Keeps u n d) : e.Keeps u n (d.askScanErases p) := by
  unfold Dev.askScanErases
  dsimp only
  split
  · exact h.askErase.askErase.askErase
  · exact h.askErase.askErase

theorem Dev.Keeps.endScan (h : e.Keeps u n d) : e.Keeps u n d.endScan :=
  .setScan (.askScanErases (.askScanErases (.handOffRing (.handOffRing (.concludeRing (.concludeRing h))))))

theorem classPage_kept (c : SlotClass) (hd : d.run ≠ .backup) : d.Kept u (d.classPage p c) := by
  have h1 : d.Keeps u 0 ((d.setJournal p { d.journal.get p with map := (d.journal.get p).map ++ [c] }).setScan ⟨.scanning, 0⟩) :=
    .setScan (.setJournal (.refl u d))
  unfold Dev.classPage
  dsimp only
  split
  · exact endStartup_kept h1.endScan hd
  · exact h1.kept_of_powered hd

theorem scanPageRead_kept (page : List Byte) (d : Dev) : d.Kept u (scanPageRead page d) := by
  unfold scanPageRead
  split
  · next hstart =>
    have hd : d.run ≠ .backup := by
      have : d.run = .startup := by simp [Dev.starting] at hstart; exact hstart.1.1
      simp [this]
    dsimp only
    split
    · exact classPage_kept _ hd
    · split
      · exact Dev.Keeps.kept_of_powered (.setScan (.refl u d)) hd
      · exact classPage_kept _ hd
  · exact .refl u d

/-! ### Samples (R73 to R78) -/

theorem Dev.run_of_runningFree (h : d.runningFree = true) : d.run = .run := by
  simp [Dev.runningFree] at h
  exact h.1

theorem routineSampleDue_kept (x : Pocket) (d : Dev) : d.Kept u (routineSampleDue x d) := by
  unfold routineSampleDue
  split
  · next hrun => exact Dev.Keeps.kept_of_powered (.beginSample (.refl u d)) (by simp [Dev.run_of_runningFree hrun])
  · exact .refl u d

theorem Image.sample_pending (jf : Bool) (delta t : Int) (im : Image) : (im.sample jf delta t).pending = im.pending := by
  unfold Image.sample
  dsimp only
  split
  · rw [Image.soil_pending]
  · rfl

theorem Dev.Keeps.inRangeSample {code : Nat} (h : e.Keeps u n d) : e.Keeps u n (d.inRangeSample p code) := by
  unfold Dev.inRangeSample
  extract_lets t stands _ d1 d2
  have h1 : e.Keeps u n d1 := h.aside
  have h2 : e.Keeps u n d2 := by
    unfold d2
    split
    · exact h1
    · exact h1.modImage fun im => Nat.le_of_eq (Image.sample_pending _ _ _ im)
  split
  · exact h2.raiseFault
  · exact h2

theorem Dev.Keeps.raiseSensor (h : e.Keeps u n d) : e.Keeps u n (d.raiseSensor p) := .raiseFault (.aside (d := d) h)

theorem Dev.Keeps.outOfRangeSample {code streak : Nat} (h : e.Keeps u n d) : e.Keeps u n (d.outOfRangeSample p code streak) := by
  have h1 : e.Keeps u n (d.setSns p { d.sns.get p with recent := some (code, false), streak := streak, sampling := .none }) :=
    h.aside
  unfold Dev.outOfRangeSample
  dsimp only
  split
  · exact h1.raiseSensor
  · exact h1

theorem routineSampleDone_kept (x : Pocket) (code : Nat) (d : Dev) : d.Kept u (routineSampleDone x code d) := by
  unfold routineSampleDone
  split
  · next hrun =>
    have h1 : d.Keeps u 0 (d.setAdc (d.adc.endSample x)) := .aside (.refl u d)
    refine Dev.Keeps.kept_of_powered ?_ (by simp [Dev.run_of_runningFree (Bool.and_eq_true_iff.1 hrun).1])
    dsimp only
    split
    · exact h1.inRangeSample
    · exact h1.outOfRangeSample
  · exact .refl u d

theorem restoreSampleDone_kept (x : Pocket) (code : Nat) (d : Dev) : d.Kept u (restoreSampleDone x code d) := by
  unfold restoreSampleDone
  split
  · next hrun =>
    have h1 : d.Keeps u 0 (d.setAdc (d.adc.endSample x)) := .aside (.refl u d)
    have hd : d.run ≠ .backup := by simp at hrun; simp [hrun.1]
    dsimp only
    refine endStartup_kept ?_ hd
    split
    · exact h1.inRangeSample
    · exact h1.outOfRangeSample
  · exact .refl u d

/-! ### Commits and operations (R65, R87 to R98) -/

theorem mergeWindowExpiry_kept (x : Pocket) (d : Dev) : d.Kept u (mergeWindowExpiry x d) := by
  unfold mergeWindowExpiry
  split
  · next hrun =>
    refine Dev.Keeps.kept_of_powered (.select (.trigger (.modImage (.refl u d) fun _ => Nat.le_refl _))) ?_
    simp at hrun
    simp [hrun.1]
  · exact .refl u d

/-- What follows an operation keeps the laws; a dark part has none in flight. -/
theorem afterOperation_kept (h : d.Keeps u 0 e) (hbusy : d.engine.inFlight ≠ none) : d.Kept u e.afterOperation := by
  have hoff : d.mainOff = d → e.mainOff = e := fun hoff => absurd (congrArg (fun x => x.engine.inFlight) hoff).symm hbusy
  have hrun := h.run
  unfold Dev.afterOperation
  split
  · next he =>
    split
    · exact .started _ _ _ h.ranges
    · exact h.select.kept_of_powered (by simp [← hrun, he])
  · next he => exact lossWork_kept h.toGuards (.inr (hrun ▸ he)) he
  · exact h.kept hoff
  · exact h.kept hoff

/-! ### Resumption and the tumble timers (R143, R154, R155, R158) -/

/-- A grant brings the head of the queue to DRYING, and no other pocket (R143). -/
theorem heaterGrant_kept (d : Dev) : d.Kept d.arbiter.queue.head? (heaterGrant d) := by
  unfold heaterGrant
  split
  · exact .refl _ d
  · next x rest hqueue =>
    split
    · next hready =>
      split
      · exact .refl _ d
      · rw [hqueue]
        refine Dev.Keeps.kept_of_powered (.select (.leaveWaitstart (.aside (d := d) (.refl _ d)) (.inr rfl))) ?_
        simp only [Dev.grantReady, Bool.and_eq_true] at hready
        simp [Dev.run_of_runningFree hready.1.1.1]
    · exact .refl _ d

theorem Dev.Keeps.endBurst {g : GuardProgram} (h : e.Keeps u n d) : e.Keeps u n (d.endBurst p g) := by
  unfold Dev.endBurst
  dsimp only
  split
  · exact .setTmb h.writeBody
  · have hidle : e.Keeps u n ((d.writeBody p fun b => { b with burstsLeft := (d.tmb.get p).burstsLeft - 1 }).setTmb p (.idle 0)) :=
      .setTmb h.writeBody
    split
    · exact .select (.decideClosure hidle)
    · exact hidle

/-- A timer that is not IDLE is not one of a dark part. -/
theorem Dev.idle_of_off (h : d.mainOff = d) (x : Pocket) : (d.tmb.get x).state = .idle := by
  rw [← h]
  cases x <;> rfl

theorem burstEnd_kept (x : Pocket) (d : Dev) : d.Kept u (burstEnd x d) := by
  unfold burstEnd
  dsimp only
  split
  · next hburst _ =>
    split
    · exact Dev.Keeps.kept (.endBurst (.refl u d)) fun h => by simp [Dev.idle_of_off h x] at hburst
    · exact .refl u d
  · exact .refl u d

theorem periodBoundary_kept (x : Pocket) (d : Dev) : d.Kept u (periodBoundary x d) := by
  unfold periodBoundary
  dsimp only
  split
  · next hrest _ =>
    split
    · refine Dev.Keeps.kept ?_ fun h => by simp [Dev.idle_of_off h x] at hrest
      split
      · exact .setTmb (.writeBody (.refl u d))
      · exact .aside (.refl u d)
    · exact .refl u d
  · exact .refl u d

/-! ### One millisecond (log entry 8) -/

theorem Dev.Keeps.elapseMain (h : e.Keeps u n d) : e.Keeps u n d.elapseMain := by
  have hlink : e.Keeps u n ((d.setSettle d.settle.elapse).setLink d.link.elapse) := by
    unfold Link.elapse
    split
    · exact .aside h
    · exact .aside h
  exact .setAdc (.setPsq (.setPsq hlink (.inl rfl)) (.inl rfl))

theorem elapse_kept (d : Dev) : d.Kept u d.elapse := by
  have h1 : d.Keeps u 0 (if d.bkd.powered then d.setBkd d.bkd.elapse else d) := by
    split
    · refine .setBkd_elapsed (.refl u d) rfl (Nat.le_max_right _ _) rfl fun p => ?_
      by_cases hms : d.bkd.tickMs < 1000
      · exact .inr ⟨1, by cases p <;> simp [Backup.elapse, hms]⟩
      · exact .inl (by cases p <;> simp [Backup.elapse, hms])
    · exact .refl u d
  have hoff : d.mainOff = d →
      (if d.bkd.powered then d.setBkd d.bkd.elapse else d).mainOff = if d.bkd.powered then d.setBkd d.bkd.elapse else d := by
    intro h
    split
    · exact Dev.off_setBkd h _
    · exact h
  unfold Dev.elapse
  dsimp only
  generalize (if d.bkd.powered then d.setBkd d.bkd.elapse else d) = d1 at h1 hoff ⊢
  split
  · next hpow => exact h1.elapseMain.kept_of_powered (by simpa [Dev.powered, h1.run] using hpow)
  · exact h1.kept hoff

end
end Sys2Proof.Machine
end

section
/-! What a served request and the bytes of a frame keep, and the command at the front of the queue. -/

namespace Sys2Proof.Machine

section
variable {u : Option Pocket} {n : Nat} {d e : Dev} {p : Pocket}

/-! ### Requests (R163, R164) -/

theorem Dev.drops_of_verdict {q : Request} {payload : List Byte} (h : d.verdict q payload ≠ .discard) :
    d.link.drops = false := by
  refine Classical.byContradiction fun hdrops => ?_
  exact h (if_pos (by simpa using hdrops))

theorem Link.not_drops {l : Link} (h : l.drops = false) : l.resetHold = false ∧ l.taken < 10 := by
  simp only [Link.drops, Bool.or_eq_false_iff, decide_eq_false_iff_not] at h
  exact ⟨h.1, Nat.lt_of_not_le h.2⟩

/-- What a served request can come to: nothing heard, a discarded frame, a refusal with room for it, or the owner's work. -/
theorem Dev.serveRequest_cases (q : Request) (payload : List Byte) (owner : Dev → Dev) (d : Dev) :
    d.serveRequest q payload owner = d ∨ d.powered = true ∧
      (d.serveRequest q payload owner = d.setReceiver .hunting ∨
        ((d.setReceiver .hunting).link.drops = false ∧
          ∃ r, d.serveRequest q payload owner = (d.setReceiver .hunting).reply q r) ∨
        ((d.setReceiver .hunting).verdict q payload = .dispatch ∧
          d.serveRequest q payload owner = owner (d.setReceiver .hunting))) := by
  unfold Dev.serveRequest
  split
  · next hhears =>
    refine .inr ⟨by simp only [Dev.hears, Bool.and_eq_true] at hhears; exact hhears.1.1, ?_⟩
    dsimp only
    split
    · exact .inl rfl
    · next r hr => exact .inr (.inl ⟨Dev.drops_of_verdict (by rw [hr]; simp), r, rfl⟩)
    · next hd => exact .inr (.inr ⟨hd, rfl⟩)
  · exact .inl rfl

theorem Dev.Keeps.setReceiver {r : Receiver} (h : e.Keeps u n d) : e.Keeps u n (d.setReceiver r) :=
  h.setLink (n := 0) rfl id (Nat.le_refl _)

/-- One reply more, where there is room for it, keeps the laws. -/
theorem Dev.Keeps.kept_of_room (h : d.Keeps u 1 e) (hroom : d.link.taken < 10) (hrun : d.run ≠ .backup) : d.Kept u e where
  pending := h.pending
  room _ := by have := h.room; rw [Dev.linkRoom_iff]; omega
  ranges := h.ranges
  stall hd he p := h.rests p (hd (h.run ▸ he) p)
  dark _ he := absurd (h.run ▸ he) hrun
  capacity := h.capacity
  legal := h.legal
  dries := h.dries

/-- A request whose owner keeps the laws and owes one reply at most keeps them, with the run state and the reset hold. -/
theorem Dev.serveRequest_kept {q : Request} {payload : List Byte} {owner : Dev → Dev} (ho : ∀ e : Dev, e.Keeps u 1 (owner e))
    (d : Dev) : d.Kept u (d.serveRequest q payload owner) ∧ (d.serveRequest q payload owner).run = d.run ∧
      (d.serveRequest q payload owner).link.resetHold = d.link.resetHold := by
  have hrx : d.Keeps u 0 (d.setReceiver .hunting) := .setReceiver (.refl u d)
  rcases d.serveRequest_cases q payload owner with heq | ⟨hpow, heq | ⟨hdrops, r, heq⟩ | ⟨hdispatch, heq⟩⟩ <;> rw [heq]
  · exact ⟨.refl u d, rfl, rfl⟩
  · exact ⟨hrx.kept_of_powered (by simpa [Dev.powered] using hpow), hrx.run, hrx.hold⟩
  · have h : d.Keeps u 1 ((d.setReceiver .hunting).reply q r) := .reply hrx
    exact ⟨h.kept_of_room (Link.not_drops hdrops).2 (by simpa [Dev.powered] using hpow), h.run, h.hold⟩
  · have h : d.Keeps u 1 (owner (d.setReceiver .hunting)) := hrx.trans (ho _)
    have hdrops := Dev.drops_of_verdict (by simp [hdispatch] : (d.setReceiver .hunting).verdict q payload ≠ .discard)
    exact ⟨h.kept_of_room (Link.not_drops hdrops).2 (by simpa [Dev.powered] using hpow), h.run, h.hold⟩

/-- The laws are kept, with the run state and the reset hold; a pocket may become DRYING in RUN without a reset hold. -/
structure Dev.Served (d d' : Dev) : Prop extends Dev.Lawful d d' where
  run : d'.run = d.run
  hold : d'.link.resetHold = d.link.resetHold
  begins : ∀ p, (d'.psq.get p).state = .drying →
    (d.psq.get p).state = .drying ∨ d.run = .run ∧ d.link.resetHold = false

theorem Dev.Served.trans {f : Dev} (h : d.Served e) (g : e.Served f) : d.Served f where
  toLawful := h.toLawful.trans g.toLawful
  run := g.run.trans h.run
  hold := g.hold.trans h.hold
  begins p hp := (g.begins p hp).elim (h.begins p) fun hrun => .inr (by rwa [h.run, h.hold] at hrun)

theorem Dev.Kept.served (h : d.Kept none e) (hrun : e.run = d.run) (hhold : e.link.resetHold = d.link.resetHold) : d.Served e where
  toLawful := h.toLawful
  run := hrun
  hold := hhold
  begins p hp := .inl (h.dries p (by simp) hp)

/-- What a request command of any type but START comes to: it keeps the laws, and no pocket becomes DRYING by it. -/
def Dev.Heard (d d' : Dev) : Prop := d.Kept none d' ∧ d'.run = d.run ∧ d'.link.resetHold = d.link.resetHold

theorem Dev.Heard.refl (d : Dev) : d.Heard d := ⟨.refl none d, rfl, rfl⟩

theorem Dev.Heard.served (h : d.Heard e) : d.Served e := h.1.served h.2.1 h.2.2

theorem Dev.serveRow_heard {q : Request} {payload : List Byte} {mine : Nat → Bool} {owner : Pocket → Dev → Dev}
    (ho : ∀ (p : Pocket) (e : Dev), e.Keeps none 1 (owner p e)) (d : Dev) : d.Heard (d.serveRow q payload mine owner) := by
  unfold Dev.serveRow
  split
  · exact .refl d
  · exact d.serveRequest_kept (ho _)

section
variable (payload : List Byte) (d : Dev)

theorem hearStatus_heard : d.Heard (hearStatus payload d) := d.serveRequest_kept fun _ => .serveStatus
theorem hearReport_heard : d.Heard (hearReport payload d) := d.serveRequest_kept fun _ => .reportOwner
theorem hearCheckpoint_heard : d.Heard (hearCheckpoint payload d) := d.serveRequest_kept fun _ => .checkpointOwner
theorem hearEndCycle_heard : d.Heard (hearEndCycle payload d) := d.serveRequest_kept fun _ => .endOwner
theorem hearPlan_heard : d.Heard (hearPlan payload d) := d.serveRequest_kept fun _ => .planOwner
theorem hearGuard_heard : d.Heard (hearGuard payload d) := d.serveRequest_kept fun _ => .guardOwner
theorem hearHistory_heard : d.Heard (hearHistory payload d) := d.serveRequest_kept fun _ => .historyOwner
theorem hearFormat_heard : d.Heard (hearFormat payload d) := d.serveRequest_kept fun _ => .formatOwner
theorem hearParamRead_heard : d.Heard (hearParamRead payload d) := d.serveRequest_kept fun _ => .paramReadOwner
theorem hearParamStore_heard : d.Heard (hearParamStore payload d) := d.serveRequest_kept fun _ => .paramStoreOwner
theorem hearResumeAccept_heard : d.Heard (hearResumeAccept payload d) := d.serveRow_heard fun _ _ => .resumeOwner
theorem hearResumeReheat_heard : d.Heard (hearResumeReheat payload d) := d.serveRow_heard fun _ _ => .resumeOwner
theorem hearResumeCool_heard : d.Heard (hearResumeCool payload d) := d.serveRow_heard fun _ _ => .resumeOwner
theorem hearResumeGuard_heard : d.Heard (hearResumeGuard payload d) := d.serveRow_heard fun _ _ => .resumeOwner
theorem hearResumeClose_heard : d.Heard (hearResumeClose payload d) := d.serveRow_heard fun _ _ => .resumeOwner
theorem hearClearAllAdvisory_heard : d.Heard (hearClearAllAdvisory payload d) := d.serveRow_heard fun _ _ => .clearAllOwner
theorem hearClearAdvisoryFault_heard : d.Heard (hearClearAdvisoryFault payload d) :=
  d.serveRow_heard fun _ _ => .clearAdvisoryOwner
theorem hearClearBlockingFault_heard : d.Heard (hearClearBlockingFault payload d) :=
  d.serveRow_heard fun _ _ => .clearBlockingOwner

end

theorem Dev.Keeps.paramWriteOwner {payload : List Byte} : d.Keeps u 1 (paramWriteOwner payload d) := by
  unfold Machine.paramWriteOwner
  split
  · exact .reply (.applyParam (.setLink (n := 0) (.refl u d) rfl (fun h => Params.write_legal h _ _) (Nat.le_refl _)))
  · exact .refuse (.refl u d)

theorem hearParamWrite_heard (payload : List Byte) (d : Dev) : d.Heard (hearParamWrite payload d) :=
  d.serveRequest_kept fun _ => .paramWriteOwner

theorem unknownRequestType_heard (type : Byte) (payload : List Byte) (d : Dev) :
    d.Heard (unknownRequestType type payload d) := by
  have hrx : d.Keeps none 0 (d.setReceiver .hunting) := .setReceiver (.refl none d)
  unfold unknownRequestType
  split
  · next hhears =>
    have hpow : d.run ≠ .backup := by
      simp only [Dev.hears, Bool.and_eq_true] at hhears
      simpa [Dev.powered] using hhears.1.1.1
    dsimp only
    split
    · exact ⟨hrx.kept_of_powered hpow, hrx.run, hrx.hold⟩
    · next hdrops =>
      have h : d.Keeps none 1 ((d.setReceiver .hunting).send ⟨replyType type, [Result.unknown.byte]⟩) := .send hrx
      exact ⟨h.kept_of_room (Link.not_drops (Bool.eq_false_iff.2 hdrops)).2 hpow, h.run, h.hold⟩
  · exact .refl d

/-! ### START (R33) -/

/-- A dispatched request has passed the checks on its pocket and on the run state (R164, checks 5 and 7). -/
theorem Dev.verdict_dispatch {q : Request} {payload : List Byte} (h : d.verdict q payload = .dispatch) :
    (q.namesPocket = true → (pocketOf payload).isSome = true) ∧ (d.run = .run ∨ q = .status) := by
  unfold Dev.verdict at h
  split at h
  · cases h
  · split at h
    · cases h
    · split at h
      · cases h
      · next hpocket =>
        split at h
        · cases h
        · split at h
          · cases h
          · next hrun =>
            refine ⟨fun hq => by simpa [hq, Option.isNone_iff_eq_none, Option.isSome_iff_ne_none] using hpocket, ?_⟩
            simpa [Classical.or_iff_not_imp_left] using hrun

theorem pocketOf_namedPocket {payload : List Byte} (h : (pocketOf payload).isSome = true) :
    pocketOf payload = some (namedPocket payload) := by
  unfold namedPocket
  split
  · assumption
  · next hnone => simp [hnone] at h

theorem startOwner_dries {payload : List Byte} (h : ((startOwner payload p d).psq.get p).state = .drying) :
    (d.psq.get p).state = .drying ∨
      (d.psq.get p).state = .vacant ∧ (d.psq.get p).mark = none ∧ (d.psq.get p).blocking = .empty := by
  unfold startOwner at h
  dsimp only at h
  split at h
  · exact .inl h
  · next hstate =>
    split at h
    · exact .inl h
    · split at h
      · exact .inl h
      · next hblocked =>
        simp only [Bool.or_eq_true, bne_iff_ne, ne_eq, not_or, Decidable.not_not, Bool.not_eq_true,
          Option.isSome_eq_false_iff, Option.isNone_iff_eq_none] at hstate
        exact .inr ⟨hstate.1, hstate.2, by simpa [Sequencer.blocked] using hblocked⟩

theorem hearStart_kept (payload : List Byte) (d : Dev) :
    d.Kept (some (namedPocket payload)) (hearStart payload d) ∧ (hearStart payload d).run = d.run ∧
      (hearStart payload d).link.resetHold = d.link.resetHold :=
  d.serveRequest_kept fun _ => .startOwner

/-- A pocket that becomes DRYING at a START command is the one its frame names, VACANT, without a mark and without a
blocking fault, in RUN without a reset hold (R33, R164). -/
theorem hearStart_dries {payload : List Byte} (h : ((hearStart payload d).psq.get p).state = .drying)
    (hnot : (d.psq.get p).state ≠ .drying) :
    pocketOf payload = some p ∧ (d.psq.get p).state = .vacant ∧ (d.psq.get p).mark = none ∧
      (d.psq.get p).blocking = .empty ∧ d.run = .run ∧ d.link.resetHold = false := by
  have hp : namedPocket payload = p := by
    refine Classical.byContradiction fun hne => ?_
    exact hnot ((hearStart_kept payload d).1.dries p (by simpa using hne) h)
  subst hp
  rcases d.serveRequest_cases .start payload (startOwner payload (namedPocket payload)) with
    heq | ⟨_, heq | ⟨_, r, heq⟩ | ⟨hdispatch, heq⟩⟩ <;>
    rw [hearStart, Dev.servePocket, heq] at h
  · exact absurd h hnot
  · exact absurd h hnot
  · exact absurd h hnot
  · obtain ⟨hpocket, hrun⟩ := Dev.verdict_dispatch hdispatch
    have hdrops := Dev.drops_of_verdict (by rw [hdispatch]; simp : (d.setReceiver .hunting).verdict .start payload ≠ .discard)
    obtain ⟨hvacant, hmark, hblocking⟩ := (startOwner_dries h).resolve_left hnot
    exact ⟨pocketOf_namedPocket (hpocket rfl), hvacant, hmark, hblocking, hrun.resolve_right (by simp),
      (Link.not_drops hdrops).1⟩

theorem hearStart_served (payload : List Byte) (d : Dev) : d.Served (hearStart payload d) where
  toLawful := (hearStart_kept payload d).1.toLawful
  run := (hearStart_kept payload d).2.1
  hold := (hearStart_kept payload d).2.2
  begins p hp := by
    by_cases hd : (d.psq.get p).state = .drying
    · exact .inl hd
    · obtain ⟨_, _, _, _, hrun, hhold⟩ := hearStart_dries hp hd
      exact .inr ⟨hrun, hhold⟩

/-! ### Bytes on RXD (R163) -/

theorem hearResume_heard (payload : List Byte) (d : Dev) : d.Heard (hearResume payload d) := by
  unfold hearResume
  split
  · exact hearResumeReheat_heard payload d
  · split
    · exact hearResumeCool_heard payload d
    · split
      · exact hearResumeGuard_heard payload d
      · split
        · exact hearResumeClose_heard payload d
        · exact hearResumeAccept_heard payload d

theorem hearClear_heard (payload : List Byte) (d : Dev) : d.Heard (hearClear payload d) := by
  unfold hearClear
  split
  · exact hearClearAdvisoryFault_heard payload d
  · split
    · exact hearClearBlockingFault_heard payload d
    · exact hearClearAllAdvisory_heard payload d

theorem dispatchFrame_served (type : Byte) (payload : List Byte) (d : Dev) : d.Served (dispatchFrame type payload d) := by
  unfold dispatchFrame
  cases Request.ofType type with
  | none => exact (unknownRequestType_heard type payload d).served
  | some q =>
    cases q with
    | status => exact (hearStatus_heard payload d).served
    | start => exact hearStart_served payload d
    | report => exact (hearReport_heard payload d).served
    | checkpoint => exact (hearCheckpoint_heard payload d).served
    | endCycle => exact (hearEndCycle_heard payload d).served
    | plan => exact (hearPlan_heard payload d).served
    | resume => exact (hearResume_heard payload d).served
    | guard => exact (hearGuard_heard payload d).served
    | clear => exact (hearClear_heard payload d).served
    | history => exact (hearHistory_heard payload d).served
    | format => exact (hearFormat_heard payload d).served
    | paramRead => exact (hearParamRead_heard payload d).served
    | paramWrite => exact (hearParamWrite_heard payload d).served
    | paramStore => exact (hearParamStore_heard payload d).served

theorem Dev.setReceiver_heard (r : Receiver) (hpow : d.run ≠ .backup) : d.Heard (d.setReceiver r) :=
  ⟨Dev.Keeps.kept_of_powered (.setReceiver (.refl none d)) hpow, rfl, rfl⟩

theorem receiveBytes_served (badStop : Bool) (bytes : List Byte) (d : Dev) (hpow : d.run ≠ .backup) :
    d.Served (receiveBytes badStop bytes d) := by
  induction bytes generalizing d with
  | nil => exact (Dev.Heard.refl d).served
  | cons b bs ih =>
    unfold receiveBytes
    split
    · next r _ => exact (Dev.setReceiver_heard r hpow).served.trans (ih _ hpow)
    · next type payload _ =>
      have h := dispatchFrame_served type payload d
      exact h.trans (ih _ (h.run ▸ hpow))

theorem frameDiscard_served (bytes : List Byte) (badStop : Bool) (d : Dev) : d.Served (frameDiscard bytes badStop d) := by
  unfold frameDiscard
  split
  · next hpow => exact receiveBytes_served _ _ _ (by simpa [Dev.powered] using (Bool.and_eq_true_iff.1 hpow).1)
  · exact (Dev.Heard.refl d).served

/-- Bytes that complete no frame only move the receiver. -/
theorem receiveBytes_psq {badStop : Bool} {bytes : List Byte} {d : Dev}
    (h : Receiver.run badStop bytes d.link.receiver ≠ none) : (receiveBytes badStop bytes d).psq = d.psq := by
  induction bytes generalizing d with
  | nil => rfl
  | cons b bs ih =>
    unfold Receiver.run at h
    unfold receiveBytes
    split
    · next r hr =>
      rw [hr] at h
      exact ih h
    · next hr =>
      rw [hr] at h
      exact absurd rfl h

theorem frameDiscard_psq {badStop : Bool} {bytes : List Byte} {d : Dev}
    (h : Receiver.run badStop bytes d.link.receiver ≠ none) : (frameDiscard bytes badStop d).psq = d.psq := by
  unfold frameDiscard
  split
  · exact receiveBytes_psq h
  · rfl

theorem rxGapTimeout_kept (d : Dev) : d.Kept none (rxGapTimeout d) := by
  unfold rxGapTimeout
  split
  · next hpow => exact (Dev.setReceiver_heard _ (by simpa [Dev.powered] using (Bool.and_eq_true_iff.1 hpow).1)).1
  · exact .refl none d

theorem syncByte_kept (d : Dev) : d.Kept none (syncByte d) := by
  unfold syncByte
  split
  · next hpow => exact (Dev.setReceiver_heard _ (by simpa [Dev.powered] using (Bool.and_eq_true_iff.1 hpow).1)).1
  · exact .refl none d

theorem replySent_kept (d : Dev) : d.Kept none (replySent d) := by
  refine Dev.Keeps.kept (.setLink (n := 0) (.refl none d) rfl id ?_) fun h => ?_
  · simp [Link.taken]
  · have hsame : d.link.transmit.drop 1 = d.link.transmit := by rw [← h]; rfl
    unfold replySent
    rw [hsame]
    exact h

end
end Sys2Proof.Machine
end

section
/-! The laws over a whole step (O58, O59, O60). -/

namespace Sys2Proof.Machine

section
variable {u : Option Pocket} {s t : State} {f : Dev → Dev} {p : Pocket}

theorem onDev_next (h : onDev f s = .next t) : t = { s with dev := f s.dev } := by
  simp only [onDev, Host.Outcome.next.injEq] at h
  exact h.symm

theorem onDev_kept (h : onDev f s = .next t) (hk : s.dev.Kept u (f s.dev)) : s.dev.Kept u t.dev := by
  rw [onDev_next h]
  exact hk

theorem onDev_served (h : onDev f s = .next t) (hk : s.dev.Served (f s.dev)) : s.dev.Served t.dev := by
  rw [onDev_next h]
  exact hk

/-! ### The commands that change the array -/

theorem execBackupCollapse_cases {reached : Nat} {kept : List Nat} (h : execBackupCollapse reached kept s = .next t) :
    t = s ∨ t = { s with
      array := cutOperation s.array reached kept s.dev.engine.inFlight, dev := (s.dev.setBkd .collapsed).mainOff } := by
  unfold execBackupCollapse at h
  split at h <;> cases h
  · exact .inr rfl
  · exact .inl rfl

/-- The end of an operation in flight sets one page, and leaves the part to `afterOperation`; with none of its kind in
flight nothing changes. -/
def State.operationEnds (s t : State) : Prop :=
  t = s ∨ s.dev.engine.inFlight ≠ none ∧ ∃ n page d, t = { s with array := s.array.setPage n page, dev := Dev.afterOperation d } ∧
    ∀ u, s.dev.Keeps u 0 d

theorem execWriteVerifyDone_ends {damage : List Host.Cell} (h : execWriteVerifyDone damage s = .next t) : s.operationEnds t := by
  unfold execWriteVerifyDone at h
  split at h <;> cases h
  · next hbusy =>
    refine .inr ⟨by simp [hbusy], _, _, _, rfl, fun u => ?_⟩
    split
    · exact .commitCompleted (.endOperation (.refl u _))
    · exact .writeFailed (.endOperation (.refl u _))
  all_goals exact .inl rfl

theorem execEraseDone_ends {residue : List Host.Cell} (h : execEraseDone residue s = .next t) : s.operationEnds t := by
  unfold execEraseDone at h
  split at h <;> cases h
  · next hbusy => exact .inr ⟨by simp [hbusy], _, _, _, rfl, fun u => .eraseEnded (.endOperation (.refl u _))⟩
  all_goals exact .inl rfl

theorem execParamOperationDone_ends {damage : List Host.Cell} (h : execParamOperationDone damage s = .next t) :
    s.operationEnds t := by
  unfold execParamOperationDone at h
  split at h <;> cases h
  · next hbusy => exact .inr ⟨by simp [hbusy], _, _, _, rfl, fun u => .paramEnded (.endOperation (.refl u _))⟩
  all_goals exact .inl rfl

theorem State.operationEnds.kept (h : s.operationEnds t) : s.dev.Kept u t.dev := by
  rcases h with rfl | ⟨hbusy, _, _, d, rfl, hd⟩
  · exact .refl u _
  · exact afterOperation_kept (hd u) hbusy

theorem State.operationEnds.wf (h : s.operationEnds t) (hwf : s.array.wf = true) : t.array.wf = true := by
  rcases h with rfl | ⟨_, _, _, _, rfl, _⟩
  · exact hwf
  · exact Memory.wf_setPage hwf _ _

theorem cutOperation_wf {m : Memory} (h : m.wf = true) (reached : Nat) (kept : List Nat) (op : Option Operation) :
    (cutOperation m reached kept op).wf = true := by
  unfold cutOperation
  split
  · exact h
  · exact Memory.wf_setPage h _ _
  · exact Memory.wf_setPage h _ _
  · split <;> exact Memory.wf_setPage h _ _

/-! ### Every command -/

/-- Every command but four works on the part alone. -/
theorem exec_onDev (c : Instr) (s : State) (hcollapse : ∀ reached kept, c ≠ .backupCollapse reached kept)
    (hwrite : ∀ x, c ≠ .writeVerifyDone x) (herase : ∀ x, c ≠ .eraseDone x) (hparam : ∀ x, c ≠ .paramOperationDone x) :
    ∃ f, exec c s = onDev f s := by
  cases c with
  | backupCollapse reached kept => exact absurd rfl (hcollapse reached kept)
  | writeVerifyDone x => exact absurd rfl (hwrite x)
  | eraseDone x => exact absurd rfl (herase x)
  | paramOperationDone x => exact absurd rfl (hparam x)
  | _ => exact ⟨_, rfl⟩

/-- A command other than START, a grant and bytes on RXD keeps the laws and brings no pocket to DRYING. -/
theorem exec_kept {c : Instr} (hstart : ∀ payload, c ≠ .start payload) (hgrant : c ≠ .heaterGrant)
    (hbytes : ∀ bytes bad, c ≠ .frameDiscard bytes bad) (h : exec c s = .next t) : s.dev.Kept none t.dev := by
  cases c with
  | zeroCrossEdge => exact onDev_kept h (zeroCross_kept _)
  | dipEntry => exact onDev_kept h (dipEntry_kept _)
  | qualifyAbort => exact onDev_kept h (qualifyAbort_kept _)
  | lossDeclaration => exact onDev_kept h (lossDeclaration_kept _)
  | mainsReturn => exact onDev_kept h (mainsReturn_kept _)
  | settleEnd => exact onDev_kept h (settleEnd_kept _)
  | confidenceRise => exact onDev_kept h (confidenceRise_kept _)
  | reserveConversionDue => exact onDev_kept h (reserveConversionDue_kept _)
  | reserveResult level => exact onDev_kept h (reserveResult_kept level _)
  | backupPowerUp => exact onDev_kept h (backupPowerUp_kept _)
  | backupCollapse reached kept =>
    rcases execBackupCollapse_cases h with rfl | rfl
    · exact .refl none _
    · exact backupCollapse_kept _
  | backupTick => exact onDev_kept h (backupTick_kept _)
  | doorSampleMark => exact onDev_kept h (doorSampleMark_kept _)
  | doorInputChange p isOpen => exact onDev_kept h (doorInputChange_kept p isOpen _)
  | doorDebounce p => exact onDev_kept h (doorDebounce_kept p _)
  | nresetAssert => exact onDev_kept h (nresetAssert_kept _)
  | nresetRelease => exact onDev_kept h (nresetRelease_kept _)
  | parameterLoad misread => exact onDev_kept h (parameterLoad_kept _ _)
  | scanPageRead misread => exact onDev_kept h (scanPageRead_kept _ _)
  | routineSampleDue p => exact onDev_kept h (routineSampleDue_kept p _)
  | routineSampleDone p c0 c1 c2 c3 => exact onDev_kept h (routineSampleDone_kept p _ _)
  | restoreSampleDone p c0 c1 c2 c3 => exact onDev_kept h (restoreSampleDone_kept p _ _)
  | mergeWindowExpiry p => exact onDev_kept h (mergeWindowExpiry_kept p _)
  | writeVerifyDone damage => exact (execWriteVerifyDone_ends h).kept
  | eraseDone residue => exact (execEraseDone_ends h).kept
  | paramOperationDone damage => exact (execParamOperationDone_ends h).kept
  | heaterGrant => exact absurd rfl hgrant
  | burstEnd p => exact onDev_kept h (burstEnd_kept p _)
  | periodBoundary p => exact onDev_kept h (periodBoundary_kept p _)
  | frameDiscard bytes bad => exact absurd rfl (hbytes bytes bad)
  | rxGapTimeout => exact onDev_kept h (rxGapTimeout_kept _)
  | unknownRequestType type payload => exact onDev_kept h (unknownRequestType_heard type payload _).1
  | status payload => exact onDev_kept h (hearStatus_heard payload _).1
  | start payload => exact absurd rfl (hstart payload)
  | report payload => exact onDev_kept h (hearReport_heard payload _).1
  | checkpoint payload => exact onDev_kept h (hearCheckpoint_heard payload _).1
  | endCycle payload => exact onDev_kept h (hearEndCycle_heard payload _).1
  | plan payload => exact onDev_kept h (hearPlan_heard payload _).1
  | resumeAccept payload => exact onDev_kept h (hearResumeAccept_heard payload _).1
  | resumeReheat payload => exact onDev_kept h (hearResumeReheat_heard payload _).1
  | resumeCool payload => exact onDev_kept h (hearResumeCool_heard payload _).1
  | resumeGuard payload => exact onDev_kept h (hearResumeGuard_heard payload _).1
  | resumeClose payload => exact onDev_kept h (hearResumeClose_heard payload _).1
  | guard payload => exact onDev_kept h (hearGuard_heard payload _).1
  | clearAllAdvisory payload => exact onDev_kept h (hearClearAllAdvisory_heard payload _).1
  | clearAdvisoryFault payload => exact onDev_kept h (hearClearAdvisoryFault_heard payload _).1
  | clearBlockingFault payload => exact onDev_kept h (hearClearBlockingFault_heard payload _).1
  | history payload => exact onDev_kept h (hearHistory_heard payload _).1
  | format payload => exact onDev_kept h (hearFormat_heard payload _).1
  | paramRead payload => exact onDev_kept h (hearParamRead_heard payload _).1
  | paramWrite payload => exact onDev_kept h (hearParamWrite_heard payload _).1
  | paramStore payload => exact onDev_kept h (hearParamStore_heard payload _).1
  | replySent => exact onDev_kept h (replySent_kept _)
  | syncByte => exact onDev_kept h (syncByte_kept _)

/-- Every command keeps the laws. -/
theorem exec_lawful {c : Instr} (h : exec c s = .next t) : s.dev.Lawful t.dev := by
  by_cases hstart : ∃ payload, c = .start payload
  · obtain ⟨payload, rfl⟩ := hstart
    exact (onDev_kept h (hearStart_kept payload _).1).toLawful
  · by_cases hgrant : c = .heaterGrant
    · subst hgrant
      exact (onDev_kept h (heaterGrant_kept _)).toLawful
    · by_cases hbytes : ∃ bytes bad, c = .frameDiscard bytes bad
      · obtain ⟨bytes, bad, rfl⟩ := hbytes
        exact (onDev_served h (frameDiscard_served bytes bad _)).toLawful
      · exact (exec_kept (fun x hx => hstart ⟨x, hx⟩) hgrant (fun x y hxy => hbytes ⟨x, y, hxy⟩) h).toLawful

/-- Every step keeps the laws. -/
theorem step_lawful (h : step s = .next t) : s.dev.Lawful t.dev := by
  unfold step at h
  split at h
  · exact (onDev_kept (u := none) h (elapse_kept _)).toLawful
  · next c rest _ => exact exec_lawful (s := { s with pending := rest }) h

theorem exec_wf {c : Instr} (h : exec c s = .next t) (hwf : s.array.wf = true) : t.array.wf = true := by
  by_cases hcollapse : ∃ reached kept, c = .backupCollapse reached kept
  · obtain ⟨reached, kept, rfl⟩ := hcollapse
    rcases execBackupCollapse_cases h with rfl | rfl
    · exact hwf
    · exact cutOperation_wf hwf _ _ _
  · by_cases hwrite : ∃ x, c = .writeVerifyDone x
    · obtain ⟨x, rfl⟩ := hwrite
      exact (execWriteVerifyDone_ends h).wf hwf
    · by_cases herase : ∃ x, c = .eraseDone x
      · obtain ⟨x, rfl⟩ := herase
        exact (execEraseDone_ends h).wf hwf
      · by_cases hparam : ∃ x, c = .paramOperationDone x
        · obtain ⟨x, rfl⟩ := hparam
          exact (execParamOperationDone_ends h).wf hwf
        · obtain ⟨f, hf⟩ := exec_onDev c s (fun x y hxy => hcollapse ⟨x, y, hxy⟩) (fun x hx => hwrite ⟨x, hx⟩)
            (fun x hx => herase ⟨x, hx⟩) (fun x hx => hparam ⟨x, hx⟩)
          rw [hf] at h
          rw [onDev_next h]
          exact hwf

/-! ### What brings a pocket to DRYING (R33, R143, R163) -/

/-- A grant that brings a pocket to DRYING finds the conditions of R143, with the pocket at the head of the queue. -/
theorem heaterGrant_dries {d : Dev} (h : ((heaterGrant d).psq.get p).state = .drying) (hnot : (d.psq.get p).state ≠ .drying) :
    d.arbiter.queue.head? = some p ∧ d.run = .run ∧ d.link.resetHold = false ∧ d.bkd.monitor.state = .present ∧
      d.reserve.ready = true ∧ d.staggerLength ≤ d.arbiter.stagger := by
  have hhead : d.arbiter.queue.head? = some p := by
    refine Classical.byContradiction fun hne => ?_
    exact hnot ((heaterGrant_kept d).dries p hne h)
  have hready : d.grantReady = true := by
    refine Classical.byContradiction fun hready => ?_
    unfold heaterGrant at h
    split at h
    · exact hnot h
    · rw [if_neg hready] at h
      exact hnot h
  simp only [Dev.grantReady, Dev.runningFree, Dev.mainsPresent, Bool.and_eq_true, beq_iff_eq, Bool.not_eq_true',
    decide_eq_true_eq] at hready
  obtain ⟨⟨⟨⟨hrun, hhold⟩, hmains⟩, hreserve⟩, hstagger⟩ := hready
  exact ⟨hhead, hrun, hhold, hmains, hreserve, hstagger⟩

/-- The commands by which a pocket becomes DRYING. -/
def State.dryingBegins (c : Instr) (s : State) (p : Pocket) : Prop :=
  (∃ payload, c = .start payload ∧ pocketOf payload = some p ∧ (s.dev.psq.get p).state = .vacant ∧
    (s.dev.psq.get p).mark = none ∧ (s.dev.psq.get p).blocking = .empty ∧ s.dev.run = .run) ∨
  (c = .heaterGrant ∧ s.dev.arbiter.queue.head? = some p ∧ s.dev.run = .run ∧ s.dev.link.resetHold = false ∧
    s.dev.bkd.monitor.state = .present ∧ s.dev.reserve.ready = true ∧ s.dev.staggerLength ≤ s.dev.arbiter.stagger) ∨
  (∃ bytes bad, c = .frameDiscard bytes bad ∧ s.dev.link.receiver.run bad bytes = none ∧ s.dev.run = .run ∧
    s.dev.link.resetHold = false)

theorem exec_dryingBegins {c : Instr} (h : exec c s = .next t) (hnot : (s.dev.psq.get p).state ≠ .drying)
    (hdrying : (t.dev.psq.get p).state = .drying) : s.dryingBegins c p := by
  by_cases hstart : ∃ payload, c = .start payload
  · obtain ⟨payload, rfl⟩ := hstart
    rw [onDev_next h] at hdrying
    obtain ⟨hp, hvacant, hmark, hblocking, hrun, _⟩ := hearStart_dries hdrying hnot
    exact .inl ⟨payload, rfl, hp, hvacant, hmark, hblocking, hrun⟩
  · by_cases hgrant : c = .heaterGrant
    · subst hgrant
      rw [onDev_next h] at hdrying
      exact .inr (.inl ⟨rfl, heaterGrant_dries hdrying hnot⟩)
    · by_cases hbytes : ∃ bytes bad, c = .frameDiscard bytes bad
      · obtain ⟨bytes, bad, rfl⟩ := hbytes
        rw [onDev_next h] at hdrying
        have hrun := ((frameDiscard_served bytes bad s.dev).begins p hdrying).resolve_left hnot
        refine .inr (.inr ⟨bytes, bad, rfl, ?_, hrun⟩)
        refine Classical.byContradiction fun hcomplete => ?_
        exact hnot (by rw [← frameDiscard_psq hcomplete]; exact hdrying)
      · exact absurd ((exec_kept (fun x hx => hstart ⟨x, hx⟩) hgrant (fun x y hxy => hbytes ⟨x, y, hxy⟩) h).dries p
          (by simp) hdrying) hnot

/-- The six conditions of R50. -/
theorem Dev.heatPermit_iff (d : Dev) (p : Pocket) :
    d.heatPermit p = true ↔ d.run = .run ∧ (d.psq.get p).state = .drying ∧ (d.psq.get p).mark = none ∧
      d.bkd.monitor.state = .present ∧ d.settle.flag = false ∧ d.reserve.ready = true ∧
      (d.psq.get p).blocking = ⟨false, false, false, false⟩ ∧ d.link.resetHold = false := by
  simp only [Dev.heatPermit, Dev.mainsPresent, Sequencer.blocked, Bool.and_eq_true, beq_iff_eq, Option.isNone_iff_eq_none,
    Bool.not_eq_true', bne_eq_false_iff_eq, and_assoc]
  rfl

theorem Dev.driven_of_powered {d : Dev} (h : d.run ≠ .backup) (active : Bool) :
    d.driven active = if active then .high else .low := by
  simp [Dev.driven, Dev.powered, h]

theorem Dev.driven_of_unpowered {d : Dev} (h : d.run = .backup) (active : Bool) : d.driven active = .released := by
  simp [Dev.driven, Dev.powered, h]

theorem Dev.heatPermitPin_high (d : Dev) (p : Pocket) : d.heatPermitPin p = .high ↔ d.heatPermit p = true := by
  unfold Dev.heatPermitPin
  by_cases hrun : d.run = .backup
  · have hoff : d.heatPermit p = false := by simp [Dev.heatPermit, hrun]
    simp [Dev.driven_of_unpowered hrun, hoff]
  · rw [Dev.driven_of_powered hrun]
    cases d.heatPermit p <;> simp

end
end Sys2Proof.Machine

namespace Sys2Proof.Proofs
open Sys2Proof.Machine

/-- Settles O58: a step sets pages of a canonical array by a collapse or the end of an operation, and works on the part
alone by every other command. -/
theorem arrayKeepsItsForm : Obligations.ArrayKeepsItsForm := by
  refine ⟨fun s t hwf hstep => ?_, fun c s t hcollapse hwrite herase hparam h => ?_⟩
  · unfold step at hstep
    split at hstep
    · rw [onDev_next hstep]
      exact hwf
    · next c rest _ => exact exec_wf (s := { s with pending := rest }) hstep hwf
  · obtain ⟨f, hf⟩ := exec_onDev c s hcollapse hwrite herase hparam
    rw [hf] at h
    rw [onDev_next h]
    exact ⟨rfl, rfl⟩

/-- Settles O59, by what each command keeps. -/
theorem lawsKept : Obligations.LawsKept := fun _ _ h =>
  have hlaw := step_lawful h
  ⟨hlaw.pending, hlaw.room, hlaw.ranges, hlaw.stall, hlaw.dark, hlaw.capacity, hlaw.legal⟩

/-- Settles O60: no other command leaves a pocket DRYING that was not, and the pin follows the six conditions of R50. -/
theorem dryingBeginsByStartOrGrant : Obligations.DryingBeginsByStartOrGrant := by
  refine ⟨fun c s t p h hnot => ⟨exec_dryingBegins h hnot, fun hpermit => ?_⟩, fun d p => ⟨?_, fun hrun hlow => ?_, fun hrun => ?_⟩⟩
  · obtain ⟨_, hdrying, _⟩ := (Dev.heatPermit_iff _ _).1 hpermit
    rcases exec_dryingBegins h hnot hdrying with ⟨payload, hc, _⟩ | ⟨hc, _⟩ | ⟨bytes, bad, hc, hrx, _⟩
    · exact .inr (.inl ⟨payload, hc⟩)
    · exact .inl hc
    · exact .inr (.inr ⟨bytes, bad, hc, hrx⟩)
  · rw [Dev.heatPermitPin_high, Dev.heatPermit_iff]
  · have hoff : d.heatPermit p = false := Bool.eq_false_iff.2 (mt (Dev.heatPermitPin_high d p).2 hlow)
    rw [Dev.heatPermitPin, Dev.driven_of_powered hrun, hoff]
    rfl
  · exact Dev.driven_of_unpowered hrun _

end Sys2Proof.Proofs
end

section
/-! The block and the mains monitor: the statements that one definition's cases settle (O1, O3, O5 to O7, O9 to O11, O13). -/

namespace Sys2Proof.Machine

/-! ### Entry to DIP (R2, R159) -/

@[simp] theorem Dev.mapTumblers_get (f : Tumbler → Tumbler) (d : Dev) (p : Pocket) :
    (d.mapTumblers f).tmb.get p = f (d.tmb.get p) := by cases p <;> rfl

theorem Tumbler.pause_eq (t : Tumbler) : t.pause =
    match t.state with
    | .burst => { t with state := .paused, interrupted := some .burst }
    | .rest => { t with state := .paused, interrupted := some .rest }
    | .idle => t
    | .paused => t := rfl

theorem exec_dipEntry {s : State} (hpow : s.dev.bkd.powered = true) (hpresent : s.dev.bkd.monitor.state = .present) :
    exec .dipEntry s = .next { s with dev := s.dev.enterDip.drawDipGap } := by
  simp [exec, execDipEntry, onDev, dipEntry, hpow, Dev.mainsPresent, hpresent]

/-- Drawing the dip gap moves the count of free values only. -/
theorem Dev.drawDipGap_eq (d : Dev) : d.drawDipGap = { d with freeCount := d.drawDipGap.freeCount } := by
  unfold Dev.drawDipGap
  split <;> rfl

theorem Dev.drawDipGap_of_params {d : Dev} (h : d.paramsInForce = true) : d.drawDipGap = d := if_pos h

theorem Dev.enterDip_tmb (d : Dev) (p : Pocket) : d.enterDip.tmb.get p = (d.tmb.get p).pause := by
  rw [Dev.enterDip, Dev.mapTumblers_get]
  rfl

theorem Dev.rideThroughLength_eq (d : Dev) : d.rideThroughLength = if 8 ≤ d.bkd.confidence then 200 else 80 := by
  simp [Dev.rideThroughLength, Dev.steady]

theorem Dev.dipGap_of_params {d : Dev} (h : d.paramsInForce = true) : d.dipGap = Params.dipGap d.link.params := if_pos h

theorem Dev.paramsInForce_iff (d : Dev) : d.paramsInForce = true ↔ d.run ≠ .backup ∧ d.link.loaded = true := by
  simp [Dev.paramsInForce, Dev.powered]

/-! ### QUALIFYING, a loss in STARTUP, mains return -/

theorem exec_qualifyAbort {s : State} (hpow : s.dev.bkd.powered = true) (hq : s.dev.bkd.monitor.state = .qualifying) :
    exec .qualifyAbort s = .next { s with dev := s.dev.abortQualifying.drawDipGap } := by
  simp [exec, execQualifyAbort, onDev, qualifyAbort, hpow, hq]

/-- What L becomes at a loss in STARTUP (R18). -/
def Facts.lossInStartup (f : Facts) : Facts := if f.suspended then { f with losses := min 255 (f.losses + 1) } else f

theorem satAdd_eq (a b top : Nat) : satAdd a b top = min top (a + b) := by
  unfold satAdd
  omega

theorem Dev.lossInStartupFacts_eq (p : Pocket) (d : Dev) :
    d.lossInStartupFacts p = d.setFacts p (d.bkd.facts.get p).lossInStartup := by
  unfold Dev.lossInStartupFacts Facts.lossInStartup
  dsimp only
  split
  · rw [satAdd_eq]
  · simp [Dev.setFacts, Dev.setBkd]

/-- The part in PRESENT again, before any start (R4). -/
def Dev.mainsBack (d : Dev) : Dev :=
  { d with
    settle := ⟨false, 0⟩
    bkd := { d.bkd with
      interval := 0
      monitor := { d.bkd.monitor with state := .present, qualification := max d.bkd.monitor.qualification 1000 } } }

theorem exec_mainsReturn {s : State} (hpow : s.dev.bkd.powered = true) (hq : s.dev.bkd.monitor.state = .qualifying) :
    exec .mainsReturn s = .next { s with dev := if s.dev.powered then s.dev.mainsBack else s.dev.mainsBack.startMain } := by
  show Host.Outcome.next _ = _
  rw [mainsReturn, if_pos (by simp [hpow, hq])]
  rfl

theorem Dev.startMain_cold {d : Dev} (h : d.bkd.continuity = false) : d.startMain =
    ((d.setBkd d.bkd.coldStart).mainInit .startup .cold d.pins.nresetLow d.pins.doorOpen).raiseDevice .coldStart :=
  if_neg (by simp [h])

theorem Dev.startMain_warm {d : Dev} (h : d.bkd.continuity = true) :
    d.startMain = d.mainInit .startup .warm d.pins.nresetLow d.pins.doorOpen := if_pos h

/-! ### The ADC (R9, R75) -/

theorem Adc.requestReserve_eq (a : Adc) : a.requestReserve =
    if a.running = none then { a with running := some .reserve, reserveMs := 0 }
    else { a with reserveWaits := true, reserveMs := 0 } := by
  unfold Adc.requestReserve
  cases a.running <;> rfl

/-- What a routine sample that falls due makes of the ADC (R9, R75). -/
theorem Dev.beginSample_begins (p : Pocket) (d : Dev) :
    d.sampleBegins p (d.beginSample p).sns (d.beginSample p).adc := by
  refine ⟨d.beginSample_sns p, fun hfree hdue => ?_, fun hbusy => ?_⟩
  · have hcond : (d.adc.dropSample p).running = none ∧ (d.adc.dropSample p).reserveDue = false :=
      ⟨hfree, by simpa [Adc.reserveDue, Adc.dropSample, reservePeriod] using hdue⟩
    rw [Dev.beginSample_adc, Adc.requestThermistor, if_pos hcond]
    simp [Adc.begin, Adc.dropSample, Per.set_set]
  · have hcond : ¬((d.adc.dropSample p).running = none ∧ (d.adc.dropSample p).reserveDue = false) := by
      simpa [Adc.reserveDue, Adc.dropSample, reservePeriod, Classical.or_iff_not_imp_left] using hbusy
    rw [Dev.beginSample_adc, Adc.requestThermistor, if_neg hcond]
    simp [Adc.dropSample, Per.set_set]

end Sys2Proof.Machine

namespace Sys2Proof.Proofs
open Sys2Proof.Machine

/-- Settles O1: it is the definition of a step with a command waiting. -/
theorem stepTakesTheFrontCommand : Obligations.StepTakesTheFrontCommand := fun _ _ _ => rfl

/-- Settles O3: every item of the part first supplied is its value of Table 2-1. -/
theorem resetIsFirstSupply : Obligations.ResetIsFirstSupply := by
  refine ⟨rfl, fun _ => rfl, rfl, rfl, rfl, rfl, rfl, fun p => ?_, rfl, fun p im him => ?_, Nat.zero_le _, ?_, fun hrun => ?_,
    fun _ => rfl, ⟨Nat.zero_le _, Nat.zero_le _⟩, maskDefaults_legal⟩
  · cases p <;> exact ⟨rfl, rfl, rfl, rfl, rfl⟩
  · cases p <;> cases him
  · exact (Backup.powerUp_ranges State.reset.dev).1
  · rcases hrun with h | h <;> cases h

/-- Settles O5, by what `Dev.enterDip` makes of each item. -/
theorem dipEntry : Obligations.DipEntry := by
  intro s hpow hpresent
  have hdraw := s.dev.enterDip.drawDipGap_eq
  refine ⟨_, exec_dipEntry hpow hpresent, ?_⟩
  rw [hdraw]
  refine ⟨rfl, s.dev.rideThroughLength_eq, rfl, Nat.le_max_left _ _, fun hrun hloaded hgap => ?_, rfl, rfl, fun p => ?_, rfl, rfl⟩
  · have hparams : s.dev.paramsInForce = true := s.dev.paramsInForce_iff.2 ⟨hrun, hloaded⟩
    have hdip : s.dev.enterDip.paramsInForce = true := hparams
    refine ⟨?_, by rw [Dev.drawDipGap_of_params hdip]; rfl⟩
    show max s.dev.bkd.monitor.absence s.dev.dipGap = _
    rw [Dev.dipGap_of_params hparams]
    exact Nat.max_eq_left hgap
  · exact (s.dev.enterDip_tmb p).trans (Tumbler.pause_eq _)

/-- Settles O6: the monitor's state and absence time are all that `Dev.abortQualifying` moves. -/
theorem qualifyAbort : Obligations.QualifyAbort := by
  intro s hpow hq
  refine ⟨_, exec_qualifyAbort hpow hq, ?_⟩
  rw [Dev.drawDipGap_eq]
  exact ⟨rfl, rfl, rfl⟩

/-- Settles O7, by `Dev.lossInStartupFacts` on each pocket and the power-down that follows. -/
theorem lossInStartup : Obligations.LossInStartup := by
  intro s hpow hdip hrun
  have hexec : ∃ d1 : Dev, exec .lossDeclaration s = .next { s with dev := d1.mainOff } ∧
      d1 = (((s.dev.setMonitor { s.dev.bkd.monitor with
        state := .absent, absence := max s.dev.bkd.monitor.absence s.dev.bkd.monitor.rideThrough }).lowerConfidence
          4).setFacts .a (s.dev.bkd.facts.get .a).lossInStartup).setFacts .b (s.dev.bkd.facts.get .b).lossInStartup := by
    refine ⟨_, ?_, rfl⟩
    show Host.Outcome.next _ = _
    simp only [lossDeclaration, hpow, hdip, hrun, Dev.lossInStartup, Dev.lossInStartupFacts_eq]
    rfl
  obtain ⟨d1, hexec, rfl⟩ := hexec
  refine ⟨_, hexec, rfl, rfl, rfl, rfl, rfl, fun p => ?_, rfl⟩
  cases p <;> rfl

/-- Settles O9: with the main domain powered only the monitor returns; from BACKUP the cold or the warm start follows. -/
theorem mainsReturn : Obligations.MainsReturn := by
  intro s hpow hq
  refine ⟨fun hrun hcold => ?_, fun hrun hwarm => ?_, fun hrun => ?_⟩
  · have hoff : s.dev.powered = false := by simp [Dev.powered, hrun]
    refine ⟨_, by rw [exec_mainsReturn hpow hq, hoff, if_neg Bool.false_ne_true, Dev.startMain_cold (d := s.dev.mainsBack) hcold], ?_⟩
    refine ⟨rfl, rfl, rfl, rfl, rfl, rfl, rfl, rfl, rfl, rfl, rfl, rfl, rfl, fun p => ?_⟩
    cases p <;> exact ⟨rfl, rfl, rfl, rfl, rfl, rfl, rfl, rfl, rfl, rfl, rfl⟩
  · have hoff : s.dev.powered = false := by simp [Dev.powered, hrun]
    refine ⟨_, by rw [exec_mainsReturn hpow hq, hoff, if_neg Bool.false_ne_true, Dev.startMain_warm (d := s.dev.mainsBack) hwarm], ?_⟩
    refine ⟨rfl, rfl, rfl, rfl, rfl, rfl, fun p => ?_⟩
    cases p <;> exact ⟨rfl, rfl, rfl, rfl, rfl, rfl, rfl⟩
  · have hon : s.dev.powered = true := by simp [Dev.powered, hrun]
    rw [exec_mainsReturn hpow hq, if_pos hon]
    rfl

/-- Settles O10, by the guard of each of the two commands. -/
theorem settleEndAndConfidenceRise : Obligations.SettleEndAndConfidenceRise := by
  refine fun s => ⟨fun hflag => ?_, fun hpow hpresent => ?_⟩
  · show Host.Outcome.next _ = _
    rw [Machine.settleEnd, if_pos hflag]
    rfl
  · show Host.Outcome.next _ = _
    by_cases hfull : 600 ≤ s.dev.bkd.interval
    · rw [confidenceRise, if_pos (by simp [hpow, Dev.mainsPresent, hpresent, intervalLength, hfull]), if_pos hfull, satAdd_eq]
      rfl
    · rw [confidenceRise, if_neg (by simp [intervalLength, hfull]), if_neg hfull]

/-- Settles O11, by the two requests at the ADC. -/
theorem conversionsBegin : Obligations.ConversionsBegin := by
  refine fun s => ⟨fun hrun => ?_, fun p hrun hhold => ⟨s.dev.beginSample p, ?_, s.dev.beginSample_begins p, ?_⟩⟩
  · show Host.Outcome.next _ = _
    rw [reserveConversionDue, if_pos (by simp [Dev.powered, hrun]), Adc.requestReserve_eq]
    rfl
  · show Host.Outcome.next _ = _
    rw [routineSampleDue, if_pos (by simp [Dev.runningFree, hrun, hhold])]
  · rfl

/-- Settles O13: the values are those of `Backup.powerUp`. -/
theorem backupPowerUp : Obligations.BackupPowerUp := by
  intro s hpow
  refine ⟨.powerUp, ?_, rfl, rfl, rfl, rfl, rfl, fun p => ?_⟩
  · show Host.Outcome.next _ = _
    rw [Machine.backupPowerUp, if_neg (by simp [hpow])]
    rfl
  · cases p <;> exact ⟨rfl, rfl, rfl, rfl, rfl⟩

end Sys2Proof.Proofs
end

section
/-! The backup domain: the collapse, the tick, the idle millisecond, the door inputs (O2, O14, O15, O17). -/

namespace Sys2Proof.Machine

/-! ### Pages of the array (R79) -/

theorem Memory.page_length (m : Memory) (n : Nat) : (m.page n).length = pageSize := by simp [Memory.page]

theorem Memory.page_getD (m : Memory) (n : Nat) {i : Nat} (h : i < 128) (v : Byte) :
    (m.page n).getD i v = m.read (n * 128 + i) := by
  simp [Memory.page, pageBase, pageSize, h, Nat.mul_comm]

/-! ### Reading a list by `getD`, within it, past its end and across two of them -/

theorem getD_of_lt {α : Type} {l : List α} {i : Nat} (h : i < l.length) (x : α) : l.getD i x = l[i] := by
  rw [List.getD_eq_getElem?_getD, List.getElem?_eq_getElem h, Option.getD_some]

theorem getD_of_le {α : Type} {l : List α} {i : Nat} (h : l.length ≤ i) (x : α) : l.getD i x = x := by
  rw [List.getD_eq_getElem?_getD, List.getElem?_eq_none h, Option.getD_none]

theorem getD_append_of_lt {α : Type} {l m : List α} {i : Nat} (h : i < l.length) (x : α) :
    (l ++ m).getD i x = l.getD i x := by
  rw [List.getD_eq_getElem?_getD, List.getD_eq_getElem?_getD, List.getElem?_append_left h]

theorem getD_append_of_le {α : Type} {l m : List α} {i : Nat} (h : l.length ≤ i) (x : α) :
    (l ++ m).getD i x = m.getD (i - l.length) x := by
  rw [List.getD_eq_getElem?_getD, List.getD_eq_getElem?_getD, List.getElem?_append_right h]

/-- A page whose every byte reads erased. -/
theorem Memory.page_erased {m : Memory} {n : Nat} (h : ∀ a, n * 128 ≤ a → a < n * 128 + 128 → m.read a = 0xFF) :
    m.page n = List.replicate pageSize erasedByte := by
  refine List.ext_getElem (by simp [Memory.page]) fun i hi _ => ?_
  have hi' : i < 128 := by simpa [Memory.page, pageSize] using hi
  rw [List.getElem_replicate, ← getD_of_lt _ 0, Memory.page_getD m n hi']
  exact h _ (by omega) (by omega)

theorem pageOf_getD (bytes : List Byte) {i : Nat} (h : i < 128) (v : Byte) :
    (pageOf bytes).getD i v = bytes.getD i 0xFF := by
  simp [pageOf, pageSize, h]

/-- What an address reads after one page is replaced. -/
theorem Memory.read_setPage_mul {m : Memory} (h : m.wf = true) (n : Nat) {bytes : List Byte} (hl : bytes.length = pageSize)
    (a : Nat) : (m.setPage n bytes).read a =
      if n * 128 ≤ a ∧ a < n * 128 + 128 then bytes.getD (a - n * 128) 0 else m.read a := by
  rw [Memory.read_setPage h n a bytes hl]
  simp only [pageBase, pageSize, Nat.mul_comm]

/-! ### The collapse (R21, R81) -/

theorem cutWrite_erased (bytes : List Byte) (reached : Nat) :
    cutWrite (List.replicate pageSize erasedByte) bytes reached = pageOf (bytes.take reached) :=
  programmed_erased _

theorem cutWrite_length (before bytes : List Byte) (reached : Nat) : (cutWrite before bytes reached).length = before.length :=
  programmed_length _ _ _

theorem cutErase_length (before : List Byte) (kept : List Nat) : (cutErase before kept).length = before.length := by
  simp [cutErase]

theorem cutErase_getD {before : List Byte} (kept : List Nat) {i : Nat} (h : i < before.length) (v : Byte) :
    (cutErase before kept).getD i v = if i ∈ kept then before.getD i v else 0xFF := by
  simp [cutErase, h, erasedByte]

theorem getD_take_erased (bytes : List Byte) (reached i : Nat) :
    (bytes.take reached).getD i 0xFF = if i < reached then bytes.getD i 0xFF else 0xFF := by
  simp only [List.getD_eq_getElem?_getD, List.getElem?_take]
  split <;> rfl

/-- A write cut off over an erased slot leaves the first bytes of its record (R80, R81). -/
theorem cutOperation_write {m : Memory} (hwf : m.wf = true) (reached : Nat) (kept : List Nat) (p : Pocket) (slot : Fin 16)
    (snap : Snapshot) (seq : Word) (b : Bool)
    (herased : ∀ a, slotPage p slot * 128 ≤ a → a < slotPage p slot * 128 + 128 → m.read a = 0xFF) (a : Nat) :
    (cutOperation m reached kept (some (.write p slot snap seq b))).read a =
      if slotPage p slot * 128 ≤ a ∧ a < slotPage p slot * 128 + 128 then
        if a - slotPage p slot * 128 < reached then (snap.record p seq).written.getD (a - slotPage p slot * 128) 0xFF else 0xFF
      else m.read a := by
  simp only [cutOperation]
  rw [Memory.read_setPage_mul hwf _ (by rw [cutWrite_length, Memory.page_length]), Memory.page_erased herased, cutWrite_erased]
  split
  · next hin => rw [pageOf_getD _ (by omega), getD_take_erased]
  · rfl

/-- An erase cut off leaves each byte erased or as before (R81). -/
theorem cutOperation_erase {m : Memory} (hwf : m.wf = true) (reached : Nat) (kept : List Nat) (p : Pocket) (slot : Fin 16)
    (u : ErasePurpose) (a : Nat) :
    (cutOperation m reached kept (some (.erase p slot u))).read a =
      if slotPage p slot * 128 ≤ a ∧ a < slotPage p slot * 128 + 128 then
        if a - slotPage p slot * 128 ∈ kept then m.read a else 0xFF
      else m.read a := by
  simp only [cutOperation]
  rw [Memory.read_setPage_mul hwf _ (by rw [cutErase_length, Memory.page_length])]
  split
  · next hin =>
    rw [cutErase_getD kept (by rw [Memory.page_length, pageSize]; omega), Memory.page_getD _ _ (by omega),
      show slotPage p slot * 128 + (a - slotPage p slot * 128) = a by omega]
  · rfl

/-- A PARAM operation cut off touches page 32 only (R98). -/
theorem cutOperation_param {m : Memory} (hwf : m.wf = true) (reached : Nat) (kept : List Nat) (ws : List Word) (b : Bool)
    (n : Nat) {a : Nat} (ha : ¬(4096 ≤ a ∧ a < 4224)) :
    (cutOperation m reached kept (some (.param ws b n))).read a = m.read a := by
  have hout : ¬(paramPage * 128 ≤ a ∧ a < paramPage * 128 + 128) := ha
  simp only [cutOperation]
  split
  · rw [Memory.read_setPage_mul hwf _ (by rw [cutErase_length, Memory.page_length]), if_neg hout]
  · rw [Memory.read_setPage_mul hwf _ (by rw [cutWrite_length, pageOf_length]), if_neg hout]

/-! ### The tick (R7, R23, R25, R65, R142, R154) -/

theorem backupTick_of_powered {d : Dev} (hpow : d.bkd.powered = true) (hrun : d.run ≠ .backup) :
    backupTick d = (d.setBkd d.bkd.tick).tickMain := by
  simp [backupTick, hpow, Dev.powered, hrun]

theorem backupTick_of_dark {d : Dev} (hpow : d.bkd.powered = true) (hrun : d.run = .backup) :
    backupTick d = d.setBkd d.bkd.tick := by
  simp [backupTick, hpow, Dev.powered, hrun]

theorem Backup.tick_facts (b : Backup) (p : Pocket) : b.tick.facts.get p = (b.facts.get p).elapse (1000 - b.tickMs) := by
  cases p <;> rfl

/-- A counter that runs on the tick's own phase rises by one second at the tick (R25). -/
theorem Facts.elapse_second {f : Facts} (hrun : f.stallRunning = true) (hms : f.stallMs < 1000) :
    f.elapse 1000 = { f with stall := min 16777215 (f.stall + 1) } := by
  unfold Facts.elapse
  rw [if_pos hrun, show (f.stallMs + 1000) / 1000 = 1 by omega, show (f.stallMs + 1000) % 1000 = f.stallMs by omega]
  rfl

theorem Dev.tickMain_image (d : Dev) (p : Pocket) : d.tickMain.image.get p = (d.image.get p).map Image.tick := by
  cases p <;> rfl

theorem Dev.tickMain_tmb (d : Dev) (p : Pocket) : d.tickMain.tmb.get p = (d.tmb.get p).tick := by
  cases p <;> rfl

theorem Tumbler.tick_rests {t : Tumbler} (h : t.state = .idle ∨ t.state = .paused) : t.tick = t := by
  rcases h with h | h <;> simp [Tumbler.tick, h]

/-! ### One millisecond (log entry 8) -/

theorem Adc.handOn_reserveMs (a : Adc) : a.handOn.reserveMs = a.reserveMs := by
  unfold Adc.handOn
  split
  · rfl
  · split
    · rfl
    · split <;> rfl

theorem Adc.requestThermistor_reserveMs (p : Pocket) (a : Adc) : (a.requestThermistor p).reserveMs = a.reserveMs := by
  unfold Adc.requestThermistor
  split <;> rfl

/-- A running conversion is not disturbed by one that falls due. -/
theorem Adc.requestThermistor_busy (p : Pocket) {a : Adc} (h : a.running ≠ none) :
    (a.requestThermistor p).running = a.running ∧ (a.requestThermistor p).reserveWaits = a.reserveWaits := by
  rw [Adc.requestThermistor, if_neg fun hc => h hc.1]
  exact ⟨rfl, rfl⟩

/-- A millisecond of a sample: nothing, or its time runs, and the next conversion may fall due. -/
theorem Adc.elapseSample_cases (p : Pocket) (x : Sampling) (a : Adc) :
    a.elapseSample p x = a ∨ a.elapseSample p x = { a with sinceMs := a.sinceMs.set p (a.sinceMs.get p + 1) } ∨
      a.elapseSample p x = Adc.requestThermistor p { a with sinceMs := a.sinceMs.set p (a.sinceMs.get p + 1) } := by
  unfold Adc.elapseSample
  split
  · dsimp only
    split
    · exact .inr (.inr rfl)
    · exact .inr (.inl rfl)
  · exact .inl rfl
  · exact .inl rfl

theorem Adc.elapseSample_reserveMs (p : Pocket) (x : Sampling) (a : Adc) : (a.elapseSample p x).reserveMs = a.reserveMs := by
  rcases a.elapseSample_cases p x with heq | heq | heq <;> rw [heq]
  rw [Adc.requestThermistor_reserveMs]

theorem Adc.elapseSample_busy (p : Pocket) (x : Sampling) {a : Adc} (h : a.running ≠ none) :
    (a.elapseSample p x).running = a.running ∧ (a.elapseSample p x).reserveWaits = a.reserveWaits := by
  rcases a.elapseSample_cases p x with heq | heq | heq <;> rw [heq]
  · exact ⟨rfl, rfl⟩
  · exact ⟨rfl, rfl⟩
  · exact Adc.requestThermistor_busy p h

theorem Adc.elapseSample_none (p : Pocket) (a : Adc) : a.elapseSample p .none = a := rfl

/-- The ADC once a thermistor conversion that ran is over and a waiting one has followed. -/
def Adc.afterMs (a : Adc) : Adc :=
  if a.running = some .reserve then { a with reserveMs := a.reserveMs + 1 }
  else Adc.handOn { a with reserveMs := a.reserveMs + 1 }

theorem Adc.elapse_eq (x y : Sampling) (a : Adc) : a.elapse x y = (a.afterMs.elapseSample .a x).elapseSample .b y := by
  unfold Adc.elapse Adc.afterMs
  match h : a.running with
  | none => simp
  | some .reserve => simp
  | some (.thermistor _) => simp

theorem Adc.elapse_reserveMs (x y : Sampling) (a : Adc) : (a.elapse x y).reserveMs = a.reserveMs + 1 := by
  rw [Adc.elapse_eq, Adc.elapseSample_reserveMs, Adc.elapseSample_reserveMs, Adc.afterMs]
  split
  · rfl
  · rw [Adc.handOn_reserveMs]

theorem Adc.elapse_busy (x y : Sampling) {a : Adc} (h : a.afterMs.running ≠ none) :
    (a.elapse x y).running = a.afterMs.running ∧ (a.elapse x y).reserveWaits = a.afterMs.reserveWaits := by
  obtain ⟨hr, hw⟩ := Adc.elapseSample_busy .a x h
  obtain ⟨hr', hw'⟩ := Adc.elapseSample_busy .b y (hr ▸ h)
  rw [Adc.elapse_eq, hr', hw', hr, hw]
  exact ⟨rfl, rfl⟩

/-- With nothing waiting, a free ADC stays free. -/
theorem Adc.afterMs_idle {a : Adc} (hfree : a.running = none) (hres : a.reserveWaits = false)
    (hth : a.thermistorWaits = .both false) : a.afterMs = { a with reserveMs := a.reserveMs + 1 } := by
  simp [Adc.afterMs, Adc.handOn, hfree, hres, hth, Per.both]

/-- A free ADC gives a waiting thermistor conversion its turn (R75). -/
theorem Adc.afterMs_waiting {a : Adc} (hrun : a.running ≠ some .reserve) (hres : a.reserveWaits = false) {q : Pocket}
    (hth : a.thermistorWaits = (Per.both false).set q true) : a.afterMs.running = some (.thermistor q) := by
  rw [Adc.afterMs, if_neg hrun, Adc.handOn_of_no_reserveWaits (a := { a with reserveMs := a.reserveMs + 1 }) hres]
  cases q <;> simp [hth, Per.both]

/-- The schedule of a routine sample after its first conversion (R75; R9 at the 20 ms). -/
theorem Adc.elapseSample_routine (p : Pocket) {a : Adc} {n : Nat} (hfree : a.running = none)
    (hth : a.thermistorWaits = .both false) (hstarted : a.started.get p = n) (h1 : 1 ≤ n) (h4 : n < 4) :
    (a.sinceMs.get p = 0 → a.elapseSample p .routine = { a with sinceMs := a.sinceMs.set p 1 }) ∧
    (a.sinceMs.get p = 1 → a.reserveMs ≠ 20 → a.elapseSample p .routine = { a with
      running := some (.thermistor p), started := a.started.set p (n + 1), sinceMs := a.sinceMs.set p 0 }) ∧
    (a.sinceMs.get p = 1 → a.reserveMs = 20 → a.elapseSample p .routine = { a with
      thermistorWaits := a.thermistorWaits.set p true, sinceMs := a.sinceMs.set p 2 }) := by
  have hdue : conversionDue (a.started.get p) .routine = some 2 := by
    rw [hstarted, conversionDue, if_neg (by omega)]
  have hwait : a.thermistorWaits.get p = false := by rw [hth, Per.both_get]
  have hset : a.thermistorWaits.set p false = a.thermistorWaits := by rw [← hwait, Per.set_get_same]
  refine ⟨fun hms => ?_, fun hms hres => ?_, fun hms hres => ?_⟩
  · simp only [Adc.elapseSample, hdue, hwait, hms]
    rfl
  · simp only [Adc.elapseSample, hdue, hwait, hms]
    simp [Adc.requestThermistor, Adc.reserveDue, reservePeriod, hfree, hres, Adc.begin, hset, hstarted, Per.set_set]
  · simp only [Adc.elapseSample, hdue, hwait, hms]
    simp [Adc.requestThermistor, Adc.reserveDue, reservePeriod, hfree, hres]

/-- With only one pocket's sample under way, the millisecond is that pocket's. -/
theorem Adc.elapse_one (a : Adc) (x : Per Sampling) (p : Pocket) (h : x.get p.other = .none) :
    a.elapse (x.get .a) (x.get .b) = a.afterMs.elapseSample p (x.get p) := by
  rw [Adc.elapse_eq]
  cases p with
  | a => rw [show x.get .b = .none from h, Adc.elapseSample_none]
  | b => rw [show x.get .a = .none from h, Adc.elapseSample_none]

theorem Dev.elapse_of_powered {d : Dev} (hpow : d.bkd.powered = true) (hrun : d.run ≠ .backup) :
    d.elapse = (d.setBkd d.bkd.elapse).elapseMain := by
  simp [Dev.elapse, hpow, Dev.powered, hrun]

theorem Dev.elapse_of_dark {d : Dev} (hpow : d.bkd.powered = true) (hrun : d.run = .backup) :
    d.elapse = d.setBkd d.bkd.elapse := by
  simp [Dev.elapse, hpow, Dev.powered, hrun]

theorem Dev.elapse_bkd {d : Dev} (hpow : d.bkd.powered = true) : d.elapse.bkd = d.bkd.elapse := by
  by_cases hrun : d.run = .backup
  · rw [Dev.elapse_of_dark hpow hrun]
    rfl
  · rw [Dev.elapse_of_powered hpow hrun]
    rfl

theorem Dev.elapseMain_settle (d : Dev) : d.elapseMain.settle =
    if d.settle.flag then { d.settle with ms := min 3000 (d.settle.ms + 1) } else d.settle := by
  show d.settle.elapse = _
  rw [Settle.elapse, satAdd_eq]

theorem Backup.elapse_facts (b : Backup) (p : Pocket) :
    b.elapse.facts.get p = if b.tickMs < 1000 then (b.facts.get p).elapse 1 else b.facts.get p := by
  cases p <;> rfl

theorem Facts.elapse_eq (ms : Nat) (f : Facts) :
    f.elapse ms = { f with stall := (f.elapse ms).stall, stallMs := (f.elapse ms).stallMs } := by
  unfold Facts.elapse
  split <;> rfl

/-- One millisecond of a running counter, on its own phase (R25). -/
theorem Facts.elapse_ms {f : Facts} (hrun : f.stallRunning = true) (htop : f.stall ≤ 16777215) :
    (f.stallMs < 999 → (f.elapse 1).stall = f.stall ∧ (f.elapse 1).stallMs = f.stallMs + 1) ∧
    (f.stallMs = 999 → (f.elapse 1).stall = min 16777215 (f.stall + 1) ∧ (f.elapse 1).stallMs = 0) := by
  simp only [Facts.elapse, hrun, if_true, stallTop]
  omega

/-! ### The motor request (R156) -/

theorem motorRun_doorInput (d : Dev) (p : Pocket) (isOpen : Bool) (hrun : d.run = .run) (hhold : d.link.resetHold = false)
    (hphase : (d.psq.get p).state = .anticrease) (hmark : (d.psq.get p).mark = none) (hburst : (d.tmb.get p).state = .burst)
    (hpresent : d.bkd.monitor.state = .present) (hdoor : d.pins.doorOpen.get p = isOpen) : d.motorRun p = !isOpen := by
  simp [Dev.motorRun, Dev.runningFree, hrun, hhold, hphase, hmark, hburst, Dev.mainsPresent, hpresent, hdoor]

end Sys2Proof.Machine

namespace Sys2Proof.Proofs
open Sys2Proof.Machine

/-- Settles O14, by what `cutOperation` leaves of the page of each operation. -/
theorem backupCollapse : Obligations.BackupCollapse := by
  intro s reached kept hpow hwf
  refine ⟨_, if_pos hpow, rfl, rfl, rfl, rfl, rfl, fun hidle => ?_, fun p slot snap seq b hwrite herased a => ?_,
    fun p slot u herase a => ?_, fun ws b n hparam a ha => ?_⟩
  · show cutOperation _ _ _ s.dev.engine.inFlight = _
    rw [hidle]
    rfl
  · show (cutOperation _ _ _ s.dev.engine.inFlight).read a = _
    rw [hwrite]
    exact cutOperation_write hwf reached kept p slot snap seq b herased a
  · show (cutOperation _ _ _ s.dev.engine.inFlight).read a = _
    rw [herase]
    exact cutOperation_erase hwf reached kept p slot u a
  · show (cutOperation _ _ _ s.dev.engine.inFlight).read a = _
    rw [hparam]
    exact cutOperation_param hwf reached kept ws b n ha

/-- Settles O15: the backup domain ticks, and with the main domain powered its timers do. -/
theorem backupTick : Obligations.BackupTick := by
  intro s hpow
  have hbkd : (Machine.backupTick s.dev).bkd = s.dev.bkd.tick := by
    by_cases hrun : s.dev.run = .backup
    · rw [backupTick_of_dark hpow hrun]
      rfl
    · rw [backupTick_of_powered hpow hrun]
      rfl
  refine ⟨_, rfl, ?_, fun p hstop => ?_, fun p hruns hphase hms => ?_, fun hrun => ?_, fun hrun => ?_, ?_, ?_⟩
  · rw [hbkd]
    show s.dev.bkd.tickInterval = _
    rw [Backup.tickInterval, satAdd_eq]
    rfl
  · rw [hbkd, Backup.tick_facts, Facts.elapse_of_stopped _ hstop]
  · rw [hbkd, Backup.tick_facts, hphase, Facts.elapse_second hruns hms]
  · rw [backupTick_of_powered hpow hrun]
    refine ⟨?_, fun p => Dev.tickMain_image _ p, fun p hrest => ?_, fun p g hg hburst => ?_, fun p g hg hrest => ?_⟩
    · show ({ s.dev.arbiter with stagger := satAdd s.dev.arbiter.stagger 1 staggerTop } : Arbiter) = _
      rw [satAdd_eq]
      rfl
    · exact (Dev.tickMain_tmb _ p).trans (Tumbler.tick_rests hrest)
    · exact (Dev.tickMain_tmb _ p).trans (by simp [Tumbler.tick, hburst, hg])
    · exact (Dev.tickMain_tmb _ p).trans (by simp [Tumbler.tick, hrest, hg])
  · rw [backupTick_of_dark hpow hrun]
    rfl
  · rw [hbkd]
    rfl
  · by_cases hrun : s.dev.run = .backup
    · rw [backupTick_of_dark hpow hrun]
      rfl
    · rw [backupTick_of_powered hpow hrun]
      rfl

/-- Settles O17: the raw level and its hold are all that change, and the motor request follows the level. -/
theorem doorInputChange : Obligations.DoorInputChange := by
  intro s p isOpen hne
  have hexec : exec (.doorInputChange p isOpen) s = .next { s with dev := { s.dev with
      pins := { s.dev.pins with doorOpen := s.dev.pins.doorOpen.set p isOpen }
      psq := s.dev.psq.set p { s.dev.psq.get p with doorHoldMs := 0 } } } := by
    show Host.Outcome.next _ = _
    rw [Machine.doorInputChange, if_neg hne]
    rfl
  refine ⟨_, hexec, rfl, fun hrun hhold hphase hmark hburst hpresent => ?_⟩
  exact motorRun_doorInput _ p isOpen hrun hhold (by simpa using hphase) (by simpa using hmark) hburst hpresent
    (Per.set_get_self _ _ _)

/-- Settles O2: the backup domain over one millisecond, and with the main domain powered each of its counts. -/
theorem idleStepPassesAMillisecond : Obligations.IdleStepPassesAMillisecond := by
  intro s hpending hpow
  have hstep : step s = .next { s with dev := s.dev.elapse } := by
    unfold step
    split
    · rfl
    · next hcons => simp [hpending] at hcons
  refine ⟨_, hstep, ?_, fun p => ?_, fun hrun => ?_, fun hrun => ?_⟩
  · rw [Dev.elapse_bkd hpow]
    show s.dev.bkd.elapse = _
    rw [Backup.elapse, satAdd_eq]
    rfl
  · rw [Dev.elapse_bkd hpow, Backup.elapse_facts]
    by_cases hms : s.dev.bkd.tickMs < 1000
    · rw [if_pos hms]
      refine ⟨Facts.elapse_eq 1 _, fun hstop => ?_, fun hruns _ htop => Facts.elapse_ms hruns htop⟩
      exact Facts.elapse_of_stopped 1 (hstop.resolve_right (by omega))
    · rw [if_neg hms]
      exact ⟨rfl, fun _ => rfl, fun _ hlt => absurd hlt hms⟩
  · rw [Dev.elapse_of_dark hpow hrun]
    rfl
  · have hadc : s.dev.elapse.adc = s.dev.adc.elapse (s.dev.sns.get .a).sampling (s.dev.sns.get .b).sampling := by
      rw [Dev.elapse_of_powered hpow hrun]
      rfl
    rw [hadc]
    refine ⟨?_, Adc.elapse_reserveMs _ _ _, fun hres => ?_, fun hres => ⟨fun hwaits => ?_, fun hwaits q hth => ?_⟩,
      fun hnone hquiet => ?_, fun p n hfree hwaits hth hstarted h1 h4 hroutine hother => ?_⟩
    · rw [Dev.elapse_of_powered hpow hrun, ← Dev.elapseMain_settle, ← satAdd_eq, ← satAdd_eq]
      rfl
    · have hafter : s.dev.adc.afterMs = { s.dev.adc with reserveMs := s.dev.adc.reserveMs + 1 } := if_pos hres
      have h := Adc.elapse_busy (s.dev.sns.get .a).sampling (s.dev.sns.get .b).sampling (a := s.dev.adc) (by simp [hafter, hres])
      rw [hafter] at h
      exact ⟨h.1.trans hres, h.2⟩
    · have hafter : s.dev.adc.afterMs = { s.dev.adc with
          running := some .reserve, reserveWaits := false, reserveMs := s.dev.adc.reserveMs + 1 } := by
        rw [Adc.afterMs, if_neg hres]
        exact Adc.handOn_of_reserveWaits hwaits
      have h := Adc.elapse_busy (s.dev.sns.get .a).sampling (s.dev.sns.get .b).sampling (a := s.dev.adc) (by simp [hafter])
      rw [hafter] at h
      exact h
    · have hafter := Adc.afterMs_waiting hres hwaits hth
      exact (Adc.elapse_busy _ _ (by simp [hafter])).1.trans hafter
    · rw [Adc.elapse_eq, hnone .a, hnone .b, Adc.elapseSample_none, Adc.elapseSample_none]
      rcases hquiet with hres | ⟨hfree, hwaits, hth⟩
      · exact if_pos hres
      · exact Adc.afterMs_idle hfree hwaits hth
    · have helapse := s.dev.adc.elapse_one ⟨(s.dev.sns.get .a).sampling, (s.dev.sns.get .b).sampling⟩ p
        (by cases p <;> exact hother)
      have hp : (⟨(s.dev.sns.get .a).sampling, (s.dev.sns.get .b).sampling⟩ : Per Sampling).get p = .routine := by
        cases p <;> exact hroutine
      rw [hp, Adc.afterMs_idle hfree hwaits hth] at helapse
      have hsample := Adc.elapseSample_routine p (a := { s.dev.adc with reserveMs := s.dev.adc.reserveMs + 1 }) hfree hth
        hstarted h1 h4
      obtain ⟨h0, hnext, hwait⟩ := hsample
      refine ⟨fun hms => helapse.trans (h0 hms), fun hms hnot => helapse.trans (hnext hms (by simpa using hnot)),
        fun hms h19 => ?_⟩
      have h20 : s.dev.adc.reserveMs + 1 = 20 := by omega
      exact helapse.trans ((hwait hms h20).trans (by simp only [h20]))

end Sys2Proof.Proofs
end

section
/-! Leaving WAITSTART (R46, R48, R59, R139): what a pocket takes with it, and what the other pocket's leaving and the
engine's selection leave of it. -/

namespace Sys2Proof.Machine

/-! ### What an operation of one pocket leaves of the other's items -/

/-- A pocket's sequencer, facts and timer are as before, and its image is as before or taken into a write. -/
structure Dev.LeavesPocket (p : Pocket) (d d' : Dev) : Prop where
  psq : d'.psq.get p = d.psq.get p
  facts : d'.bkd.facts.get p = d.bkd.facts.get p
  tmb : d'.tmb.get p = d.tmb.get p
  image : imageKept (d.image.get p) (d'.image.get p)

theorem Dev.LeavesPocket.refl (p : Pocket) (d : Dev) : d.LeavesPocket p d := ⟨rfl, rfl, rfl, imageKept_of_eq rfl⟩

theorem Image.keptOrTaken.trans {x y z : Image} (h : x.keptOrTaken y) (h' : y.keptOrTaken z) : x.keptOrTaken z := by
  rcases h with rfl | ⟨k, hk, rfl⟩
  · exact h'
  · rcases h' with rfl | ⟨k', hk', _⟩
    · exact .inr ⟨k, hk, rfl⟩
    · simp [Image.taken] at hk'

theorem imageKept.trans {x y z : Option Image} (h : imageKept x y) (h' : imageKept y z) : imageKept x z := by
  refine ⟨fun hx => h'.1 (h.1 hx), fun im him => ?_⟩
  obtain ⟨im', him', hkept⟩ := h.2 im him
  obtain ⟨im'', him'', hkept'⟩ := h'.2 im' him'
  exact ⟨im'', him'', hkept.trans hkept'⟩

theorem Dev.LeavesPocket.trans {p : Pocket} {d e f : Dev} (h : d.LeavesPocket p e) (h' : e.LeavesPocket p f) :
    d.LeavesPocket p f :=
  ⟨h'.psq.trans h.psq, h'.facts.trans h.facts, h'.tmb.trans h.tmb, h.image.trans h'.image⟩

/-- A selection leaves every pocket's items, but may take a queued commit's image into its write (R68). -/
theorem Dev.select_leaves (p : Pocket) (d : Dev) : d.LeavesPocket p d.select :=
  ⟨by simp, by simp, by simp, d.select_image p⟩

theorem Dev.trigger_image_other {p q : Pocket} (k : Kind) (r : Option CloseReason) (d : Dev) (hq : q ≠ p) :
    (d.trigger p k r).image.get q = d.image.get q := by
  rcases d.trigger_cases p k r with ⟨_, heq⟩ | ⟨_, _, _, ⟨_, heq⟩ | ⟨_, _, heq⟩ | ⟨_, _, heq⟩⟩ <;>
    simp [heq, Per.set_get_of_ne _ _ hq]

theorem Dev.decideClosure_image_other {p q : Pocket} (r : CloseReason) (d : Dev) (hq : q ≠ p) :
    (d.decideClosure p r).image.get q = d.image.get q := by
  rcases d.decideClosure_cases p r with ⟨_, heq⟩ | ⟨_, heq⟩
  · simp [heq, Dev.closureEffect_image, Per.set_get_of_ne _ _ hq]
  · simp [heq, Dev.trigger_image_other _ _ _ hq]

/-- What a trigger that is not discarded makes of an image (R66, R67): an entry, an upgrade of the queued one, or a recommit
request; the close reason is kept or taken. -/
def Image.triggered (kind : Kind) (reason : Option CloseReason) (im : Image) : Image :=
  { im with
    commit := match im.commit with
      | .none => .queued kind
      | .queued k => .queued (k.upgrade kind)
      | .inFlight k => .inFlight k
    recommit := match im.commit, im.recommit with
      | .inFlight _, none => some kind
      | .inFlight _, some k => some (k.upgrade kind)
      | _, r => r
    closeReason := keepReason im.closeReason reason }

theorem Dev.trigger_image {d : Dev} {p : Pocket} {im : Image} (kind : Kind) (reason : Option CloseReason)
    (hj : d.journalFailed p = false) (him : d.image.get p = some im) :
    (d.trigger p kind reason).image = d.image.set p (some (im.triggered kind reason)) := by
  obtain ⟨body, cycle, pending, dirty, window, commit, recommit, closeReason, ref, resume⟩ := im
  cases commit with
  | none => simp [Dev.trigger, hj, him, Image.triggered]
  | queued k => simp [Dev.trigger, hj, him, Image.triggered]
  | inFlight k => cases recommit <;> simp [Dev.trigger, hj, him, Image.triggered]

theorem Dev.decideClosure_image {d : Dev} {p : Pocket} {im : Image} (r : CloseReason)
    (hj : d.journalFailed p = false) (him : d.image.get p = some im) :
    (d.decideClosure p r).image = d.image.set p (some (im.triggered .close (some r))) := by
  rcases d.decideClosure_cases p r with ⟨h, _⟩ | ⟨_, heq⟩
  · exact absurd (hj.symm.trans h) (by decide)
  · rw [heq, Dev.trigger_image .close (some r) (by simpa [Dev.journalFailed] using hj) (by simpa using him)]
    simp

/-- A closure decided without JOURNAL_FAIL leaves the backup domain. -/
theorem Dev.decideClosure_bkd {d : Dev} {p : Pocket} (r : CloseReason) (hj : d.journalFailed p = false) :
    (d.decideClosure p r).bkd = d.bkd := by
  rcases d.decideClosure_cases p r with ⟨h, _⟩ | ⟨_, heq⟩
  · exact absurd (hj.symm.trans h) (by decide)
  · simp [heq]

/-- A closure decided for one pocket leaves the other's items. -/
theorem Dev.decideClosure_leaves {p q : Pocket} (r : CloseReason) (d : Dev) (hq : q ≠ p) :
    d.LeavesPocket q (d.decideClosure p r) where
  psq := (d.decideClosure_other p r hq).1
  facts := (d.decideClosure_other p r hq).2
  tmb := by rw [Dev.decideClosure_tmb, Per.set_get_of_ne _ _ hq]
  image := imageKept_of_eq (Dev.decideClosure_image_other r d hq)

theorem Dev.startTumbler_tmb (p : Pocket) (g : GuardProgram) (n : Nat) (d : Dev) :
    (d.startTumbler p g n).tmb = d.tmb.set p
      (if d.mainsPresent then ⟨.burst, some g, none, n, 0, none, .forward⟩
       else ⟨.paused, some g, none, n, 0, some .burst, .forward⟩) := by
  simp [Dev.startTumbler]

theorem Dev.enterAnticrease_leaves {p q : Pocket} (g : GuardProgram) (n : Nat) (d : Dev) (hq : q ≠ p) :
    d.LeavesPocket q (d.enterAnticrease p g n) := by
  rcases d.enterAnticrease_cases p g n with ⟨_, heq⟩ | ⟨_, heq⟩ <;> rw [heq]
  · exact d.decideClosure_leaves _ hq
  · exact ⟨by simp, by simp, by rw [Dev.startTumbler_tmb, Per.set_get_of_ne _ _ hq], imageKept_of_eq (by simp)⟩

/-! ### What a closure and its replies leave of the backup domain and of the link -/

/-- The backup domain is as before but for the facts of the pockets. -/
def Dev.FactsOnly (d d' : Dev) : Prop := d'.bkd = { d.bkd with facts := d'.bkd.facts }

theorem Dev.FactsOnly.of_eq {d d' : Dev} (h : d'.bkd = d.bkd) : d.FactsOnly d' := by rw [Dev.FactsOnly, h]

theorem Dev.FactsOnly.trans {d e f : Dev} (h : d.FactsOnly e) (h' : e.FactsOnly f) : d.FactsOnly f := by
  rw [Dev.FactsOnly, h', h]

/-- Every cause that stands in the one set stands in the other. -/
structure Attention.Grows (a b : Attention) : Prop where
  planReady : a.planReady = true → b.planReady = true
  closed : a.closed = true → b.closed = true
  fault : a.fault = true → b.fault = true
  supply : a.supply = true → b.supply = true

theorem Attention.Grows.refl (a : Attention) : a.Grows a := ⟨id, id, id, id⟩

theorem Attention.Grows.trans {a b c : Attention} (h : a.Grows b) (h' : b.Grows c) : a.Grows c :=
  ⟨h'.planReady ∘ h.planReady, h'.closed ∘ h.closed, h'.fault ∘ h.fault, h'.supply ∘ h.supply⟩

theorem Attention.grows_add (a : Attention) (c : Cause) : a.Grows (a.add c) := by
  cases c <;> constructor <;> simp [Attention.add]

/-- A link is as before but for the replies owed, those sent, which come behind the earlier ones, and the causes, of which
none goes. -/
structure Link.Answers (l l' : Link) : Prop where
  frame : l' = { l with deferred := l'.deferred, transmit := l'.transmit, attention := l'.attention }
  sent : l.transmit <+: l'.transmit
  causes : l.attention.Grows l'.attention

theorem Link.Answers.of_eq {l l' : Link} (h : l' = l) : l.Answers l' := by
  subst h; exact ⟨rfl, List.prefix_rfl, .refl _⟩

theorem Link.Answers.trans {l m n : Link} (h : l.Answers m) (h' : m.Answers n) : l.Answers n :=
  ⟨by rw [h'.frame, h.frame], h.sent.trans h'.sent, h.causes.trans h'.causes⟩

theorem Link.formatsReleased.answers {l l' : Link} (h : l.formatsReleased l') : l.Answers l' := by
  obtain ⟨heq, hprefix, _, _⟩ := h
  exact ⟨by rw [heq], hprefix, by rw [heq]; exact .refl _⟩

theorem Link.Answers.resetHold {l l' : Link} (h : l.Answers l') : l'.resetHold = l.resetHold := by rw [h.frame]

theorem Dev.raiseCause_answers (c : Cause) (d : Dev) : d.link.Answers (d.raiseCause c).link :=
  ⟨rfl, List.prefix_rfl, Attention.grows_add _ c⟩

theorem Dev.reply_answers (q : Request) (payload : List Byte) (d : Dev) : d.link.Answers (d.reply q payload).link :=
  ⟨rfl, List.prefix_append _ _, .refl _⟩

theorem Dev.undefer_answers (q : Request) (p : Option Pocket) (d : Dev) : d.link.Answers (d.undefer q p).link :=
  ⟨rfl, List.prefix_rfl, .refl _⟩

theorem Dev.release_answers (q : Request) (p : Option Pocket) (payload : List Byte) (d : Dev) :
    d.link.Answers (d.release q p payload).link := by
  rcases d.release_cases q p payload with ⟨_, heq⟩ | ⟨_, _, heq⟩ <;> rw [heq]
  · exact .of_eq rfl
  · exact (Dev.undefer_answers q p d).trans (Dev.reply_answers q payload _)

theorem Dev.closureEffect_answers (p : Pocket) (r : Result) (d : Dev) : d.link.Answers (d.closureEffect p r).link := by
  have hrelease (e : Dev) (h : e.link = d.link) : d.link.Answers
      (e.release .endCycle (some p) (pocketReply r p [])).link := h ▸ Dev.release_answers _ _ _ _
  unfold Dev.closureEffect
  dsimp only
  split
  · split
    · exact (hrelease _ (by simp)).trans (Dev.raiseCause_answers _ _)
    · exact hrelease _ (by simp)
  · exact hrelease _ (by simp)

theorem Dev.closureEffect_factsOnly (p : Pocket) (r : Result) (d : Dev) : d.FactsOnly (d.closureEffect p r) := by
  simp only [Dev.closureEffect]
  (repeat' split) <;> simp [Dev.FactsOnly, Dev.releaseFacts]

theorem Dev.decideClosure_answers (p : Pocket) (r : CloseReason) (d : Dev) :
    d.link.Answers (d.decideClosure p r).link := by
  rcases d.decideClosure_cases p r with ⟨_, heq⟩ | ⟨_, heq⟩ <;> rw [heq]
  · simpa using Dev.closureEffect_answers p .faulted ((d.stopTumbler p).setPsq p { d.psq.get p with mark := some r })
  · exact .of_eq (by simp)

theorem Dev.decideClosure_factsOnly (p : Pocket) (r : CloseReason) (d : Dev) : d.FactsOnly (d.decideClosure p r) := by
  rcases d.decideClosure_cases p r with ⟨_, heq⟩ | ⟨_, heq⟩ <;> rw [heq]
  · simpa [Dev.FactsOnly] using
      Dev.closureEffect_factsOnly p .faulted ((d.stopTumbler p).setPsq p { d.psq.get p with mark := some r })
  · exact .of_eq (by simp)

theorem Dev.enterAnticrease_answers (p : Pocket) (g : GuardProgram) (n : Nat) (d : Dev) :
    d.link.Answers (d.enterAnticrease p g n).link := by
  rcases d.enterAnticrease_cases p g n with ⟨_, heq⟩ | ⟨_, heq⟩ <;> rw [heq]
  · exact Dev.decideClosure_answers _ _ _
  · exact .of_eq (by simp)

theorem Dev.enterAnticrease_factsOnly (p : Pocket) (g : GuardProgram) (n : Nat) (d : Dev) :
    d.FactsOnly (d.enterAnticrease p g n) := by
  rcases d.enterAnticrease_cases p g n with ⟨_, heq⟩ | ⟨_, heq⟩ <;> rw [heq]
  · exact Dev.decideClosure_factsOnly _ _ _
  · exact .of_eq (by simp)

/-! ### The rebuilt image (R59, R145) -/

/-- The image a pocket leaves WAITSTART with: rebuilt from the basis with the figures of the choice and the resume block,
a RESUME commit queued unless JOURNAL_FAIL stands. -/
def Dev.resumedImage (p : Pocket) (c : Choice) (b : Basis) (d : Dev) : Image :=
  let im := rebuiltImage (d.journalFailed p) b.record (d.bkd.facts.get p).losses
  { im with
    body := installFigures c im.body, resume := (d.plan.get p).map (resumeBlock c)
    commit := if d.journalFailed p then .none else .queued .resume }

theorem Dev.rebuildForResumption_image {d : Dev} {p : Pocket} {b : Basis} (c : Choice)
    (hb : (d.journal.get p).basis = some b) :
    (d.rebuildForResumption p c).image = d.image.set p (some
      (let im := rebuiltImage (d.journalFailed p) b.record (d.bkd.facts.get p).losses
       { im with body := installFigures c im.body, resume := (d.plan.get p).map (resumeBlock c) })) := by
  simp [Dev.rebuildForResumption, hb]

theorem Dev.resumed_image {d : Dev} {p : Pocket} {c : Choice} {phase : Phase} {b : Basis}
    (hb : (d.journal.get p).basis = some b) :
    (d.resumed p c phase).image.get p = some (d.resumedImage p c b) := by
  have him := congrArg (fun x => x.get p) (Dev.rebuildForResumption_image c hb)
  simp only [Per.set_get_self] at him
  have hjf : (d.rebuildForResumption p c).journalFailed p = d.journalFailed p := by simp [Dev.journalFailed]
  simp only [Dev.resumed, Dev.releaseFacts_frame, Dev.setPsq_image]
  cases hj : d.journalFailed p with
  | true => simp [Dev.trigger, hjf, hj, him, Dev.resumedImage, rebuiltImage]
  | false => simp [Dev.trigger, hjf, hj, him, Dev.resumedImage, rebuiltImage, keepReason]

theorem Dev.resumed_psq (p : Pocket) (c : Choice) (phase : Phase) (d : Dev) :
    (d.resumed p c phase).psq =
      d.psq.set p { d.psq.get p with state := phase.pocketState, startKind := .warm, choice := none } := by
  simp [Dev.resumed]

theorem Dev.resumed_bkd (p : Pocket) (c : Choice) (phase : Phase) (d : Dev) :
    (d.resumed p c phase).bkd = { d.bkd with facts := d.bkd.facts.set p .clear } := by
  simp [Dev.resumed, Dev.releaseFacts]

theorem Dev.resumed_tmb (p : Pocket) (c : Choice) (phase : Phase) (d : Dev) :
    (d.resumed p c phase).tmb = d.tmb := by simp [Dev.resumed]

theorem Dev.resumed_image_other {p q : Pocket} (c : Choice) (phase : Phase) (d : Dev) (hq : q ≠ p) :
    (d.resumed p c phase).image.get q = d.image.get q := by
  simp only [Dev.resumed, Dev.releaseFacts_frame, Dev.setPsq_image, Dev.trigger_image_other _ _ _ hq]
  unfold Dev.rebuildForResumption
  split
  · rfl
  · simp [Per.set_get_of_ne _ _ hq]

theorem Dev.resumed_leaves {p q : Pocket} (c : Choice) (phase : Phase) (d : Dev) (hq : q ≠ p) :
    d.LeavesPocket q (d.resumed p c phase) :=
  ⟨by simp [Dev.resumed_psq, Per.set_get_of_ne _ _ hq], by simp [Dev.resumed_bkd, Per.set_get_of_ne _ _ hq],
    by simp [Dev.resumed_tmb], imageKept_of_eq (d.resumed_image_other c phase hq)⟩

theorem Dev.leaveWaitstart_leaves {p q : Pocket} (c : Choice) (phase : Phase) (d : Dev) (hq : q ≠ p) :
    d.LeavesPocket q (d.leaveWaitstart p c phase) := by
  rw [Dev.leaveWaitstart_eq]
  split
  · exact (d.resumed_leaves c phase hq).trans (Dev.enterAnticrease_leaves _ _ _ hq)
  · exact d.resumed_leaves c phase hq

theorem Dev.startTest_leaves {p q : Pocket} (d : Dev) (hq : q ≠ p) : d.LeavesPocket q (d.startTest p) := by
  rcases d.startTest_cases p with heq | ⟨_, _, _, _, c, _, ⟨_, heq⟩ | ⟨_, heq⟩⟩ <;> rw [heq]
  · exact .refl q d
  all_goals exact d.leaveWaitstart_leaves c _ hq

/-! ### A pocket that leaves, as `Dev.leavesWaitstart` spells it out -/

section Leaves
variable {p : Pocket} {c : Choice} {b : Basis} {d d' : Dev}

/-- The image that a pocket left with, or that a write has since taken, has the figures of the choice. -/
theorem Dev.resumedImage_kept {im : Image} (h : (d.resumedImage p c b).keptOrTaken im) :
    im.cycle = b.record.cycle ∧ im.exhaustRef = b.record.body.exhaustLast ∧
    im.body = installFigures c
      { b.record.body with outages := min 255 (b.record.body.outages + (d.bkd.facts.get p).losses) } ∧
    im.resume = (d.plan.get p).map (resumeBlock c) ∧
    ((d.psq.get p).blocking.journalFail = false → im.commit = .queued .resume ∨ im.commit = .inFlight .resume) ∧
    ((d.psq.get p).blocking.journalFail = true → im.commit = .none) := by
  obtain ⟨hbody, hcycle, href, hresume, _, _⟩ := Image.keptOrTaken_body h
  refine ⟨hcycle, href, by rw [hbody]; simp [Dev.resumedImage, rebuiltImage, satAdd], hresume, fun hj => ?_, fun hj => ?_⟩
  all_goals
    have hcommit : (d.resumedImage p c b).commit = if d.journalFailed p then .none else .queued .resume := rfl
    simp only [Dev.journalFailed, hj] at hcommit
    rcases h with rfl | ⟨k, hk, rfl⟩
  · exact .inl hcommit
  · obtain rfl : Kind.resume = k := CommitStatus.queued.inj (hcommit.symm.trans hk)
    exact .inr rfl
  · exact hcommit
  · exact absurd (hcommit.symm.trans hk) (by simp)

theorem Dev.leaveWaitstart_facts (phase : Phase) : (d.leaveWaitstart p c phase).bkd.facts.get p = .clear := by
  rw [Dev.leaveWaitstart_eq]
  split
  · rcases (d.resumed p c phase).enterAnticrease_cases p c.guard c.bursts with ⟨_, heq⟩ | ⟨_, heq⟩ <;> rw [heq]
    · rcases (d.resumed p c phase).decideClosure_cases p .door with ⟨_, heq⟩ | ⟨_, heq⟩ <;>
        simp [heq, Dev.closureEffect_facts, Dev.resumed_bkd]
    · simp [Dev.resumed_bkd]
  · simp [Dev.resumed_bkd]

theorem Dev.resumed_journalFailed (phase : Phase) : (d.resumed p c phase).journalFailed p = d.journalFailed p := by
  simp [Dev.journalFailed, Dev.resumed_psq]

theorem Dev.resumed_mainsPresent (phase : Phase) : (d.resumed p c phase).mainsPresent = d.mainsPresent := by
  simp [Dev.mainsPresent, Dev.resumed_bkd]

/-- A choice of COOL takes the pocket to COOLING (R46). -/
theorem Dev.leaveWaitstart_cool (hc : c.outcome = .cool) (hb : (d.journal.get p).basis = some b)
    (h : (d.leaveWaitstart p c .cooling).LeavesPocket p d') : d.leavesWaitstart p c b d' := by
  have heq : d.leaveWaitstart p c .cooling = d.resumed p c .cooling := Dev.leaveWaitstart_eq ..
  refine ⟨h.facts.trans (Dev.leaveWaitstart_facts _), fun _ => ⟨?_, fun hg => ?_, ?_⟩, fun hg => ?_⟩
  · rw [h.psq, heq, Dev.resumed_psq, Per.set_get_self, if_pos hc]; rfl
  · simp [hc] at hg
  · obtain ⟨im, him, hkept⟩ := h.image.2 _ (heq ▸ Dev.resumed_image hb)
    obtain ⟨hcycle, href, hbody, hresume, hq, hnone⟩ := Dev.resumedImage_kept hkept
    refine ⟨im, him, hcycle, href, ?_, hresume, hq, hnone⟩
    rw [hbody, if_pos hc]
    simp [installFigures, hc]
  · simp [hc] at hg

/-- A choice of GUARD takes the pocket to ANTICREASE, or closes it with DOOR where the door reads OPEN (R46, R48). -/
theorem Dev.leaveWaitstart_guard (hc : c.outcome = .guard) (hb : (d.journal.get p).basis = some b)
    (hp : d.mainsPresent = true) (h : (d.leaveWaitstart p c .anticrease).LeavesPocket p d') :
    d.leavesWaitstart p c b d' := by
  have hne : c.outcome ≠ .cool := by simp [hc]
  have heq : d.leaveWaitstart p c .anticrease = (d.resumed p c .anticrease).enterAnticrease p c.guard c.bursts :=
    Dev.leaveWaitstart_eq ..
  have hdoor : ((d.resumed p c .anticrease).psq.get p).doorOpen = (d.psq.get p).doorOpen := by simp [Dev.resumed_psq]
  refine ⟨h.facts.trans (Dev.leaveWaitstart_facts _), fun hclosed => ?_, fun _ hopen => ?_⟩
  · have hclosed := hclosed.resolve_left hne
    have hstart : d.leaveWaitstart p c .anticrease = (d.resumed p c .anticrease).startTumbler p c.guard c.bursts := by
      rw [heq, Dev.enterAnticrease, if_neg (by simp [hdoor, hclosed])]
    refine ⟨?_, fun _ => ?_, ?_⟩
    · rw [h.psq, hstart, if_neg hne, Dev.startTumbler_frame .. |>.2.2.2.2.2.2.2.2.1, Dev.resumed_psq, Per.set_get_self]
      rfl
    · rw [h.tmb, hstart, Dev.startTumbler_tmb, Per.set_get_self, Dev.resumed_mainsPresent, hp, if_pos rfl]
    · obtain ⟨im, him, hkept⟩ := h.image.2 (d.resumedImage p c b) (by rw [hstart]; simpa using Dev.resumed_image hb)
      obtain ⟨hcycle, href, hbody, hresume, hq, hnone⟩ := Dev.resumedImage_kept hkept
      refine ⟨im, him, hcycle, href, ?_, hresume, hq, hnone⟩
      rw [hbody, if_neg hne]
      simp [installFigures, hc]
  · have hclose : d.leaveWaitstart p c .anticrease = (d.resumed p c .anticrease).decideClosure p .door := by
      rw [heq, Dev.enterAnticrease, if_pos (by simp [hdoor, hopen])]
    refine ⟨by rw [h.tmb, hclose, Dev.decideClosure_tmb, Per.set_get_self]; rfl, fun hj => ?_, fun hj => ?_⟩
    · obtain ⟨hpsq, _⟩ := Dev.decideClosure_marks (d := d.resumed p c .anticrease) (p := p) .door
        ((Dev.resumed_journalFailed _).trans hj)
      rw [h.psq, hclose, hpsq]
      simp [Dev.resumed_psq, Phase.pocketState]
    · obtain ⟨hvacant, hnone, _, _⟩ := Dev.decideClosure_vacates (d := d.resumed p c .anticrease) (p := p) (reason := .door)
        rfl ((Dev.resumed_journalFailed _).trans hj)
      exact ⟨by rw [h.psq, hclose]; exact hvacant, h.image.1 (by rw [hclose]; exact hnone)⟩

end Leaves

/-! ### The start test of both pockets, as `Dev.startTested` spells it out -/

/-- Two parts in which a pocket waits alike: its sequencer, facts, plan record and journal are the same. -/
structure Dev.WaitsAlike (p : Pocket) (d e : Dev) : Prop where
  psq : e.psq.get p = d.psq.get p
  facts : e.bkd.facts.get p = d.bkd.facts.get p
  plan : e.plan.get p = d.plan.get p
  journal : e.journal.get p = d.journal.get p

theorem Dev.WaitsAlike.startTested {p : Pocket} {d e d' : Dev} (h : d.WaitsAlike p e) (ht : e.startTested p d') :
    d.startTested p d' := by
  simpa only [Dev.startTested, Dev.leavesWaitstart, h.psq, h.facts, h.plan, h.journal] using ht

theorem Dev.runningFree_iff (d : Dev) : d.runningFree = true ↔ d.run = .run ∧ d.link.resetHold = false := by
  simp [Dev.runningFree]

theorem Dev.mainsPresent_iff (d : Dev) : d.mainsPresent = true ↔ d.bkd.monitor.state = .present := by
  simp [Dev.mainsPresent]

theorem Dev.startTest_tested {p : Pocket} {d d' : Dev} (hr : d.runningFree = true) (hp : d.mainsPresent = true)
    (hready : d.reserve.ready = true) (h : (d.startTest p).LeavesPocket p d') : d.startTested p d' := by
  constructor
  · intro c b hstate hchoice hout hb
    rcases hout with hc | hc
    · have heq : d.startTest p = d.leaveWaitstart p c .cooling := by
        simp [Dev.startTest, hr, hp, hready, hstate, hchoice, hc]
      exact Dev.leaveWaitstart_cool hc hb (heq ▸ h)
    · have heq : d.startTest p = d.leaveWaitstart p c .anticrease := by
        simp [Dev.startTest, hr, hp, hready, hstate, hchoice, hc]
      exact Dev.leaveWaitstart_guard hc hb hp (heq ▸ h)
  · intro hstays
    rcases d.startTest_cases p with heq | ⟨_, hstate, _, _, c, hc, hout⟩
    · rw [heq] at h
      exact ⟨h.psq, h.facts⟩
    · rcases hstays with hne | hnone
      · exact absurd hstate hne
      · rcases hout with ⟨ho, _⟩ | ⟨ho, _⟩
        · exact absurd ho (hnone c hc).1
        · exact absurd ho (hnone c hc).2

theorem Dev.startTest_waitsAlike {p q : Pocket} (d : Dev) (hq : q ≠ p) : d.WaitsAlike q (d.startTest p) :=
  ⟨(d.startTest_leaves hq).psq, (d.startTest_leaves hq).facts, by simp, by simp⟩

theorem Dev.startTest_link_of_not {p : Pocket} {d : Dev}
    (h : d.runningFree = false ∨ d.mainsPresent = false ∨ d.reserve.ready = false) : d.startTest p = d := by
  rcases d.startTest_cases p with heq | ⟨hr, _, hp, hready, _⟩
  · exact heq
  · simp [hr, hp, hready] at h

/-- With its conditions not met no start test is made. -/
theorem Dev.startTests_of_not {d : Dev}
    (h : d.runningFree = false ∨ d.mainsPresent = false ∨ d.reserve.ready = false) : d.startTests = d := by
  rw [Dev.startTests, Dev.startTest_link_of_not h, Dev.startTest_link_of_not h]

theorem Dev.resumed_link (p : Pocket) (c : Choice) (phase : Phase) (d : Dev) : (d.resumed p c phase).link = d.link := by
  simp [Dev.resumed]

theorem Dev.leaveWaitstart_answers (p : Pocket) (c : Choice) (phase : Phase) (d : Dev) :
    d.link.Answers (d.leaveWaitstart p c phase).link := by
  rw [Dev.leaveWaitstart_eq]
  split
  · exact d.resumed_link p c phase ▸ Dev.enterAnticrease_answers _ _ _ _
  · exact .of_eq (d.resumed_link p c phase)

theorem Dev.leaveWaitstart_factsOnly (p : Pocket) (c : Choice) (phase : Phase) (d : Dev) :
    d.FactsOnly (d.leaveWaitstart p c phase) := by
  have hresumed : d.FactsOnly (d.resumed p c phase) := by rw [Dev.FactsOnly, Dev.resumed_bkd]
  rw [Dev.leaveWaitstart_eq]
  split
  · exact hresumed.trans (Dev.enterAnticrease_factsOnly _ _ _ _)
  · exact hresumed

theorem Dev.startTest_answers (p : Pocket) (d : Dev) : d.link.Answers (d.startTest p).link := by
  rcases d.startTest_cases p with heq | ⟨_, _, _, _, c, _, ⟨_, heq⟩ | ⟨_, heq⟩⟩ <;> rw [heq]
  · exact .of_eq rfl
  all_goals exact Dev.leaveWaitstart_answers ..

theorem Dev.startTest_factsOnly (p : Pocket) (d : Dev) : d.FactsOnly (d.startTest p) := by
  rcases d.startTest_cases p with heq | ⟨_, _, _, _, c, _, ⟨_, heq⟩ | ⟨_, heq⟩⟩ <;> rw [heq]
  · exact .of_eq rfl
  all_goals exact Dev.leaveWaitstart_factsOnly ..

theorem Dev.select_answers (d : Dev) : d.link.Answers d.select.link := d.select_link.answers

theorem Dev.startTests_answers (d : Dev) : d.link.Answers d.startTests.link :=
  (Dev.startTest_answers .a d).trans (Dev.startTest_answers .b _)

theorem Dev.startTests_factsOnly (d : Dev) : d.FactsOnly d.startTests :=
  (Dev.startTest_factsOnly .a d).trans (Dev.startTest_factsOnly .b _)

/-- Where the conditions of R139 on the supply and the reserve hold, the start test is made on both pockets. -/
theorem Dev.startTests_tested {d d' : Dev} (hr : d.runningFree = true) (hp : d.mainsPresent = true)
    (hready : d.reserve.ready = true) (h : ∀ p, d.startTests.LeavesPocket p d') (p : Pocket) : d.startTested p d' := by
  cases p with
  | a =>
    exact Dev.startTest_tested hr hp hready (((d.startTest .a).startTest_leaves (p := .b) (by decide)).trans (h .a))
  | b =>
    refine (d.startTest_waitsAlike (p := .a) (by decide)).startTested (Dev.startTest_tested ?_ ?_ ?_ (h .b))
    · simpa [Dev.runningFree, (Dev.startTest_answers .a d).resetHold] using hr
    · rw [Dev.mainsPresent, Dev.startTest_factsOnly .a d]; exact hp
    · simpa using hready

end Sys2Proof.Machine
end

section
/-! The grant, the period boundary and the reserve result (O12, O33, O35). -/

namespace Sys2Proof.Machine

/-! ### The grant (R143) -/

theorem Dev.grantReady_iff (d : Dev) : d.grantReady = true ↔ d.run = .run ∧ d.link.resetHold = false ∧
    d.bkd.monitor.state = .present ∧ d.reserve.ready = true ∧
    (if 8 ≤ d.bkd.confidence then 20 else 45) ≤ d.arbiter.stagger := by
  simp [Dev.grantReady, Dev.runningFree_iff, Dev.mainsPresent, Dev.staggerLength, Dev.steady, and_assoc]

/-- The part as the grant to the head of the queue leaves it, before the engine selects. -/
def Dev.granted (p : Pocket) (rest : List Pocket) (c : Choice) (d : Dev) : Dev :=
  (d.setArbiter ⟨rest, 0⟩).resumed p c .drying

theorem exec_heaterGrant_of_ready {s : State} {p : Pocket} {rest : List Pocket} {c : Choice}
    (hq : s.dev.arbiter.queue = p :: rest) (hready : s.dev.grantReady = true)
    (hc : (s.dev.psq.get p).choice = some c) :
    exec .heaterGrant s = .next { s with dev := (s.dev.granted p rest c).select } := by
  show Host.Outcome.next _ = _
  simp only [heaterGrant, hq, hready, if_true, hc]
  rfl

theorem exec_heaterGrant_of_not {s : State} (hready : s.dev.grantReady = false) : exec .heaterGrant s = .next s := by
  show Host.Outcome.next _ = _
  unfold heaterGrant
  split
  · rfl
  · rw [if_neg (by simp [hready])]

theorem Dev.granted_frame (p : Pocket) (rest : List Pocket) (c : Choice) (d : Dev) :
    (d.granted p rest c).select.arbiter = ⟨rest, 0⟩ ∧
    (d.granted p rest c).select.psq =
      d.psq.set p { d.psq.get p with state := .drying, startKind := .warm, choice := none } ∧
    (d.granted p rest c).select.bkd = { d.bkd with facts := d.bkd.facts.set p .clear } ∧
    (d.granted p rest c).select = { d with
      arbiter := (d.granted p rest c).select.arbiter, psq := (d.granted p rest c).select.psq
      bkd := (d.granted p rest c).select.bkd, image := (d.granted p rest c).select.image
      engine := (d.granted p rest c).select.engine, ring := (d.granted p rest c).select.ring
      journal := (d.granted p rest c).select.journal, link := (d.granted p rest c).select.link } := by
  refine ⟨by simp [Dev.granted, Dev.resumed], by simp [Dev.granted, Dev.resumed_psq, Phase.pocketState],
    by simp [Dev.granted, Dev.resumed_bkd], ?_⟩
  apply Dev.ext <;> simp [Dev.granted, Dev.resumed]

/-! ### The period boundary (R154, R158) -/

theorem Dev.applyStaged_frame (p : Pocket) (h : GuardProgram) (d : Dev) :
    d.applyStaged p h = { d with tmb := (d.applyStaged p h).tmb, image := (d.applyStaged p h).image } := by
  apply Dev.ext <;> simp [Dev.applyStaged]

theorem Dev.writeBody_image_other {p q : Pocket} (f : Body → Body) (d : Dev) (hq : q ≠ p) :
    (d.writeBody p f).image.get q = d.image.get q := by
  simp [Dev.writeBody, Dev.modImage, Per.set_get_of_ne _ _ hq]

section
variable {s : State} {p : Pocket} {g h : GuardProgram} (hrest : (s.dev.tmb.get p).state = .rest)
  (hactive : (s.dev.tmb.get p).active = some g)
include hrest hactive

theorem exec_periodBoundary_early (hearly : (s.dev.tmb.get p).position < g.period) :
    exec (.periodBoundary p) s = .next s := by
  show Host.Outcome.next _ = _
  simp [Machine.periodBoundary, hrest, hactive, Nat.not_le.2 hearly]

theorem exec_periodBoundary_unstaged (hreached : g.period ≤ (s.dev.tmb.get p).position)
    (hnone : (s.dev.tmb.get p).staged = none) :
    exec (.periodBoundary p) s =
      .next { s with dev := s.dev.setTmb p { s.dev.tmb.get p with state := .burst, position := 0 } } := by
  show Host.Outcome.next _ = _
  simp [Machine.periodBoundary, hrest, hactive, hreached, hnone]

theorem exec_periodBoundary_staged (hreached : g.period ≤ (s.dev.tmb.get p).position)
    (hstaged : (s.dev.tmb.get p).staged = some h) :
    exec (.periodBoundary p) s = .next { s with dev := s.dev.applyStaged p h } := by
  show Host.Outcome.next _ = _
  simp [Machine.periodBoundary, hrest, hactive, hreached, hstaged]

end

/-! ### The reserve result (R9 to R11) -/

theorem Dev.raiseDevice_raises (f : DeviceFault) (d : Dev) : (d.raiseDevice f).faults.has f = true ∧
    (d.faults.has f = false → (d.raiseDevice f).link.attention.fault = true) := by
  rcases d.raiseDevice_cases f with ⟨hf, heq⟩ | ⟨hf, heq⟩ <;> rw [heq]
  · exact ⟨hf, by simp [hf]⟩
  · exact ⟨by cases f <;> rfl, fun _ => rfl⟩

theorem Dev.raiseDevice_answers (f : DeviceFault) (d : Dev) : d.link.Answers (d.raiseDevice f).link := by
  rcases d.raiseDevice_cases f with ⟨_, heq⟩ | ⟨_, heq⟩ <;> rw [heq]
  · exact .of_eq rfl
  · exact Dev.raiseCause_answers _ _

/-- What RESERVE_LOW does in RUN (R11). -/
theorem Dev.noteReady_of_run {d : Dev} {before after : Bool} (hrun : d.run = .run) :
    (before = true → after = false → (d.noteReady before after).faults.reserveLow = true ∧
      (d.faults.reserveLow = false → (d.noteReady before after).link.attention.fault = true)) ∧
    (before = false → after = true → (d.noteReady before after).faults.reserveLow = false) ∧
    (after = before → d.noteReady before after = d) := by
  refine ⟨fun hb ha => ?_, fun hb ha => ?_, fun h => ?_⟩
  · have heq : d.noteReady before after = d.raiseDevice .reserveLow := by simp [Dev.noteReady, hrun, hb, ha]
    rw [heq]
    exact d.raiseDevice_raises .reserveLow
  · have heq : d.noteReady before after = d.clearDevice .reserveLow := by simp [Dev.noteReady, hrun, hb, ha]
    rw [heq]
    rfl
  · cases before <;> simp [Dev.noteReady, hrun, h]

theorem Dev.noteReady_of_not_run {d : Dev} (x y : Bool) (hrun : d.run ≠ .run) : d.noteReady x y = d := by
  simp [Dev.noteReady, hrun]

theorem Dev.noteReady_cases (x y : Bool) (d : Dev) : d.noteReady x y = d ∨
    d.noteReady x y = d.raiseDevice .reserveLow ∨ d.noteReady x y = d.clearDevice .reserveLow := by
  unfold Dev.noteReady
  (repeat' split) <;> simp

theorem Dev.noteReady_answers (x y : Bool) (d : Dev) : d.link.Answers (d.noteReady x y).link := by
  rcases d.noteReady_cases x y with heq | heq | heq <;> rw [heq]
  · exact .of_eq rfl
  · exact Dev.raiseDevice_answers _ _
  · exact .of_eq (by simp)

/-- The part as a reserve result leaves it, before the start tests. -/
def Dev.reserveNoted (level : Nat) (d : Dev) : Dev :=
  ((d.setReserve ⟨level, nextReady d.reserve.ready level⟩).setAdc d.adc.endReserve).noteReady d.reserve.ready
    (nextReady d.reserve.ready level)

/-- RESERVE_LOW is a device fault: beside the reserve and the ADC only the fault set and the link move. -/
@[simp] theorem Dev.reserveNoted_frame (level : Nat) (d : Dev) :
    (d.reserveNoted level).pins = d.pins ∧ (d.reserveNoted level).bkd = d.bkd ∧ (d.reserveNoted level).run = d.run ∧
    (d.reserveNoted level).settle = d.settle ∧
    (d.reserveNoted level).reserve = ⟨level, nextReady d.reserve.ready level⟩ ∧
    (d.reserveNoted level).adc = d.adc.endReserve ∧ (d.reserveNoted level).sns = d.sns ∧
    (d.reserveNoted level).psq = d.psq ∧ (d.reserveNoted level).image = d.image ∧
    (d.reserveNoted level).engine = d.engine ∧ (d.reserveNoted level).ring = d.ring ∧
    (d.reserveNoted level).scan = d.scan ∧ (d.reserveNoted level).journal = d.journal ∧
    (d.reserveNoted level).plan = d.plan ∧ (d.reserveNoted level).arbiter = d.arbiter ∧
    (d.reserveNoted level).tmb = d.tmb ∧ (d.reserveNoted level).freeCount = d.freeCount := by
  rcases Dev.noteReady_cases d.reserve.ready (nextReady d.reserve.ready level)
    ((d.setReserve ⟨level, nextReady d.reserve.ready level⟩).setAdc d.adc.endReserve) with heq | heq | heq <;>
    simp [Dev.reserveNoted, heq]

theorem Dev.reserveNoted_answers (level : Nat) (d : Dev) : d.link.Answers (d.reserveNoted level).link :=
  Dev.noteReady_answers _ _ ((d.setReserve ⟨level, nextReady d.reserve.ready level⟩).setAdc d.adc.endReserve)

theorem exec_reserveResult_of_underWay {s : State} {level : Nat} (hlevel : level ≤ 600) (hrun : s.dev.run ≠ .backup)
    (hway : s.dev.adc.reserveUnderWay = true) :
    exec (.reserveResult level) s = .next { s with dev := (s.dev.reserveNoted level).startTests.select } := by
  show Host.Outcome.next _ = _
  rw [reserveResult, if_pos (by simp [Dev.powered, hrun, hway]), Nat.min_eq_left hlevel]
  rfl

theorem exec_reserveResult_of_none {s : State} (level : Nat) (hway : s.dev.adc.reserveUnderWay = false) :
    exec (.reserveResult level) s = .next s := by
  show Host.Outcome.next _ = _
  rw [reserveResult, if_neg (by simp [hway])]

theorem Adc.reserveUnderWay_iff (a : Adc) :
    a.reserveUnderWay = true ↔ a.running = some .reserve ∨ a.reserveWaits = true := by
  simp [Adc.reserveUnderWay]

theorem nextReady_iff (ready : Bool) (level : Nat) :
    nextReady ready level = true ↔ ready = false ∧ 460 ≤ level ∨ ready = true ∧ 440 ≤ level := by
  cases ready <;> simp [nextReady]

theorem Dev.select_of_not_run {d : Dev} (h : d.run ≠ .run) : d.select = d := by
  simp [Dev.select, Dev.runningFree, h]

/-- The ADC after a reserve conversion that ended with another reserve conversion waiting, and with none (R9). -/
theorem Adc.endReserve_waits {a : Adc} (hr : a.running = some .reserve) (hw : a.reserveWaits = true) :
    a.endReserve = { a with reserveWaits := false } := by
  rcases a.endReserve_cases with ⟨_, heq⟩ | ⟨hne, _⟩
  · rw [heq, Adc.handOn_of_reserveWaits hw]
    rw [← hr]
  · exact absurd hr hne

/-- Every other reserve result leaves the ADC to a waiting thermistor conversion, or free. -/
theorem Adc.endReserve_alone {a : Adc} (h : a.running ≠ some .reserve ∨ a.reserveWaits = false) :
    a.endReserve = Adc.handOn { a with reserveWaits := false } := by
  rcases a.endReserve_cases with ⟨hr, heq⟩ | ⟨_, heq⟩
  · rw [heq, ← h.resolve_left (not_not_intro hr)]
  · exact heq

theorem Adc.handOn_free {a : Adc} (hr : a.reserveWaits = false) (ht : a.thermistorWaits = .both false) :
    a.handOn = { a with running := none } := by
  simp [Adc.handOn, hr, ht, Per.both]

theorem Adc.handOn_thermistor {a : Adc} {p : Pocket} (hr : a.reserveWaits = false)
    (ht : a.thermistorWaits = (Per.both false).set p true) :
    a.handOn = ⟨some (.thermistor p), false, .both false, a.started.set p (a.started.get p + 1), a.sinceMs.set p 0,
      a.reserveMs⟩ := by
  cases p <;> simp [Adc.handOn, hr, ht, Per.both, Per.set, Adc.begin]

/-- RESERVE_LOW after a result in RUN (R11). -/
theorem Dev.reserveNoted_of_run {d : Dev} {level : Nat} (hrun : d.run = .run) :
    (d.reserve.ready = true → level < 440 → (d.reserveNoted level).faults.reserveLow = true ∧
      (d.faults.reserveLow = false → (d.reserveNoted level).link.attention.fault = true)) ∧
    (d.reserve.ready = false → 460 ≤ level → (d.reserveNoted level).faults.reserveLow = false) ∧
    (nextReady d.reserve.ready level = d.reserve.ready → (d.reserveNoted level).faults = d.faults) := by
  obtain ⟨hfalls, hrises, hstays⟩ := Dev.noteReady_of_run (before := d.reserve.ready)
    (after := nextReady d.reserve.ready level)
    (d := (d.setReserve ⟨level, nextReady d.reserve.ready level⟩).setAdc d.adc.endReserve) hrun
  refine ⟨fun hready hlow => hfalls hready ?_, fun hready hhigh => hrises hready ?_, fun h => ?_⟩
  · simp [nextReady, hready, hlow]
  · simp [nextReady, hready, hhigh]
  · rw [Dev.reserveNoted, hstays h]
    rfl

end Sys2Proof.Machine

namespace Sys2Proof.Proofs
open Sys2Proof.Machine

/-- Settles O33: a grant is the head's leaving of WAITSTART to DRYING, and the engine's selection. -/
theorem heaterGrant : Obligations.HeaterGrant := by
  intro s p rest hq
  refine ⟨fun hrun hhold hpresent hready hstagger c b hc hout hb => ?_, fun hnot => ?_⟩
  · have hgrant := (Dev.grantReady_iff s.dev).2 ⟨hrun, hhold, hpresent, hready, hstagger⟩
    obtain ⟨harb, hpsq, hbkd, hframe⟩ := s.dev.granted_frame p rest c
    have him : (s.dev.granted p rest c).image.get p = some ((s.dev.setArbiter ⟨rest, 0⟩).resumedImage p c b) :=
      Dev.resumed_image hb
    obtain ⟨im, him', hkept⟩ := (Dev.select_image (s.dev.granted p rest c) p).2 _ him
    obtain ⟨hcycle, href, hbody, hresume, hcommit, _⟩ := Dev.resumedImage_kept hkept
    refine ⟨_, im, exec_heaterGrant_of_ready hq hgrant hc, harb, hpsq, hbkd, him', hcycle, ?_, href, ?_, hcommit, hframe⟩
    · rw [hbody]
      simp [installFigures, hout]
    · rw [hresume]
      unfold resumeBlock
      rw [hout]
      rfl
  · refine exec_heaterGrant_of_not (Bool.eq_false_iff.2 fun h => ?_)
    obtain ⟨h1, h2, h3, h4, h5⟩ := (Dev.grantReady_iff s.dev).1 h
    simp only [h1, h2, h3, h4, ne_eq, not_true, Bool.false_eq_true, Bool.true_eq_false, false_or] at hnot
    omega

/-- Settles O35: by whether the position has reached the period, and whether a program is staged. -/
theorem periodBoundary : Obligations.PeriodBoundary := by
  intro s p g hrest hactive
  refine ⟨fun hearly => exec_periodBoundary_early hrest hactive hearly, fun hreached =>
    ⟨fun hnone => exec_periodBoundary_unstaged hrest hactive hreached hnone, fun h hstaged =>
      ⟨_, exec_periodBoundary_staged hrest hactive hreached hstaged, by simp [Dev.applyStaged], fun q hq => ?_,
        fun im him => ?_, s.dev.applyStaged_frame p h⟩⟩⟩
  · simp [Dev.applyStaged, Dev.writeBody_image_other _ _ hq]
  · exact ⟨_, Dev.writeBody_image_of_some (fun b => { b with guard := h, burstsLeft := h.bursts }) him, Image.soil_eq _ _⟩

/-- Settles O12: by whether a reserve conversion is under way; in RUN the start tests are those of R139. -/
theorem reserveResult : Obligations.ReserveResult := by
  intro s level hlevel hrun
  refine ⟨fun h1 h2 => exec_reserveResult_of_none level ?_, fun hway => ?_⟩
  · simpa [Adc.reserveUnderWay, h2] using h1
  have hanswers := s.dev.reserveNoted_answers level
  have hfacts := (s.dev.reserveNoted level).startTests_factsOnly
  have hfree : (s.dev.reserveNoted level).runningFree = s.dev.runningFree := by
    simp [Dev.runningFree, hanswers.resetHold]
  have hpresent : (s.dev.reserveNoted level).mainsPresent = s.dev.mainsPresent := by simp [Dev.mainsPresent]
  refine ⟨_, exec_reserveResult_of_underWay hlevel hrun ((Adc.reserveUnderWay_iff _).2 hway), by simp,
    by simp [nextReady_iff], fun hr hw => by simp [Adc.endReserve_waits hr hw], fun h => ?alone,
    fun hrun => ?inRun, fun hne => ?notRun, by simpa [Dev.FactsOnly] using hfacts, by apply Dev.ext <;> simp⟩
  case alone =>
    simp only [Dev.select_frame, Dev.startTests_frame, Dev.reserveNoted_frame, Adc.endReserve_alone h]
    exact ⟨by simp, fun ht => Adc.handOn_free rfl ht, fun p ht => Adc.handOn_thermistor rfl ht⟩
  case inRun =>
    obtain ⟨hfalls, hrises, hstays⟩ := Dev.reserveNoted_of_run (level := level) hrun
    have hcauses := ((s.dev.reserveNoted level).startTests_answers.trans (Dev.select_answers _)).causes
    refine ⟨fun h1 h2 => ⟨by simpa using (hfalls h1 h2).1, fun h3 => hcauses.fault ((hfalls h1 h2).2 h3)⟩,
      fun h1 h2 => by simpa using hrises h1 h2, fun h => ?_, fun hhold hmains hr p => ?_, fun hnot => ?_⟩
    · simpa using hstays (by simpa using h)
    · refine Dev.WaitsAlike.startTested (e := s.dev.reserveNoted level) ⟨by simp, by simp, by simp, by simp⟩
        (Dev.startTests_tested ?_ ?_ (by simpa using hr) (fun q => Dev.select_leaves q _) p)
      · exact hfree.trans ((Dev.runningFree_iff _).2 ⟨hrun, hhold⟩)
      · exact hpresent.trans ((Dev.mainsPresent_iff _).2 hmains)
    · rw [Dev.startTests_of_not]
      · simp
      · rw [hfree, hpresent]
        refine hnot.imp (fun h => ?_) (Or.imp (fun h => ?_) fun h => by simpa using h)
        · simp [Dev.runningFree, h]
        · simpa [Dev.mainsPresent] using h
  case notRun =>
    have hnoted : s.dev.reserveNoted level =
        (s.dev.setReserve ⟨level, nextReady s.dev.reserve.ready level⟩).setAdc s.dev.adc.endReserve :=
      Dev.noteReady_of_not_run _ _ hne
    rw [Dev.startTests_of_not (.inl (by rw [hfree]; simp [Dev.runningFree, hne])),
      Dev.select_of_not_run (by simpa using hne), hnoted]
    rfl

end Sys2Proof.Proofs
end

section
/-! A closure of a pocket that waits, and the recomputation of its plan in RUN (R37, R45, R59). -/

namespace Sys2Proof.Machine

/-! ### What both leave of the other pocket, of the backup domain and of the link -/

section Leaves
variable {p q : Pocket} {d : Dev}

theorem Dev.rebuildForClosure_image_other (d : Dev) (hq : q ≠ p) : (d.rebuildForClosure p).image.get q = d.image.get q := by
  unfold Dev.rebuildForClosure
  split
  · rfl
  · simp [Per.set_get_of_ne _ _ hq]

/-- The part in which a waiting pocket's closure is decided: its choice and its grant entry gone, its image rebuilt. -/
def Dev.readyToClose (p : Pocket) (d : Dev) : Dev :=
  ((d.setPsq p { d.psq.get p with choice := none }).leaveGrantQueue p).rebuildForClosure p

theorem Dev.closeWaiting_eq (p : Pocket) (r : CloseReason) (d : Dev) :
    d.closeWaiting p r = (d.readyToClose p).decideClosure p r := rfl

@[simp] theorem Dev.readyToClose_frame (p : Pocket) (d : Dev) :
    (d.readyToClose p).bkd = d.bkd ∧ (d.readyToClose p).link = d.link ∧ (d.readyToClose p).tmb = d.tmb ∧
    (d.readyToClose p).psq = d.psq.set p { d.psq.get p with choice := none } := by
  simp [Dev.readyToClose]

theorem Dev.readyToClose_leaves (d : Dev) (hq : q ≠ p) : d.LeavesPocket q (d.readyToClose p) :=
  ⟨by simp [Per.set_get_of_ne _ _ hq], by simp, by simp,
    imageKept_of_eq (by simp [Dev.readyToClose, Dev.rebuildForClosure_image_other _ hq])⟩

theorem Dev.closeWaiting_leaves (r : CloseReason) (d : Dev) (hq : q ≠ p) : d.LeavesPocket q (d.closeWaiting p r) :=
  (d.readyToClose_leaves hq).trans (Dev.decideClosure_leaves r _ hq)

theorem Dev.closeWaiting_answers (p : Pocket) (r : CloseReason) (d : Dev) : d.link.Answers (d.closeWaiting p r).link := by
  simpa [Dev.closeWaiting_eq] using Dev.decideClosure_answers p r (d.readyToClose p)

theorem Dev.closeWaiting_factsOnly (p : Pocket) (r : CloseReason) (d : Dev) : d.FactsOnly (d.closeWaiting p r) := by
  simpa [Dev.FactsOnly, Dev.closeWaiting_eq] using Dev.decideClosure_factsOnly p r (d.readyToClose p)

theorem Dev.closeWaiting_arbiter (p : Pocket) (r : CloseReason) (d : Dev) :
    (d.closeWaiting p r).arbiter = { d.arbiter with queue := d.arbiter.queue.filter fun q => q != p } := by
  simp [Dev.closeWaiting, Dev.leaveGrantQueue]

/-! ### A closure of a waiting pocket without JOURNAL_FAIL -/

/-- The image of a closure of a waiting pocket: rebuilt from the basis, a CLOSE commit queued with its reason. -/
def Dev.closingImage (p : Pocket) (r : CloseReason) (b : Basis) (d : Dev) : Image :=
  { rebuiltImage false b.record (d.bkd.facts.get p).losses with commit := .queued .close, closeReason := some r }

theorem Dev.readyToClose_journalFailed (p : Pocket) (d : Dev) :
    (d.readyToClose p).journalFailed p = d.journalFailed p := by simp [Dev.journalFailed]

theorem Dev.closeWaiting_marks (r : CloseReason) (hj : d.journalFailed p = false) :
    (d.closeWaiting p r).psq = d.psq.set p { d.psq.get p with choice := none, mark := some r } := by
  rw [Dev.closeWaiting_eq, (Dev.decideClosure_marks r ((d.readyToClose_journalFailed p).trans hj)).1]
  simp [Per.set_set]

theorem Dev.closeWaiting_image {b : Basis} (r : CloseReason) (hj : d.journalFailed p = false)
    (hb : (d.journal.get p).basis = some b) :
    (d.closeWaiting p r).image.get p = some (d.closingImage p r b) := by
  have him : (d.readyToClose p).image.get p = some (rebuiltImage false b.record (d.bkd.facts.get p).losses) := by
    have hj' : ((d.setPsq p { d.psq.get p with choice := none }).leaveGrantQueue p).journalFailed p = false := by
      simpa [Dev.journalFailed] using hj
    simp [Dev.readyToClose, Dev.rebuildForClosure, hb, hj']
  rw [Dev.closeWaiting_eq, Dev.decideClosure_image r ((d.readyToClose_journalFailed p).trans hj) him, Per.set_get_self]
  rfl

theorem Dev.closeWaiting_bkd (r : CloseReason) (hj : d.journalFailed p = false) : (d.closeWaiting p r).bkd = d.bkd := by
  rw [Dev.closeWaiting_eq, Dev.decideClosure_bkd r ((d.readyToClose_journalFailed p).trans hj)]
  simp

/-! ### A recomputation -/

/-- The part that a recomputation computes its plan from: the choice and the grant entry are gone (R45, R132). -/
def Dev.unchosen (p : Pocket) (d : Dev) : Dev := (d.setPsq p { d.psq.get p with choice := none }).leaveGrantQueue p

theorem Dev.recompute_of_basis {b : Basis} (hb : (d.journal.get p).basis = some b) :
    d.recompute p = ((d.unchosen p).setPlan p (some ((d.unchosen p).computePlan p b.record))).actOnPlan p
      ((d.unchosen p).computePlan p b.record) := by
  simp [Dev.recompute, hb, Dev.unchosen]

/-- The choice is no input of a plan (R119). -/
theorem Dev.unchosen_computePlan (r : Record) : (d.unchosen p).computePlan p r = d.computePlan p r := by
  simp [Dev.computePlan, Dev.unchosen, Dev.tNow, decidePlan, Sequencer.blocked, Sequencer.advised]

theorem Dev.actOnPlan_leaves (pl : Plan) (d : Dev) (hq : q ≠ p) : d.LeavesPocket q (d.actOnPlan p pl) := by
  have hplanned : d.LeavesPocket q (d.becomePlanned p) :=
    ⟨by simp [Dev.becomePlanned, Per.set_get_of_ne _ _ hq], by simp [Dev.becomePlanned], by simp [Dev.becomePlanned],
      imageKept_of_eq (by simp [Dev.becomePlanned])⟩
  have hguard : d.LeavesPocket q (d.awaitGuard p pl) :=
    ⟨by simp [Dev.awaitGuard, Per.set_get_of_ne _ _ hq], by simp [Dev.awaitGuard], by simp [Dev.awaitGuard],
      imageKept_of_eq (by simp [Dev.awaitGuard])⟩
  unfold Dev.actOnPlan
  split
  · exact d.closeWaiting_leaves _ hq
  · exact hguard.trans (Dev.startTest_leaves _ hq)
  all_goals exact hplanned

theorem Dev.unchosen_leaves (d : Dev) (hq : q ≠ p) : d.LeavesPocket q (d.unchosen p) :=
  ⟨by simp [Dev.unchosen, Per.set_get_of_ne _ _ hq], by simp [Dev.unchosen], by simp [Dev.unchosen],
    imageKept_of_eq (by simp [Dev.unchosen])⟩

theorem Dev.recompute_leaves (d : Dev) (hq : q ≠ p) : d.LeavesPocket q (d.recompute p) := by
  cases hb : (d.journal.get p).basis with
  | none =>
    rw [show d.recompute p = d by simp [Dev.recompute, hb]]
    exact .refl q d
  | some b =>
    rw [Dev.recompute_of_basis hb]
    exact (d.unchosen_leaves hq).trans (Dev.LeavesPocket.trans
      (e := (d.unchosen p).setPlan p (some ((d.unchosen p).computePlan p b.record)))
      ⟨rfl, rfl, rfl, imageKept_of_eq rfl⟩ (Dev.actOnPlan_leaves _ _ hq))

theorem Dev.actOnPlan_plan (pl : Plan) (d : Dev) : (d.actOnPlan p pl).plan = d.plan := by
  unfold Dev.actOnPlan
  split <;> simp [Dev.awaitGuard, Dev.becomePlanned]

theorem Dev.recompute_plan {b : Basis} (hb : (d.journal.get p).basis = some b) :
    (d.recompute p).plan = d.plan.set p (some (d.computePlan p b.record)) := by
  rw [Dev.recompute_of_basis hb, Dev.actOnPlan_plan, Dev.unchosen_computePlan]
  simp [Dev.unchosen]

theorem Dev.recompute_plan_other (d : Dev) (hq : q ≠ p) : (d.recompute p).plan.get q = d.plan.get q := by
  cases hb : (d.journal.get p).basis with
  | none => rw [show d.recompute p = d by simp [Dev.recompute, hb]]
  | some b => rw [Dev.recompute_plan hb, Per.set_get_of_ne _ _ hq]

theorem Dev.actOnPlan_answers (pl : Plan) (d : Dev) : d.link.Answers (d.actOnPlan p pl).link := by
  unfold Dev.actOnPlan
  split
  · exact Dev.closeWaiting_answers _ _ _
  · have h := (Dev.raiseCause_answers .planReady
      (d.setPsq p { d.psq.get p with state := .waitstart, choice := some (choiceOfPlan pl) })).trans
      (Dev.startTest_answers p (d.awaitGuard p pl))
    simpa using h
  all_goals
    exact Dev.raiseCause_answers .planReady (d.setPsq p { d.psq.get p with state := .planned, choice := none })

/-- No pocket joins the grant queue by a recomputation. -/
theorem Dev.actOnPlan_queue (pl : Plan) (d : Dev) {x : Pocket} (hx : x ∈ (d.actOnPlan p pl).arbiter.queue) :
    x ∈ d.arbiter.queue := by
  unfold Dev.actOnPlan at hx
  split at hx
  · rw [Dev.closeWaiting_arbiter] at hx
    exact (List.mem_filter.1 hx).1
  · simpa [Dev.awaitGuard] using hx
  all_goals simpa [Dev.becomePlanned] using hx

theorem Dev.recompute_queue (d : Dev) {x : Pocket} (hx : x ∈ (d.recompute p).arbiter.queue) : x ∈ d.arbiter.queue := by
  cases hb : (d.journal.get p).basis with
  | none => simpa [Dev.recompute, hb] using hx
  | some b =>
    rw [Dev.recompute_of_basis hb] at hx
    have h := Dev.actOnPlan_queue _ _ hx
    simp only [Dev.setPlan_arbiter, Dev.unchosen, Dev.leaveGrantQueue, Dev.setArbiter_arbiter, Dev.setPsq_arbiter,
      List.mem_filter] at h
    exact h.1

/-- A CLOSE plan closes the pocket (R45). -/
theorem Dev.recompute_close {b : Basis} (hb : (d.journal.get p).basis = some b) (hj : d.journalFailed p = false)
    (hclose : (d.computePlan p b.record).outcome = .close) :
    (d.recompute p).psq = d.psq.set p { d.psq.get p with
      choice := none, mark := some (d.computePlan p b.record).reason.closeReason } ∧
    (d.recompute p).image.get p = some (d.closingImage p (d.computePlan p b.record).reason.closeReason b) ∧
    (d.recompute p).bkd = d.bkd ∧ p ∉ (d.recompute p).arbiter.queue := by
  have heq := Dev.recompute_of_basis hb
  rw [Dev.unchosen_computePlan] at heq
  simp only [Dev.actOnPlan, hclose] at heq
  have hj' : ((d.unchosen p).setPlan p (some (d.computePlan p b.record))).journalFailed p = false := by
    simpa [Dev.unchosen, Dev.journalFailed] using hj
  rw [heq]
  refine ⟨?_, ?_, ?_, ?_⟩
  · rw [Dev.closeWaiting_marks _ hj']
    simp [Dev.unchosen, Per.set_set]
  · rw [Dev.closeWaiting_image (b := b) _ hj' (by simpa [Dev.unchosen] using hb)]
    simp [Dev.closingImage, Dev.unchosen]
  · rw [Dev.closeWaiting_bkd _ hj']
    simp [Dev.unchosen]
  · rw [Dev.closeWaiting_arbiter]
    simp

end Leaves

/-! ### The sample mark (R28, R49) -/

section Mark
variable {p q : Pocket} {d : Dev}

theorem exec_doorSampleMark {s : State} (hpow : s.dev.bkd.powered = true) :
    exec .doorSampleMark s = .next { s with dev := ((s.dev.sampleDoor .a).sampleDoor .b).select } := by
  show Host.Outcome.next _ = _
  rw [doorSampleMark, if_pos hpow]

theorem Dev.latchReport_cases (p : Pocket) (d : Dev) : d.latchReport p = d ∨ d.latchReport p = d.recompute p := by
  unfold Dev.latchReport
  split
  · exact .inr rfl
  · exact .inl rfl

theorem Dev.sampleDoor_cases (p : Pocket) (d : Dev) :
    (d.latches p = false ∧ d.sampleDoor p = d) ∨
    (d.latches p = true ∧
      d.sampleDoor p = (d.setFacts p { d.bkd.facts.get p with latch := true }).latchReport p) := by
  unfold Dev.sampleDoor
  split
  · next h => exact .inr ⟨h, rfl⟩
  · next h => exact .inl ⟨by simpa using h, rfl⟩

/-- What a sample mark at one pocket leaves of the part. -/
@[simp] theorem Dev.sampleDoor_frame (p : Pocket) (d : Dev) :
    (d.sampleDoor p).pins = d.pins ∧ (d.sampleDoor p).run = d.run ∧ (d.sampleDoor p).settle = d.settle ∧
    (d.sampleDoor p).reserve = d.reserve ∧ (d.sampleDoor p).adc = d.adc ∧ (d.sampleDoor p).faults = d.faults ∧
    (d.sampleDoor p).sns = d.sns ∧ (d.sampleDoor p).scan = d.scan ∧ (d.sampleDoor p).ring = d.ring ∧
    (d.sampleDoor p).journal = d.journal ∧ (d.sampleDoor p).freeCount = d.freeCount := by
  rcases d.sampleDoor_cases p with ⟨_, heq⟩ | ⟨_, heq⟩
  · simp [heq]
  · rcases Dev.latchReport_cases p (d.setFacts p { d.bkd.facts.get p with latch := true }) with h | h <;>
      simp [heq, h]

theorem Dev.sampleDoor_leaves (d : Dev) (hq : q ≠ p) : d.LeavesPocket q (d.sampleDoor p) := by
  have hset : d.LeavesPocket q (d.setFacts p { d.bkd.facts.get p with latch := true }) :=
    ⟨rfl, by simp [Per.set_get_of_ne _ _ hq], rfl, imageKept_of_eq rfl⟩
  rcases d.sampleDoor_cases p with ⟨_, heq⟩ | ⟨_, heq⟩ <;> rw [heq]
  · exact .refl q d
  · rcases Dev.latchReport_cases p (d.setFacts p { d.bkd.facts.get p with latch := true }) with h | h <;> rw [h]
    · exact hset
    · exact hset.trans (Dev.recompute_leaves _ hq)

theorem Dev.sampleDoor_plan_other (d : Dev) (hq : q ≠ p) : (d.sampleDoor p).plan.get q = d.plan.get q := by
  rcases d.sampleDoor_cases p with ⟨_, heq⟩ | ⟨_, heq⟩ <;> rw [heq]
  rcases Dev.latchReport_cases p (d.setFacts p { d.bkd.facts.get p with latch := true }) with h | h <;> rw [h]
  · rfl
  · exact Dev.recompute_plan_other _ hq

theorem Dev.sampleDoor_queue (d : Dev) {x : Pocket} (hx : x ∈ (d.sampleDoor p).arbiter.queue) : x ∈ d.arbiter.queue := by
  rcases d.sampleDoor_cases p with ⟨_, heq⟩ | ⟨_, heq⟩ <;> rw [heq] at hx
  · exact hx
  · rcases Dev.latchReport_cases p (d.setFacts p { d.bkd.facts.get p with latch := true }) with h | h <;> rw [h] at hx
    · exact hx
    · simpa using Dev.recompute_queue _ hx

/-- A latch setting that is not reported, or is disregarded, is all of the mark (R28). -/
theorem Dev.sampleDoor_of_disregarded
    (h : d.run ≠ .run ∨ (d.psq.get p).state.waiting = false ∨ (d.psq.get p).mark ≠ none) :
    d.sampleDoor p = if d.latches p then d.setFacts p { d.bkd.facts.get p with latch := true } else d := by
  have hreport (f : Facts) : (d.setFacts p f).latchReport p = d.setFacts p f := by
    unfold Dev.latchReport
    rw [if_neg]
    simp only [Bool.and_eq_true, Classical.not_and_iff_not_or_not]
    rcases h with h | h | h <;> simp [h]
  unfold Dev.sampleDoor
  split
  · exact hreport _
  · rfl

/-- What one sample makes of a pocket's facts: a watched pocket whose door reads open has its latch set (R28). -/
def Facts.doorSampled (isOpen : Bool) (f : Facts) : Facts :=
  if f.stallRunning ∧ isOpen then { f with latch := true } else f

/-- Setting a latch that is set already changes nothing. -/
theorem Dev.latched_facts (p : Pocket) (d : Dev) :
    (if d.latches p then d.setFacts p { d.bkd.facts.get p with latch := true } else d) =
      { d with bkd := { d.bkd with
        facts := d.bkd.facts.set p ((d.bkd.facts.get p).doorSampled (d.pins.doorOpen.get p)) } } := by
  have hsame (h : (d.bkd.facts.get p).latch = true) :
      ({ d.bkd.facts.get p with latch := true } : Facts) = d.bkd.facts.get p := by rw [← h]
  unfold Dev.latches Facts.doorSampled
  by_cases hw : (d.bkd.facts.get p).stallRunning = true ∧ d.pins.doorOpen.get p = true
  · rw [if_pos hw]
    cases hl : (d.bkd.facts.get p).latch with
    | false => simp [hw, Dev.setFacts, Dev.setBkd]
    | true => simp [hsame hl]
  · rw [if_neg hw, if_neg (by simp only [Bool.and_eq_true]; exact fun h => hw h.1)]
    simp

/-- A pocket that a sample mark closes: it waits without a mark, its latch is set now, and every gate before the latch's
passes (R49, R123, R124). -/
structure Dev.ClosesByLatch (p : Pocket) (b : Basis) (d : Dev) : Prop where
  run : d.run = .run
  latches : d.latches p = true
  waiting : (d.psq.get p).state.waiting = true
  mark : (d.psq.get p).mark = none
  warm : (d.psq.get p).startKind = .warm
  suspended : (d.bkd.facts.get p).suspended = true
  clear : (d.psq.get p).blocking = .empty
  lenient : (d.psq.get p).strict = false ∨ (d.psq.get p).advisory = .empty
  basis : (d.journal.get p).basis = some b

/-- The latch's gate: a CLOSE plan with reason DOOR (R124). -/
theorem decidePlan_of_latch {pr : Params} {q : Sequencer} {f : Facts} {tNow : Option Int} {r : Record}
    (hwarm : q.startKind = .warm) (hsus : f.suspended = true) (hclear : q.blocking = .empty)
    (hlenient : q.strict = false ∨ q.advisory = .empty) (hlatch : f.latch = true) :
    decidePlan pr q f tNow r = basisPlan r f tNow .close .door := by
  have hstrict : (q.strict && q.advised) = false := by
    rcases hlenient with h | h <;> simp [Sequencer.advised, h]
  simp [decidePlan, hwarm, hsus, Sequencer.blocked, hclear, hstrict, hlatch]

/-- The pocket is replanned CLOSE DOOR and closed (R45, R49). -/
theorem Dev.ClosesByLatch.sampled {b : Basis} (h : d.ClosesByLatch p b) :
    (∃ pl, (d.sampleDoor p).plan.get p = some pl ∧ pl.outcome = .close ∧ pl.reason = .door ∧ pl.latch = true ∧
      pl.stall = (d.bkd.facts.get p).stall) ∧
    (d.sampleDoor p).psq.get p = { d.psq.get p with choice := none, mark := some .door } ∧
    (∃ im, (d.sampleDoor p).image.get p = some im) ∧ p ∉ (d.sampleDoor p).arbiter.queue := by
  have heq : d.sampleDoor p = (d.setFacts p { d.bkd.facts.get p with latch := true }).recompute p := by
    rw [Dev.sampleDoor, if_pos h.latches, Dev.latchReport, if_pos]
    simp [h.run, h.waiting, h.mark]
  have hplan : (d.setFacts p { d.bkd.facts.get p with latch := true }).computePlan p b.record =
      basisPlan b.record { d.bkd.facts.get p with latch := true }
        ((d.setFacts p { d.bkd.facts.get p with latch := true }).tNow p) .close .door := by
    have hdecide := decidePlan_of_latch (pr := d.link.params) (q := d.psq.get p)
      (f := { d.bkd.facts.get p with latch := true }) (r := b.record)
      (tNow := (d.setFacts p { d.bkd.facts.get p with latch := true }).tNow p)
      h.warm h.suspended h.clear h.lenient rfl
    simpa [Dev.computePlan] using hdecide
  have hbasis : ((d.setFacts p { d.bkd.facts.get p with latch := true }).journal.get p).basis = some b := h.basis
  have hj : (d.setFacts p { d.bkd.facts.get p with latch := true }).journalFailed p = false := by
    simp [Dev.journalFailed, h.clear, Blocking.empty]
  obtain ⟨hpsq, him, _, hqueue⟩ := Dev.recompute_close hbasis hj (by rw [hplan]; rfl)
  rw [heq]
  refine ⟨⟨_, by rw [Dev.recompute_plan hbasis, Per.set_get_self, hplan], rfl, rfl, rfl, rfl⟩, ?_, ⟨_, him⟩, hqueue⟩
  rw [hpsq, Per.set_get_self, hplan]
  rfl

/-- What a sample mark at both pockets leaves of one of them is what it does to that one, before or after the other. -/
theorem Dev.sampleDoors_leaves (d : Dev) (p : Pocket) :
    ∃ e, d.LeavesPocket p e ∧ e.plan.get p = d.plan.get p ∧ e.pins = d.pins ∧ e.run = d.run ∧ e.journal = d.journal ∧
      (e.sampleDoor p).LeavesPocket p ((d.sampleDoor .a).sampleDoor .b).select ∧
      ((d.sampleDoor .a).sampleDoor .b).select.plan.get p = (e.sampleDoor p).plan.get p ∧
      (p ∉ (e.sampleDoor p).arbiter.queue → p ∉ ((d.sampleDoor .a).sampleDoor .b).select.arbiter.queue) := by
  cases p with
  | a =>
    have hne : Pocket.a ≠ .b := by decide
    refine ⟨d, .refl _ d, rfl, rfl, rfl, rfl, (Dev.sampleDoor_leaves _ hne).trans (Dev.select_leaves _ _), ?_, ?_⟩
    · rw [Dev.select_frame _ |>.2.2.2.2.2.2.2.2.2.2.1]
      exact Dev.sampleDoor_plan_other _ hne
    · intro h
      rw [Dev.select_frame _ |>.2.2.2.2.2.2.2.2.2.2.2.1]
      exact mt (Dev.sampleDoor_queue _) h
  | b =>
    have hne : Pocket.b ≠ .a := by decide
    exact ⟨d.sampleDoor .a, d.sampleDoor_leaves hne, d.sampleDoor_plan_other hne, by simp, by simp, by simp,
      Dev.select_leaves _ _, by simp, by simp⟩

end Mark

end Sys2Proof.Machine

namespace Sys2Proof.Proofs
open Sys2Proof.Machine

/-- Settles O16: each pocket's part of the mark is its own, and in RUN it is a recomputation or nothing but the latch. -/
theorem doorSampleMark : Obligations.DoorSampleMark := by
  intro s hpow
  refine ⟨_, exec_doorSampleMark hpow, fun hrun => ?outside, fun hrun p hwatch hopen hlatch => ?inside, by
    apply Dev.ext <;> simp⟩
  case outside =>
    have hone (p : Pocket) (d : Dev) (h : d.run ≠ .run) : d.sampleDoor p = { d with bkd := { d.bkd with
        facts := d.bkd.facts.set p ((d.bkd.facts.get p).doorSampled (d.pins.doorOpen.get p)) } } := by
      rw [Dev.sampleDoor_of_disregarded (.inl h), d.latched_facts p]
    rw [Dev.select_of_not_run (by simpa using hrun), hone .b _ (by simpa using hrun), hone .a _ hrun]
    exact ⟨rfl, fun p => by cases p <;> rfl⟩
  case inside =>
    obtain ⟨e, hleft, hplan, hpins, hrunE, hjournal, hafter, hplan', hqueue⟩ := s.dev.sampleDoors_leaves p
    have hlatches : e.latches p = true := by simp [Dev.latches, hleft.facts, hpins, hwatch, hopen, hlatch]
    refine ⟨fun hnot => ?_, fun hwait hmark hwarm hsus hclear hlenient hbasis => ?_⟩
    · have heq : e.sampleDoor p = e.setFacts p { e.bkd.facts.get p with latch := true } := by
        rw [Dev.sampleDoor_of_disregarded (.inr ?_), if_pos hlatches]
        rw [hleft.psq]
        refine hnot.imp (fun h => ?_) id
        cases hst : (s.dev.psq.get p).state <;> simp_all [PocketState.waiting]
      rw [heq] at hafter hplan'
      exact ⟨by rw [hafter.facts]; simp [hleft.facts], by rw [hafter.psq]; exact hleft.psq, by rw [hplan']; exact hplan⟩
    · obtain ⟨b, hb⟩ := Option.ne_none_iff_exists'.1 hbasis
      have hcloses : e.ClosesByLatch p b :=
        ⟨hrunE.trans hrun, hlatches, by rw [hleft.psq]; rcases hwait with h | h <;> simp [h, PocketState.waiting],
          by rw [hleft.psq]; exact hmark, by rw [hleft.psq]; exact hwarm, by rw [hleft.facts]; exact hsus,
          by rw [hleft.psq]; exact hclear, by rw [hleft.psq]; exact hlenient, by rw [hjournal]; exact hb⟩
      obtain ⟨⟨pl, hpl, hout, hreason, hset, hstall⟩, hpsq, ⟨im, him⟩, hleaves⟩ := hcloses.sampled
      rw [hafter.psq, hpsq, hleft.psq]
      obtain ⟨im', him', _⟩ := hafter.image.2 im him
      exact ⟨⟨pl, hplan'.trans hpl, hout, hreason, hset, by rw [hstall, hleft.facts]⟩, rfl, rfl, rfl, hqueue hleaves,
        by simp [him']⟩

end Sys2Proof.Proofs
end

section
/-! The debounced door (O18). -/

namespace Sys2Proof.Machine

theorem Dev.sparesOther_of_leaves {p : Pocket} {d d' : Dev} (h : ∀ q, q ≠ p → d.LeavesPocket q d')
    (hplan : d'.plan = d.plan) (hsns : d'.sns = d.sns) : d.sparesOther p d' :=
  fun q hq => ⟨(h q hq).psq, (h q hq).facts, by rw [hplan], (h q hq).tmb, by rw [hsns]⟩

theorem imageKept.body {x y : Option Image} (h : imageKept x y) : y.map (·.body) = x.map (·.body) := by
  cases x with
  | none => rw [h.1 rfl]
  | some im =>
    obtain ⟨im', rfl, hkept⟩ := h.2 im rfl
    exact congrArg some (Image.keptOrTaken_body hkept).1

/-- The engine selects nothing outside RUN, while an operation is in flight, and while a reset request waits (R85, R87). -/
theorem Dev.select_of_busy {d : Dev} (h : d.run ≠ .run ∨ d.engine.inFlight ≠ none) : d.select = d := by
  rcases h with h | h
  · exact Dev.select_of_not_run h
  · rw [Dev.select, if_pos]
    simp [Option.isSome_iff_ne_none.2 h]

theorem Dev.select_of_hold {d : Dev} (h : d.link.resetHold = true) : d.select = d := by
  simp [Dev.select, Dev.runningFree, h]

theorem Kind.upgrade_close (k : Kind) : k.upgrade .close = .close := by cases k <;> rfl

theorem Dev.trigger_inFlight (p : Pocket) (k : Kind) (r : Option CloseReason) (d : Dev) :
    (d.trigger p k r).engine.inFlight = d.engine.inFlight := by
  rcases d.trigger_cases p k r with ⟨_, heq⟩ | ⟨_, _, _, ⟨_, heq⟩ | ⟨_, _, heq⟩ | ⟨_, _, heq⟩⟩ <;> rw [heq] <;> rfl

theorem Dev.decideClosure_inFlight (p : Pocket) (r : CloseReason) (d : Dev) :
    (d.decideClosure p r).engine.inFlight = d.engine.inFlight := by
  rcases d.decideClosure_cases p r with ⟨_, heq⟩ | ⟨_, heq⟩ <;> rw [heq]
  · simp
  · rw [Dev.trigger_inFlight]
    simp

/-- A selection starts a queued commit's write, or leaves the image; it starts none while it does not run (R85, R87). -/
theorem Dev.select_commit {d : Dev} {p : Pocket} {im : Image} (him : d.image.get p = some im) :
    ∃ im', d.select.image.get p = some im' ∧ im.keptOrTaken im' ∧
      (∀ k, im.commit = .queued k → im'.commit = .queued k ∨
        im'.commit = .inFlight k ∧ d.run = .run ∧ d.engine.inFlight = none) ∧
      ((∀ k, im.commit ≠ .queued k) → im' = im) := by
  by_cases hbusy : d.run ≠ .run ∨ d.engine.inFlight ≠ none
  · exact ⟨im, by rw [Dev.select_of_busy hbusy, him], .inl rfl, fun k hk => .inl hk, fun _ => rfl⟩
  · obtain ⟨hrun, hfree⟩ := not_or.1 hbusy
    obtain ⟨im', him', hkept⟩ := (d.select_image p).2 im him
    refine ⟨im', him', hkept, fun k hk => ?_, fun hnot => ?_⟩
    · rcases hkept with rfl | ⟨k', hk', rfl⟩
      · exact .inl hk
      · obtain rfl : k' = k := CommitStatus.queued.inj (hk'.symm.trans hk)
        exact .inr ⟨rfl, Classical.not_not.1 hrun, Classical.not_not.1 hfree⟩
    · rcases hkept with rfl | ⟨k', hk', _⟩
      · rfl
      · exact absurd hk' (hnot k')

/-- What the selection after a CLOSE trigger makes of the image (R67, R68). -/
theorem Dev.select_closing_image {d : Dev} {p : Pocket} {im : Image} {r : CloseReason}
    (him : d.image.get p = some (im.triggered .close (some r))) :
    ∃ im', d.select.image.get p = some im' ∧ im'.body = im.body ∧ im'.cycle = im.cycle ∧
      im'.closeReason = keepReason im.closeReason (some r) ∧
      (im.commit = .none ∨ (∃ k, im.commit = .queued k) → im'.commit = .queued .close ∨
        im'.commit = .inFlight .close ∧ d.run = .run ∧ d.engine.inFlight = none) ∧
      (∀ k, im.commit = .inFlight k → im'.commit = .inFlight k ∧ im'.recommit = some .close) ∧
      ((∀ k, im.commit ≠ .inFlight k) → im'.recommit = im.recommit) := by
  obtain ⟨im', him', hkept, hqueued, hsame⟩ := Dev.select_commit him
  obtain ⟨hbody, hcycle, _, _, hrecommit, hreason⟩ := Image.keptOrTaken_body hkept
  refine ⟨im', him', hbody, hcycle, hreason, fun h => hqueued .close ?_, fun k hk => ?_, fun hnot => ?_⟩
  · rcases h with h | ⟨k, h⟩ <;> simp [Image.triggered, h, Kind.upgrade_close]
  · have hcommit : (im.triggered .close (some r)).commit = .inFlight k := by simp [Image.triggered, hk]
    obtain rfl := hsame (by simp [hcommit])
    refine ⟨hcommit, ?_⟩
    cases hr : im.recommit <;> simp [Image.triggered, hk, hr, Kind.upgrade_close]
  · rw [hrecommit]
    cases hc : im.commit with
    | inFlight k => exact absurd hc (hnot k)
    | none | queued _ => simp [Image.triggered, hc]

/-- A part whose debounced reading of a door takes the raw level (R47). -/
def Dev.doorRead (p : Pocket) (d : Dev) : Dev := d.setPsq p { d.psq.get p with doorOpen := d.pins.doorOpen.get p }

theorem exec_doorDebounce {s : State} {p : Pocket} (hrun : s.dev.run ≠ .backup)
    (hne : s.dev.pins.doorOpen.get p ≠ (s.dev.psq.get p).doorOpen) :
    exec (.doorDebounce p) s = .next { s with dev := (s.dev.doorRead p).doorOpened p } := by
  show Host.Outcome.next _ = _
  rw [doorDebounce, if_pos (by simp [Dev.powered, hrun, hne])]
  rfl

theorem Dev.doorOpened_cases (p : Pocket) (d : Dev) :
    ((d.psq.get p).state = .anticrease ∧ (d.psq.get p).mark = none ∧ (d.psq.get p).doorOpen = true ∧
      d.doorOpened p = (d.decideClosure p .door).select) ∨
    (((d.psq.get p).state ≠ .anticrease ∨ (d.psq.get p).mark ≠ none ∨ (d.psq.get p).doorOpen = false) ∧
      d.doorOpened p = d) := by
  by_cases h : (d.psq.get p).state = .anticrease ∧ (d.psq.get p).mark = none ∧ (d.psq.get p).doorOpen = true
  · exact .inl ⟨h.1, h.2.1, h.2.2, by simp [Dev.doorOpened, h]⟩
  · refine .inr ⟨?_, ?_⟩
    · simpa only [Classical.not_and_iff_not_or_not, Bool.not_eq_true] using h
    · rw [Dev.doorOpened, if_neg (by simpa [and_assoc] using h)]

/-- Under JOURNAL_FAIL a decided closure leaves its pocket VACANT without a mark or a choice (R37, R39). -/
theorem Dev.decideClosure_psq_vacates {d : Dev} {p : Pocket} (r : CloseReason) (hj : d.journalFailed p = true) :
    (d.decideClosure p r).psq =
      d.psq.set p { d.psq.get p with state := .vacant, mark := none, choice := none, startKind := .warm } := by
  rcases d.decideClosure_cases p r with ⟨_, heq⟩ | ⟨hj', _⟩
  · simp [heq, Dev.closureEffect_psq, Per.set_set]
  · exact absurd (hj.symm.trans hj') (by decide)

theorem Dev.decideClosure_doorOpen (p : Pocket) (r : CloseReason) (d : Dev) :
    ((d.decideClosure p r).psq.get p).doorOpen = (d.psq.get p).doorOpen := by
  cases hj : d.journalFailed p with
  | true => simp [Dev.decideClosure_psq_vacates r hj]
  | false => simp [(Dev.decideClosure_marks r hj).1]

theorem Dev.doorOpened_leaves {p q : Pocket} (d : Dev) (hq : q ≠ p) : d.LeavesPocket q (d.doorOpened p) := by
  rcases d.doorOpened_cases p with ⟨_, _, _, heq⟩ | ⟨_, heq⟩ <;> rw [heq]
  · exact (d.decideClosure_leaves _ hq).trans (Dev.select_leaves _ _)
  · exact .refl q d

@[simp] theorem Dev.doorRead_frame (p : Pocket) (d : Dev) :
    (d.doorRead p).bkd = d.bkd ∧ (d.doorRead p).run = d.run ∧ (d.doorRead p).image = d.image ∧
    (d.doorRead p).tmb = d.tmb ∧ (d.doorRead p).engine = d.engine ∧
    (d.doorRead p).psq = d.psq.set p { d.psq.get p with doorOpen := d.pins.doorOpen.get p } := by
  simp [Dev.doorRead]

theorem Dev.doorRead_leaves {p q : Pocket} (d : Dev) (hq : q ≠ p) : d.LeavesPocket q (d.doorRead p) :=
  ⟨by simp [Dev.doorRead, Per.set_get_of_ne _ _ hq], rfl, rfl, imageKept_of_eq rfl⟩

theorem Dev.motorRun_of_idle {d : Dev} {p : Pocket} (h : (d.tmb.get p).state = .idle) : d.motorRun p = false := by
  simp [Dev.motorRun, h]

end Sys2Proof.Machine

namespace Sys2Proof.Proofs
open Sys2Proof.Machine

/-- Settles O18: an opening in ANTICREASE decides a closure, and any other change is the reading alone. -/
theorem doorDebounce : Obligations.DoorDebounce := by
  intro s p hrun hne
  have hleaves (q : Pocket) (hq : q ≠ p) : s.dev.LeavesPocket q ((s.dev.doorRead p).doorOpened p) :=
    (s.dev.doorRead_leaves hq).trans (Dev.doorOpened_leaves _ hq)
  refine ⟨_, exec_doorDebounce hrun hne, ?_⟩
  rcases (s.dev.doorRead p).doorOpened_cases p with ⟨hstate, hmark, hopen, heq⟩ | ⟨hnot, heq⟩ <;>
    rw [heq] at hleaves ⊢
  case inr =>
    refine ⟨by simp, fun _ => rfl, fun h1 h2 h3 => ?_, Dev.sparesOther_of_leaves hleaves rfl rfl, fun _ => rfl, rfl, rfl⟩
    simp [h1, h2, h3] at hnot
  case inl =>
    have hopen' : s.dev.pins.doorOpen.get p = true := by simpa using hopen
    have htmb : ((s.dev.doorRead p).decideClosure p .door).select.tmb.get p = .idle (s.dev.tmb.get p).burstsLeft := by
      simp [Dev.decideClosure_tmb]
    refine ⟨by simp [Dev.decideClosure_doorOpen], fun h => ?_, fun _ _ _ => ⟨htmb,
      Dev.motorRun_of_idle (by rw [htmb]; rfl), fun hj => ?marked, fun hj => ?vacated⟩,
      Dev.sparesOther_of_leaves hleaves (by simp [Dev.doorRead]) (by simp [Dev.doorRead]), fun hbusy => ?busy,
      (hleaves _ p.other_ne).image.body, by apply Dev.ext <;> simp [Dev.doorRead]⟩
    case marked =>
      have hj' : (s.dev.doorRead p).journalFailed p = false := by simpa [Dev.journalFailed] using hj
      refine ⟨?_, by simp [Dev.decideClosure_bkd .door hj'], fun im him => ?_⟩
      · simp [(Dev.decideClosure_marks .door hj').1, hopen', Per.set_set]
      · obtain ⟨im', him', hbody, hcycle, hreason, hqueued, hflight, hrest⟩ :=
          Dev.select_closing_image (d := (s.dev.doorRead p).decideClosure p .door) (r := .door) (by
            rw [Dev.decideClosure_image .door hj' him, Per.set_get_self])
        rw [Dev.decideClosure_inFlight, (Dev.decideClosure_frame ..).2.1] at hqueued
        refine ⟨im', him', hbody, hcycle, ?_, fun h => hqueued (.inl h), fun k h => hqueued (.inr ⟨k, h⟩), hflight, hrest⟩
        rw [hreason]
        cases im.closeReason <;> rfl
    case vacated =>
      have hj' : (s.dev.doorRead p).journalFailed p = true := by simpa [Dev.journalFailed] using hj
      obtain ⟨hvacant, himage, hfacts, hclosed⟩ := Dev.decideClosure_vacates (reason := .door) rfl hj'
      exact ⟨by simpa using hvacant, by simp [Dev.decideClosure_psq_vacates _ hj'], (Dev.select_image _ p).1 himage,
        by simpa using hfacts, by rwa [Dev.select_attention]⟩
    case busy =>
      rw [Dev.select_of_busy (by rw [Dev.decideClosure_inFlight, (Dev.decideClosure_frame _ _ _).2.1]; exact hbusy),
        Dev.decideClosure_image_other _ _ p.other_ne]
      rfl
    · simp at hstate hmark
      simp [hstate, hmark, hopen'] at h

end Sys2Proof.Proofs
end

section
/-! Samples and the STARTUP reads (O20, O21, O24, O25). -/

namespace Sys2Proof.Machine

/-! ### Raising a pocket fault (R51) -/

theorem Dev.raiseFault_psq (p : Pocket) (f : PocketFault) (d : Dev) :
    (d.raiseFault p f).psq = d.psq.set p ((d.psq.get p).put f true) := by
  rcases d.raiseFault_cases p f with ⟨h, heq⟩ | ⟨_, heq⟩ <;> rw [heq]
  · have hput : (d.psq.get p).put f true = d.psq.get p := by
      cases f <;> simp only [Sequencer.has] at h <;> simp only [Sequencer.put, ← h]
    rw [hput, Per.set_get_same]
  · simp

theorem Dev.raiseFault_attention (p : Pocket) (f : PocketFault) (d : Dev) :
    (d.raiseFault p f).link = { d.link with attention := { d.link.attention with
      fault := (d.raiseFault p f).link.attention.fault } } ∧
    ((d.psq.get p).has f = false → (d.raiseFault p f).link.attention.fault = true) := by
  rcases d.raiseFault_cases p f with ⟨h, heq⟩ | ⟨_, heq⟩ <;> rw [heq]
  · exact ⟨rfl, by simp [h]⟩
  · exact ⟨rfl, fun _ => rfl⟩

/-! ### A completed sample (R73, R74, R77, R78) -/

/-- The image takes the temperature: the last and the greater peak, dirty by the dirty delta (R74). -/
theorem Image.sample_spec (journalFailed : Bool) (delta t : Int) (im : Image) :
    (im.sample journalFailed delta t).body =
      { im.body with exhaustLast := t, exhaustPeak := max im.body.exhaustPeak t } ∧
    ((im.sample journalFailed delta t).dirty = true ↔ im.dirty = true ∨ delta ≤ (t - im.exhaustRef).natAbs) ∧
    im.sample journalFailed delta t = { im with
      body := (im.sample journalFailed delta t).body, dirty := (im.sample journalFailed delta t).dirty
      window := (im.sample journalFailed delta t).window } := by
  unfold Image.sample
  dsimp only
  split
  · next h =>
    rw [Image.soil_eq]
    exact ⟨rfl, iff_of_true rfl (.inr h), rfl⟩
  · next h => exact ⟨rfl, by simp only [h, or_false], rfl⟩

/-- The part after an in-range sample, before THERMAL is looked at (R73, R74, R78). -/
def Dev.sampleMerged (p : Pocket) (code : Nat) (t : Int) (d : Dev) : Dev :=
  let d1 := d.setSns p
    ⟨if (d.psq.get p).blocking.sensor then none else some t, some (code, true), 0, some t, .none⟩
  if (d.psq.get p).blocking.sensor then d1
  else d1.modImage p (Image.sample (d.journalFailed p) (Params.dirtyDelta d.link.params) t)

theorem Dev.inRangeSample_eq (p : Pocket) (code : Nat) (d : Dev) :
    d.inRangeSample p code =
      if Params.tLimit d.link.params ≤ Params.convert d.link.params code then
        (d.sampleMerged p code (Params.convert d.link.params code)).raiseFault p .thermal
      else d.sampleMerged p code (Params.convert d.link.params code) := rfl

section
variable (p : Pocket) (code : Nat) (t : Int) (d : Dev)

@[simp] theorem Dev.sampleMerged_frame :
    (d.sampleMerged p code t).pins = d.pins ∧ (d.sampleMerged p code t).bkd = d.bkd ∧
    (d.sampleMerged p code t).run = d.run ∧ (d.sampleMerged p code t).settle = d.settle ∧
    (d.sampleMerged p code t).reserve = d.reserve ∧ (d.sampleMerged p code t).adc = d.adc ∧
    (d.sampleMerged p code t).faults = d.faults ∧ (d.sampleMerged p code t).psq = d.psq ∧
    (d.sampleMerged p code t).engine = d.engine ∧ (d.sampleMerged p code t).ring = d.ring ∧
    (d.sampleMerged p code t).scan = d.scan ∧ (d.sampleMerged p code t).journal = d.journal ∧
    (d.sampleMerged p code t).plan = d.plan ∧ (d.sampleMerged p code t).arbiter = d.arbiter ∧
    (d.sampleMerged p code t).tmb = d.tmb ∧ (d.sampleMerged p code t).link = d.link ∧
    (d.sampleMerged p code t).freeCount = d.freeCount ∧
    (d.sampleMerged p code t).sns = d.sns.set p
      ⟨if (d.psq.get p).blocking.sensor then none else some t, some (code, true), 0, some t, .none⟩ := by
  simp only [Dev.sampleMerged]
  split <;> simp [Dev.setSns]

theorem Dev.sampleMerged_image :
    ((d.psq.get p).blocking.sensor = true → (d.sampleMerged p code t).image = d.image) ∧
    ((d.psq.get p).blocking.sensor = false → ∀ im, d.image.get p = some im →
      (d.sampleMerged p code t).image.get p =
        some (im.sample (d.journalFailed p) (Params.dirtyDelta d.link.params) t)) ∧
    ∀ q, q ≠ p → (d.sampleMerged p code t).image.get q = d.image.get q := by
  cases hs : (d.psq.get p).blocking.sensor
  · refine ⟨by simp, fun _ im him => ?_, fun q hq => ?_⟩
    · simp [Dev.sampleMerged, hs, Dev.modImage, Dev.setSns, him]
    · simp [Dev.sampleMerged, hs, Dev.modImage, Dev.setSns, Per.set_get_of_ne _ _ hq]
  · simp [Dev.sampleMerged, hs, Dev.setSns]

end

/-- What an in-range sample leaves of the part: its pocket's sensor, sequencer and image and the causes move. -/
@[simp] theorem Dev.inRangeSample_frame (p : Pocket) (code : Nat) (d : Dev) :
    (d.inRangeSample p code).pins = d.pins ∧ (d.inRangeSample p code).bkd = d.bkd ∧
    (d.inRangeSample p code).run = d.run ∧ (d.inRangeSample p code).settle = d.settle ∧
    (d.inRangeSample p code).reserve = d.reserve ∧ (d.inRangeSample p code).adc = d.adc ∧
    (d.inRangeSample p code).faults = d.faults ∧ (d.inRangeSample p code).engine = d.engine ∧
    (d.inRangeSample p code).ring = d.ring ∧ (d.inRangeSample p code).scan = d.scan ∧
    (d.inRangeSample p code).journal = d.journal ∧ (d.inRangeSample p code).plan = d.plan ∧
    (d.inRangeSample p code).arbiter = d.arbiter ∧ (d.inRangeSample p code).tmb = d.tmb ∧
    (d.inRangeSample p code).freeCount = d.freeCount ∧
    (d.inRangeSample p code).sns = d.sns.set p
      ⟨if (d.psq.get p).blocking.sensor then none else some (Params.convert d.link.params code), some (code, true), 0,
        some (Params.convert d.link.params code), .none⟩ := by
  rw [Dev.inRangeSample_eq]
  split <;> simp

theorem Dev.inRangeSample_sns (p : Pocket) (code : Nat) (d : Dev) : (d.inRangeSample p code).sns.get p =
    ⟨if (d.psq.get p).blocking.sensor then none else some (Params.convert d.link.params code), some (code, true), 0,
      some (Params.convert d.link.params code), .none⟩ := by
  simp

theorem Dev.inRangeSample_image (p : Pocket) (code : Nat) (d : Dev) :
    (d.inRangeSample p code).image = (d.sampleMerged p code (Params.convert d.link.params code)).image := by
  rw [Dev.inRangeSample_eq]
  split <;> simp

/-- THERMAL stands at T_LIMIT or above (R73). -/
theorem Dev.inRangeSample_thermal (p : Pocket) (code : Nat) (d : Dev) :
    (Params.tLimit d.link.params ≤ Params.convert d.link.params code →
      ((d.inRangeSample p code).psq.get p).blocking.thermal = true ∧
      ((d.psq.get p).blocking.thermal = false → (d.inRangeSample p code).link.attention.fault = true)) ∧
    (Params.convert d.link.params code < Params.tLimit d.link.params →
      (d.inRangeSample p code).psq = d.psq ∧ (d.inRangeSample p code).link = d.link) ∧
    (∀ q, q ≠ p → (d.inRangeSample p code).psq.get q = d.psq.get q) ∧
    (d.inRangeSample p code).link = { d.link with attention := { d.link.attention with
      fault := (d.inRangeSample p code).link.attention.fault } } := by
  rw [Dev.inRangeSample_eq]
  by_cases h : Params.tLimit d.link.params ≤ Params.convert d.link.params code
  · obtain ⟨hlink, hfault⟩ := Dev.raiseFault_attention p .thermal
      (d.sampleMerged p code (Params.convert d.link.params code))
    rw [if_pos h]
    refine ⟨fun _ => ⟨by simp [Dev.raiseFault_psq, Sequencer.put], fun hnone => hfault (by simpa [Sequencer.has] using hnone)⟩,
      fun hlt => absurd h (by omega), fun q hq => by simp [Dev.raiseFault_psq, Per.set_get_of_ne _ _ hq],
      by rw [hlink]; simp⟩
  · rw [if_neg h]
    exact ⟨fun h' => absurd h' h, fun _ => by simp, by simp, by simp⟩

/-- A completed sample out of range: the streak, and SENSOR where it is 3 (R77). -/
theorem Dev.outOfRangeSample_eq (p : Pocket) (code streak : Nat) (d : Dev) :
    d.outOfRangeSample p code streak =
      if streak = 3 then
        (d.setSns p { d.sns.get p with
          published := none, recent := some (code, false), streak := streak, sampling := .none }).raiseFault p .sensor
      else d.setSns p { d.sns.get p with recent := some (code, false), streak := streak, sampling := .none } := by
  unfold Dev.outOfRangeSample
  split
  · simp [Dev.raiseSensor, Dev.setSns, Per.set_set]
  · rfl

@[simp] theorem Dev.outOfRangeSample_frame (p : Pocket) (code streak : Nat) (d : Dev) :
    (d.outOfRangeSample p code streak).pins = d.pins ∧ (d.outOfRangeSample p code streak).bkd = d.bkd ∧
    (d.outOfRangeSample p code streak).run = d.run ∧ (d.outOfRangeSample p code streak).settle = d.settle ∧
    (d.outOfRangeSample p code streak).reserve = d.reserve ∧ (d.outOfRangeSample p code streak).adc = d.adc ∧
    (d.outOfRangeSample p code streak).faults = d.faults ∧ (d.outOfRangeSample p code streak).engine = d.engine ∧
    (d.outOfRangeSample p code streak).ring = d.ring ∧ (d.outOfRangeSample p code streak).scan = d.scan ∧
    (d.outOfRangeSample p code streak).journal = d.journal ∧ (d.outOfRangeSample p code streak).plan = d.plan ∧
    (d.outOfRangeSample p code streak).arbiter = d.arbiter ∧ (d.outOfRangeSample p code streak).tmb = d.tmb ∧
    (d.outOfRangeSample p code streak).freeCount = d.freeCount ∧
    (d.outOfRangeSample p code streak).image = d.image ∧
    (d.outOfRangeSample p code streak).sns = d.sns.set p
      ⟨if streak = 3 then none else (d.sns.get p).published, some (code, false), streak, (d.sns.get p).lastInRange,
        .none⟩ := by
  rw [Dev.outOfRangeSample_eq]
  split
  · simp [Dev.setSns]
  · simp [Dev.setSns]

/-- SENSOR stands at a streak of 3 (R77). -/
theorem Dev.outOfRangeSample_sensor (p : Pocket) (code streak : Nat) (d : Dev) :
    (streak = 3 → ((d.outOfRangeSample p code streak).psq.get p).blocking.sensor = true ∧
      ((d.psq.get p).blocking.sensor = false → (d.outOfRangeSample p code streak).link.attention.fault = true)) ∧
    (streak ≠ 3 → (d.outOfRangeSample p code streak).psq = d.psq ∧ (d.outOfRangeSample p code streak).link = d.link) ∧
    (∀ q, q ≠ p → (d.outOfRangeSample p code streak).psq.get q = d.psq.get q) ∧
    (d.outOfRangeSample p code streak).link = { d.link with attention := { d.link.attention with
      fault := (d.outOfRangeSample p code streak).link.attention.fault } } := by
  rw [Dev.outOfRangeSample_eq]
  by_cases h : streak = 3
  · obtain ⟨hlink, hfault⟩ := Dev.raiseFault_attention p .sensor (d.setSns p { d.sns.get p with
      published := none, recent := some (code, false), streak := streak, sampling := .none })
    rw [if_pos h]
    exact ⟨fun _ => ⟨by simp [Dev.raiseFault_psq, Sequencer.put], hfault⟩, fun h' => absurd h h',
      fun q hq => by simp [Dev.raiseFault_psq, Per.set_get_of_ne _ _ hq, Dev.setSns], hlink⟩
  · rw [if_neg h]
    exact ⟨fun h' => absurd h' h, fun _ => ⟨rfl, rfl⟩, fun _ _ => rfl, rfl⟩

theorem Params.codeInRange_iff (pr : Params) (code : Nat) :
    Params.codeInRange pr code = true ↔ Params.code pr 0 ≤ code ∧ code ≤ Params.code pr 8 := by
  simp [Params.codeInRange]

/-- What a completed sample makes of the part (R77): `streak` is the streak that an out-of-range one leaves. -/
def Dev.sampleEnded (p : Pocket) (code streak : Nat) (d : Dev) : Dev :=
  if Params.codeInRange d.link.params code then (d.setAdc (d.adc.endSample p)).inRangeSample p code
  else (d.setAdc (d.adc.endSample p)).outOfRangeSample p code streak

/-- A routine sample that completes, or a command that no sample of the pocket stands for (log entry 13). -/
def Dev.routineEnded (p : Pocket) (code : Nat) (d : Dev) : Dev :=
  if (d.sns.get p).sampling = .routine then d.sampleEnded p code (min 3 ((d.sns.get p).streak + 1)) else d

theorem exec_routineSampleDone {s : State} {p : Pocket} (c0 c1 c2 c3 : Nat) (hrun : s.dev.run = .run)
    (hhold : s.dev.link.resetHold = false) :
    exec (.routineSampleDone p c0 c1 c2 c3) s =
      .next { s with dev := s.dev.routineEnded p ((c0 + c1 + c2 + c3) / 4) } := by
  show Host.Outcome.next _ = _
  have hfree : s.dev.runningFree = true := (Dev.runningFree_iff _).2 ⟨hrun, hhold⟩
  simp only [routineSampleDone, hfree, Bool.true_and, beq_iff_eq, satAdd_eq]
  rfl

theorem exec_restoreSampleDone {s : State} {p : Pocket} (c0 c1 c2 c3 : Nat) (hrun : s.dev.run = .startup)
    (hway : (s.dev.sns.get p).sampling = .restore) :
    exec (.restoreSampleDone p c0 c1 c2 c3) s =
      .next { s with dev := (s.dev.sampleEnded p ((c0 + c1 + c2 + c3) / 4) 3).endStartup } := by
  show Host.Outcome.next _ = _
  rw [restoreSampleDone, if_pos (by simp [hrun, hway])]
  rfl

section
variable (p : Pocket) (code streak : Nat) (d : Dev)

@[simp] theorem Dev.sampleEnded_frame :
    (d.sampleEnded p code streak).pins = d.pins ∧ (d.sampleEnded p code streak).bkd = d.bkd ∧
    (d.sampleEnded p code streak).run = d.run ∧ (d.sampleEnded p code streak).settle = d.settle ∧
    (d.sampleEnded p code streak).reserve = d.reserve ∧ (d.sampleEnded p code streak).adc = d.adc.endSample p ∧
    (d.sampleEnded p code streak).faults = d.faults ∧ (d.sampleEnded p code streak).engine = d.engine ∧
    (d.sampleEnded p code streak).ring = d.ring ∧ (d.sampleEnded p code streak).scan = d.scan ∧
    (d.sampleEnded p code streak).journal = d.journal ∧ (d.sampleEnded p code streak).plan = d.plan ∧
    (d.sampleEnded p code streak).arbiter = d.arbiter ∧ (d.sampleEnded p code streak).tmb = d.tmb ∧
    (d.sampleEnded p code streak).freeCount = d.freeCount := by
  unfold Dev.sampleEnded
  split <;> simp

/-- A completed sample leaves the other pocket's sensor, sequencer and image, and every cause but FAULT. -/
theorem Dev.sampleEnded_other :
    (∀ q, q ≠ p → (d.sampleEnded p code streak).sns.get q = d.sns.get q ∧
      (d.sampleEnded p code streak).psq.get q = d.psq.get q ∧
      (d.sampleEnded p code streak).image.get q = d.image.get q) ∧
    ((d.sampleEnded p code streak).sns.get p).sampling = .none ∧
    (d.sampleEnded p code streak).link = { d.link with attention := { d.link.attention with
      fault := (d.sampleEnded p code streak).link.attention.fault } } := by
  unfold Dev.sampleEnded
  split
  · obtain ⟨_, _, hpsq, hlink⟩ := Dev.inRangeSample_thermal p code (d.setAdc (d.adc.endSample p))
    refine ⟨fun q hq => ⟨by simp [Per.set_get_of_ne _ _ hq], hpsq q hq, ?_⟩, by simp, hlink⟩
    rw [Dev.inRangeSample_image]
    exact (Dev.sampleMerged_image _ _ _ _).2.2 q hq
  · obtain ⟨_, _, hpsq, hlink⟩ := Dev.outOfRangeSample_sensor p code streak (d.setAdc (d.adc.endSample p))
    exact ⟨fun q hq => ⟨by simp [Per.set_get_of_ne _ _ hq], hpsq q hq, by simp⟩, by simp, hlink⟩

theorem Dev.sampleEnded_spares : d.sparesOther p (d.sampleEnded p code streak) := fun q hq =>
  have ⟨hsns, hpsq, _⟩ := (d.sampleEnded_other p code streak).1 q hq
  ⟨hpsq, by simp, by simp, by simp, hsns⟩

end

theorem Dev.sampleEnded_of_inRange {p : Pocket} {code : Nat} {d : Dev} (streak : Nat)
    (h : Params.code d.link.params 0 ≤ code ∧ code ≤ Params.code d.link.params 8) :
    d.sampleEnded p code streak = (d.setAdc (d.adc.endSample p)).inRangeSample p code :=
  if_pos ((Params.codeInRange_iff _ _).2 h)

theorem Dev.sampleEnded_of_outOfRange {p : Pocket} {code : Nat} {d : Dev} (streak : Nat)
    (h : code < Params.code d.link.params 0 ∨ Params.code d.link.params 8 < code) :
    d.sampleEnded p code streak = (d.setAdc (d.adc.endSample p)).outOfRangeSample p code streak :=
  if_neg (by rw [Params.codeInRange_iff]; omega)

/-- STARTUP goes on while the scan or a restore sample is still waited for (R13). -/
theorem Dev.endStartup_of_waiting {d : Dev} (h : d.scan.state ≠ .done ∨ ∃ p, (d.sns.get p).sampling ≠ .none) :
    d.endStartup = d := by
  rw [Dev.endStartup, if_neg]
  simp only [Bool.and_eq_true, beq_iff_eq, not_and]
  intro ⟨⟨_, hscan⟩, ha⟩ hb
  rcases h with h | ⟨p, h⟩
  · exact h hscan
  · cases p
    · exact h ha
    · exact h hb

end Sys2Proof.Machine

namespace Sys2Proof.Proofs
open Sys2Proof.Machine

/-- Settles O24: a completed sample in range and out of range. -/
theorem routineSample : Obligations.RoutineSample := by
  rintro s p c0 c1 c2 c3 code t rfl rfl hrun hhold
  rw [exec_routineSampleDone c0 c1 c2 c3 hrun hhold]
  refine ⟨fun hnone => by rw [Dev.routineEnded, if_neg hnone],
    fun hway => ⟨_, by rw [Dev.routineEnded, if_pos hway], fun hin => ?inside, fun hout => ?outside,
    Dev.sampleEnded_spares _ _ _ _, fun q hq => ((Dev.sampleEnded_other _ _ _ _).1 q hq).2.2,
    (Dev.sampleEnded_other _ _ _ _).2.2, by simp, by apply Dev.ext <;> simp⟩⟩
  case inside =>
    rw [Dev.sampleEnded_of_inRange _ hin]
    obtain ⟨hhot, hcool, _, _⟩ := Dev.inRangeSample_thermal p ((c0 + c1 + c2 + c3) / 4)
      (s.dev.setAdc (s.dev.adc.endSample p))
    obtain ⟨hstands, hmerged, _⟩ := Dev.sampleMerged_image p ((c0 + c1 + c2 + c3) / 4)
      (Params.convert s.dev.link.params ((c0 + c1 + c2 + c3) / 4)) (s.dev.setAdc (s.dev.adc.endSample p))
    refine ⟨Dev.inRangeSample_sns _ _ _, hhot, hcool, fun h => ?_, fun h im him => ?_⟩
    · rw [Dev.inRangeSample_image]
      exact hstands h
    · rw [Dev.inRangeSample_image]
      exact ⟨_, hmerged h im him, Image.sample_spec _ _ _ _⟩
  case outside =>
    rw [Dev.sampleEnded_of_outOfRange _ hout]
    obtain ⟨hthird, hearly, _, _⟩ := Dev.outOfRangeSample_sensor p ((c0 + c1 + c2 + c3) / 4)
      (min 3 ((s.dev.sns.get p).streak + 1)) (s.dev.setAdc (s.dev.adc.endSample p))
    refine ⟨by simp, by simp, by simp, by simp, fun h => ?_, fun h => ?_, by simp⟩
    · obtain ⟨hpsq, hlink⟩ := hearly (by omega)
      exact ⟨by simp; omega, hpsq, hlink⟩
    · obtain ⟨hsensor, hfault⟩ := hthird (by omega)
      exact ⟨by simp; omega, hsensor, hfault⟩

/-- Settles O25: a completed sample in STARTUP, which goes on. -/
theorem restoreSample : Obligations.RestoreSample := by
  rintro s p c0 c1 c2 c3 code t rfl rfl hrun hway hwaits
  have hgoes : (s.dev.sampleEnded p ((c0 + c1 + c2 + c3) / 4) 3).endStartup =
      s.dev.sampleEnded p ((c0 + c1 + c2 + c3) / 4) 3 := by
    refine Dev.endStartup_of_waiting (hwaits.imp (by simp) fun h => ⟨p.other, ?_⟩)
    rwa [((Dev.sampleEnded_other _ _ _ _).1 _ p.other_ne).1]
  refine ⟨_, exec_restoreSampleDone c0 c1 c2 c3 hrun hway, ?_⟩
  rw [hgoes]
  refine ⟨fun hin => ?inside, fun hout => ?outside, by simp [hrun], Dev.sampleEnded_spares _ _ _ _,
    (Dev.sampleEnded_other _ _ _ _).2.2, by simp, by apply Dev.ext <;> simp⟩
  case inside =>
    rw [Dev.sampleEnded_of_inRange _ hin]
    obtain ⟨hhot, hcool, _, _⟩ := Dev.inRangeSample_thermal p ((c0 + c1 + c2 + c3) / 4)
      (s.dev.setAdc (s.dev.adc.endSample p))
    exact ⟨Dev.inRangeSample_sns _ _ _, fun h => (hhot h).1, hcool⟩
  case outside =>
    rw [Dev.sampleEnded_of_outOfRange _ hout]
    obtain ⟨hsensor, hfault⟩ := (Dev.outOfRangeSample_sensor p ((c0 + c1 + c2 + c3) / 4) 3
      (s.dev.setAdc (s.dev.adc.endSample p))).1 rfl
    exact ⟨by simp, by simp, by simp, by simp, hsensor, hfault, by simp⟩

end Sys2Proof.Proofs
end

section
/-! The STARTUP reads: the parameter load and the scan before its last page (O20, O21). -/

namespace Sys2Proof.Machine

theorem Dev.starting_iff (d : Dev) : d.starting = true ↔ d.run = .startup ∧ d.link.resetHold = false := by
  by_cases h : d.run = .startup <;> simp [Dev.starting, Dev.held, h]

/-! ### Raising a device fault (R56) -/

theorem Dev.raiseDevice_faults (f : DeviceFault) (d : Dev) : (d.raiseDevice f).faults = d.faults.put f true := by
  rcases d.raiseDevice_cases f with ⟨h, heq⟩ | ⟨_, heq⟩ <;> rw [heq]
  · cases f <;> simp only [DeviceFaults.has] at h <;> simp only [DeviceFaults.put, ← h]
  · simp

theorem Dev.raiseDevice_attention (f : DeviceFault) (d : Dev) :
    (d.raiseDevice f).link = { d.link with attention := { d.link.attention with
      fault := (d.raiseDevice f).link.attention.fault } } ∧
    (d.faults.has f = false → (d.raiseDevice f).link.attention.fault = true) := by
  rcases d.raiseDevice_cases f with ⟨h, heq⟩ | ⟨_, heq⟩ <;> rw [heq]
  · exact ⟨rfl, by simp [h]⟩
  · exact ⟨rfl, fun _ => rfl⟩

/-! ### The parameter load (R175) -/

/-- The part with the parameters of a page in force, before the strict copies are taken. -/
def Dev.paramsLoaded (page : List Byte) (d : Dev) : Dev :=
  match Params.ofPage page with
  | some pr => d.setLink { d.link with params := pr, loaded := true }
  | none => (d.setLink { d.link with params := maskDefaults, loaded := true }).raiseDevice .paramDefault

/-- The strict copies are taken; the scan and the restore samples begin (R53, R75, R105). -/
def Dev.restoreBegun (d : Dev) : Dev := d.takeStrictCopies.beginRestoreSamples.setScan ⟨.scanning, 0⟩

theorem parameterLoad_of_starting {d : Dev} (page : List Byte) (hrun : d.run = .startup)
    (hhold : d.link.resetHold = false) (hloaded : d.link.loaded = false) :
    parameterLoad page d = (d.paramsLoaded page).restoreBegun :=
  if_pos (by simp [(Dev.starting_iff _).2 ⟨hrun, hhold⟩, hloaded])

theorem exec_parameterLoad {s : State} {misread : List Host.Cell} {page : List Byte}
    (hpage : page = overlay (s.array.page paramPage) misread) (hrun : s.dev.run = .startup)
    (hhold : s.dev.link.resetHold = false) (hloaded : s.dev.link.loaded = false) :
    exec (.parameterLoad misread) s = .next { s with dev := (s.dev.paramsLoaded page).restoreBegun } := by
  rw [← parameterLoad_of_starting page hrun hhold hloaded, hpage]
  rfl

theorem Params.ofPage_of_sum {page : List Byte} (h : wordSum (pageWords page) = 0) :
    Params.ofPage page =
      some (raiseCodes (Vector.ofFn fun i : Fin 40 => clampWord i ((pageWords page).getD i.val 0))) := if_pos h

theorem Params.ofPage_of_not_sum {page : List Byte} (h : wordSum (pageWords page) ≠ 0) : Params.ofPage page = none :=
  if_neg h

@[simp] theorem Dev.paramsLoaded_frame (page : List Byte) (d : Dev) :
    (d.paramsLoaded page).pins = d.pins ∧ (d.paramsLoaded page).bkd = d.bkd ∧ (d.paramsLoaded page).run = d.run ∧
    (d.paramsLoaded page).settle = d.settle ∧ (d.paramsLoaded page).reserve = d.reserve ∧
    (d.paramsLoaded page).adc = d.adc ∧ (d.paramsLoaded page).sns = d.sns ∧ (d.paramsLoaded page).psq = d.psq ∧
    (d.paramsLoaded page).image = d.image ∧ (d.paramsLoaded page).engine = d.engine ∧
    (d.paramsLoaded page).ring = d.ring ∧ (d.paramsLoaded page).journal = d.journal ∧
    (d.paramsLoaded page).plan = d.plan ∧ (d.paramsLoaded page).arbiter = d.arbiter ∧
    (d.paramsLoaded page).tmb = d.tmb ∧ (d.paramsLoaded page).freeCount = d.freeCount := by
  unfold Dev.paramsLoaded
  split <;> simp

theorem Dev.paramsLoaded_link (page : List Byte) (d : Dev) : (d.paramsLoaded page).link.loaded = true := by
  unfold Dev.paramsLoaded
  split
  · rfl
  · rw [(Dev.raiseDevice_answers .paramDefault _).frame]
    rfl

@[simp] theorem Dev.beginRestoreSamples_frame (d : Dev) :
    d.beginRestoreSamples.pins = d.pins ∧ d.beginRestoreSamples.bkd = d.bkd ∧ d.beginRestoreSamples.run = d.run ∧
    d.beginRestoreSamples.settle = d.settle ∧ d.beginRestoreSamples.reserve = d.reserve ∧
    d.beginRestoreSamples.faults = d.faults ∧ d.beginRestoreSamples.psq = d.psq ∧
    d.beginRestoreSamples.image = d.image ∧ d.beginRestoreSamples.engine = d.engine ∧
    d.beginRestoreSamples.ring = d.ring ∧ d.beginRestoreSamples.scan = d.scan ∧
    d.beginRestoreSamples.journal = d.journal ∧ d.beginRestoreSamples.plan = d.plan ∧
    d.beginRestoreSamples.arbiter = d.arbiter ∧ d.beginRestoreSamples.tmb = d.tmb ∧
    d.beginRestoreSamples.link = d.link ∧ d.beginRestoreSamples.freeCount = d.freeCount := by
  simp [Dev.beginRestoreSamples, Dev.setSns]

theorem Dev.beginRestoreSamples_sns (d : Dev) (p : Pocket) :
    d.beginRestoreSamples.sns.get p = { d.sns.get p with sampling := .restore } := by cases p <;> rfl

@[simp] theorem Dev.takeStrictCopies_frame (d : Dev) :
    d.takeStrictCopies.pins = d.pins ∧ d.takeStrictCopies.bkd = d.bkd ∧ d.takeStrictCopies.run = d.run ∧
    d.takeStrictCopies.settle = d.settle ∧ d.takeStrictCopies.reserve = d.reserve ∧ d.takeStrictCopies.adc = d.adc ∧
    d.takeStrictCopies.faults = d.faults ∧ d.takeStrictCopies.sns = d.sns ∧ d.takeStrictCopies.image = d.image ∧
    d.takeStrictCopies.engine = d.engine ∧ d.takeStrictCopies.ring = d.ring ∧ d.takeStrictCopies.scan = d.scan ∧
    d.takeStrictCopies.journal = d.journal ∧ d.takeStrictCopies.plan = d.plan ∧
    d.takeStrictCopies.arbiter = d.arbiter ∧ d.takeStrictCopies.tmb = d.tmb ∧ d.takeStrictCopies.link = d.link ∧
    d.takeStrictCopies.freeCount = d.freeCount := by
  simp [Dev.takeStrictCopies]

theorem Dev.takeStrictCopies_psq (d : Dev) (p : Pocket) :
    d.takeStrictCopies.psq.get p = { d.psq.get p with strict := d.link.params[20].getLsbD (pocketIndex p) } := by
  cases p <;> rfl

/-- Pocket A's first conversion of its restore sample, on a free ADC and behind another conversion (R9, R75). -/
theorem Dev.beginRestoreSamples_adc (d : Dev) :
    (d.adc.running = none → d.adc.reserveMs ≠ 20 → d.beginRestoreSamples.adc =
      ⟨some (.thermistor .a), d.adc.reserveWaits, .both false, ⟨1, 0⟩, .both 0, d.adc.reserveMs⟩) ∧
    (d.adc.running ≠ none ∨ d.adc.reserveMs = 20 → d.beginRestoreSamples.adc =
      ⟨d.adc.running, d.adc.reserveWaits, ⟨true, false⟩, .both 0, .both 0, d.adc.reserveMs⟩) := by
  have hadc : d.beginRestoreSamples.adc = ((d.adc.dropSample .a).dropSample .b).requestThermistor .a := rfl
  rw [hadc]
  rcases Adc.requestThermistor_cases .a ((d.adc.dropSample .a).dropSample .b) with ⟨hfree, hdue, heq⟩ | ⟨hbusy, heq⟩ <;>
    rw [heq]
  · refine ⟨fun _ _ => rfl, fun h => ?_⟩
    simp [Adc.dropSample, Adc.reserveDue, reservePeriod] at hfree hdue
    simp [hfree, hdue] at h
  · refine ⟨fun h1 h2 => ?_, fun _ => rfl⟩
    simp [Adc.dropSample, Adc.reserveDue, reservePeriod, h1, h2] at hbusy

/-! ### A page of the scan (R105, R106) -/

/-- A bad read: the page is read again, or left TORN by the third (R106). -/
def Dev.readAgain (p : Pocket) (d : Dev) : Dev :=
  if d.scan.badReads < 2 then d.setScan ⟨.scanning, d.scan.badReads + 1⟩ else d.classPage p .torn

theorem exec_scanPageRead {s : State} {misread : List Host.Cell} {page : List Byte} {p : Pocket}
    (hpage : page = overlay (s.array.page s.dev.scanPage) misread) (hrun : s.dev.run = .startup)
    (hhold : s.dev.link.resetHold = false) (hscan : s.dev.scan.state = .scanning) (hp : s.dev.scanPocket = p) :
    (∀ c, classify p page = .good c →
      exec (.scanPageRead misread) s = .next { s with dev := s.dev.classPage p c }) ∧
    (classify p page = .bad → exec (.scanPageRead misread) s = .next { s with dev := s.dev.readAgain p }) := by
  have hread : exec (.scanPageRead misread) s = .next { s with dev := scanPageRead page s.dev } := by
    rw [hpage]
    rfl
  have hcond : (s.dev.starting && s.dev.scan.state == .scanning) = true := by
    simp [(Dev.starting_iff _).2 ⟨hrun, hhold⟩, hscan]
  rw [hread]
  refine ⟨fun c hc => ?_, fun hbad => ?_⟩
  · simp only [scanPageRead, hcond, if_true, hp, hc]
  · simp only [scanPageRead, hcond, if_true, hp, hbad]
    rfl

/-- A page with its class in the map, the scan going on to the next (R105). -/
def Dev.pageClassed (p : Pocket) (c : SlotClass) (d : Dev) : Dev :=
  (d.setJournal p { d.journal.get p with map := (d.journal.get p).map ++ [c] }).setScan ⟨.scanning, 0⟩

theorem Dev.classPage_of_more {p : Pocket} {d : Dev} (c : SlotClass)
    (h : ((d.pageClassed p c).journal.get .b).map.length < 16) : d.classPage p c = d.pageClassed p c :=
  if_neg (Nat.not_le.2 h)

theorem Dev.classPage_of_last {p : Pocket} {d : Dev} (c : SlotClass)
    (h : 16 ≤ ((d.pageClassed p c).journal.get .b).map.length) :
    d.classPage p c = (d.pageClassed p c).endScan.endStartup :=
  if_pos h

end Sys2Proof.Machine

namespace Sys2Proof.Proofs
open Sys2Proof.Machine

/-- Settles O20: by the sum of the page, and by whether the ADC is free. -/
theorem parameterLoad : Obligations.ParameterLoad := by
  intro s misread page hpage hrun hhold hloaded
  have hlink : (s.dev.paramsLoaded page).takeStrictCopies.link =
      (s.dev.paramsLoaded page).link := by simp
  refine ⟨_, exec_parameterLoad hpage hrun hhold hloaded, by
    simpa [Dev.restoreBegun] using Dev.paramsLoaded_link _ _, fun hsum => ?stored,
    fun hsum => ?defaults, fun p => ?_, fun p => ?_, rfl, ?_, ?_, by
    apply Dev.ext <;> simp [Dev.restoreBegun]⟩
  case stored => simp [Dev.restoreBegun, Dev.paramsLoaded, Params.ofPage_of_sum hsum]
  case defaults =>
    have heq : s.dev.paramsLoaded page =
        (s.dev.setLink { s.dev.link with params := maskDefaults, loaded := true }).raiseDevice .paramDefault := by
      rw [Dev.paramsLoaded, Params.ofPage_of_not_sum hsum]
    obtain ⟨hlink, hnew⟩ := Dev.raiseDevice_attention .paramDefault
      (s.dev.setLink { s.dev.link with params := maskDefaults, loaded := true })
    simp only [Dev.restoreBegun, Dev.setScan_link, Dev.setScan_faults, Dev.beginRestoreSamples_frame,
      Dev.takeStrictCopies_frame, heq]
    exact ⟨by rw [hlink]; rfl, Dev.raiseDevice_faults _ _, fun h => by rw [hlink, hnew h]; rfl⟩
  · have h := Dev.takeStrictCopies_psq (s.dev.paramsLoaded page) p
    simpa [Dev.restoreBegun] using h
  · have h := Dev.beginRestoreSamples_sns
      (s.dev.paramsLoaded page).takeStrictCopies p
    simpa [Dev.restoreBegun] using h
  · have h := (Dev.beginRestoreSamples_adc
      (s.dev.paramsLoaded page).takeStrictCopies).1
    simpa [Dev.restoreBegun] using h
  · have h := (Dev.beginRestoreSamples_adc
      (s.dev.paramsLoaded page).takeStrictCopies).2
    simpa [Dev.restoreBegun] using h

/-- Settles O21: by what the read gives, and by how many bad reads of the page came before. -/
theorem scanPageRead : Obligations.ScanPageRead := by
  intro s misread p page hpage hrun hhold hscan hp
  have hpocket : s.dev.scanPocket = p := by
    rcases hp with ⟨rfl, ha, _⟩ | ⟨rfl, ha, _⟩
    · exact if_pos ha
    · exact if_neg (Nat.not_lt.2 ha)
  have hmore (c : SlotClass) : s.dev.classPage p c = s.dev.pageClassed p c := by
    refine Dev.classPage_of_more c ?_
    rcases hp with ⟨rfl, _, hb⟩ | ⟨rfl, _, hb⟩
    · exact hb
    · simpa [Dev.pageClassed] using Nat.succ_lt_succ hb
  obtain ⟨hgood, hbad⟩ := exec_scanPageRead hpage hrun hhold hscan hpocket
  cases hc : classify p page with
  | good c =>
    refine ⟨_, (hgood c hc).trans (by rw [hmore]), fun c' h => ?_, fun h => ?_, fun h => ?_, rfl⟩
    · obtain rfl := PageRead.good.inj h
      exact ⟨rfl, rfl⟩
    · exact absurd h (by simp)
    · exact absurd h (by simp)
  | bad =>
    by_cases hagain : s.dev.scan.badReads < 2
    · refine ⟨s.dev.setScan ⟨.scanning, s.dev.scan.badReads + 1⟩, (hbad hc).trans (by rw [Dev.readAgain, if_pos hagain]),
        fun c' h => absurd h (by simp), fun _ _ => ⟨rfl, rfl⟩,
        fun _ h => absurd hagain (Nat.not_lt.2 h), rfl⟩
    · refine ⟨_, (hbad hc).trans (by rw [Dev.readAgain, if_neg hagain, hmore]), fun c' h => absurd h (by simp),
        fun _ h => absurd h hagain, fun _ _ => ⟨rfl, rfl⟩, rfl⟩

end Sys2Proof.Proofs
end

section
/-! The link port: the checks before dispatch, an unknown type, and what TXD carries (O37, O38). -/

namespace Sys2Proof.Machine

/-! ### A request command is its request served (R163, R164) -/

section
variable {q : Request} {payload : List Byte} {d : Dev}

theorem Dev.verdict_setReceiver (r : Receiver) : (d.setReceiver r).verdict q payload = d.verdict q payload := rfl

/-- A well-formed frame of a row is the row's own where the checks on length and codes pass. -/
theorem Dev.serveRow_of_rowOk {mine : Nat → Bool} (owner : Pocket → Dev → Dev)
    (h : q.lengthOk payload = true → q.enumsOk payload = true → mine (secondByte payload) = true) :
    d.serveRow q payload mine owner = d.serveRequest q payload (owner (namedPocket payload)) := by
  rw [Dev.serveRow, if_neg]
  · rfl
  · simp only [Bool.and_eq_true, Bool.not_eq_true', not_and, Bool.not_eq_false]
    exact fun hok => h hok.1 hok.2

theorem Dev.serveRequest_of_discard (owner : Dev → Dev) (h : d.hears q.typeByte payload = true)
    (hv : d.verdict q payload = .discard) : d.serveRequest q payload owner = d.setReceiver .hunting := by
  simp only [Dev.serveRequest, h, if_true, Dev.verdict_setReceiver, hv]

theorem Dev.serveRequest_of_refuse {r : List Byte} (owner : Dev → Dev) (h : d.hears q.typeByte payload = true)
    (hv : d.verdict q payload = .refuse r) : d.serveRequest q payload owner = d.replied q.replyType r := by
  simp only [Dev.serveRequest, h, if_true, Dev.verdict_setReceiver, hv]
  exact rfl

theorem Dev.serveRequest_of_dispatch (owner : Dev → Dev) (h : d.hears q.typeByte payload = true)
    (hv : d.verdict q payload = .dispatch) : d.serveRequest q payload owner = owner (d.setReceiver .hunting) := by
  simp only [Dev.serveRequest, h, if_true, Dev.verdict_setReceiver, hv]

theorem Dev.hears_iff (type : Byte) : d.hears type payload = true ↔
    d.run ≠ .backup ∧ payload.length ≤ 56 ∧ d.link.receiver.begins type payload = true := by
  simp only [Dev.hears, Dev.powered, Bool.and_eq_true, bne_iff_ne, decide_eq_true_eq, and_assoc]
  exact Iff.rfl

theorem rowOk_iff {mine : Nat → Bool} : rowOk q payload mine = true ↔ payload.length ≤ 56 ∧
    (q.lengthOk payload = true → q.enumsOk payload = true → mine (secondByte payload) = true) := by
  cases h1 : q.lengthOk payload <;> cases h2 : q.enumsOk payload <;> simp [rowOk, payloadOk, h1, h2]

theorem advisoryTarget_isSome {n : Nat} (h : advisoryCode n = true) : (advisoryTarget n).isSome = true := by
  simp only [advisoryCode, Bool.and_eq_true, decide_eq_true_eq] at h
  obtain rfl | rfl | rfl : n = 1 ∨ n = 2 ∨ n = 3 := by omega
  all_goals rfl

theorem blockingTarget_isSome {n : Nat} (h : blockingCode n = true) : (blockingTarget n).isSome = true := by
  simp only [blockingCode, Bool.and_eq_true, decide_eq_true_eq] at h
  obtain rfl | rfl | rfl | rfl : n = 4 ∨ n = 5 ∨ n = 6 ∨ n = 7 := by omega
  all_goals rfl

/-- A well-formed request command serves its request. -/
theorem exec_request {c : Instr} (h : requestOf c = some (q, payload)) (hw : c.wellFormed = true) (s : State) :
    payload.length ≤ 56 ∧ ∃ owner, exec c s = .next { s with dev := s.dev.serveRequest q payload owner } := by
  have hplain (owner : Dev → Dev) (hp : payloadOk payload = true) : payload.length ≤ 56 ∧
      ∃ o, (Host.Outcome.next { s with dev := s.dev.serveRequest q payload owner } :
          Host.Outcome State Fault Refusal) = .next { s with dev := s.dev.serveRequest q payload o } :=
    ⟨by simpa [payloadOk] using hp, owner, rfl⟩
  have hrow (mine : Nat → Bool) (owner : Pocket → Dev → Dev)
      (hp : rowOk q payload mine = true) : payload.length ≤ 56 ∧
      ∃ o, (Host.Outcome.next { s with dev := s.dev.serveRow q payload mine owner } :
          Host.Outcome State Fault Refusal) = .next { s with dev := s.dev.serveRequest q payload o } :=
    ⟨(rowOk_iff.1 hp).1, _, by rw [Dev.serveRow_of_rowOk owner (rowOk_iff.1 hp).2]⟩
  cases c <;> simp only [requestOf, reduceCtorEq, Option.some.injEq, Prod.mk.injEq] at h <;> obtain ⟨rfl, rfl⟩ := h
  case resumeAccept | resumeReheat | resumeCool | resumeGuard | resumeClose | clearAllAdvisory => exact hrow _ _ hw
  case clearAdvisoryFault =>
    exact hrow _ _ (rowOk_iff.2 ((rowOk_iff.1 hw).imp_right fun h h1 h2 => advisoryTarget_isSome (h h1 h2)))
  case clearBlockingFault =>
    exact hrow _ _ (rowOk_iff.2 ((rowOk_iff.1 hw).imp_right fun h h1 h2 => blockingTarget_isSome (h h1 h2)))
  all_goals exact hplain _ hw

/-! ### The checks, in their order (R164) -/

theorem Link.drops_iff (l : Link) : l.drops = true ↔ l.resetHold = true ∨ 10 ≤ l.transmit.length + l.deferred.length := by
  simp only [Link.drops, Bool.or_eq_true, decide_eq_true_eq]
  exact Iff.rfl

theorem Dev.not_drops_of_linkFree (h : d.linkFree) : d.link.drops = false := by
  obtain ⟨hhold, hroom⟩ := h
  rw [Bool.eq_false_iff, Ne, Link.drops_iff]
  simp only [hhold, Bool.false_eq_true, false_or]
  omega

theorem Dev.verdict_drops (h : d.link.drops = true) : d.verdict q payload = .discard := if_pos h

theorem Dev.verdict_length (hf : d.linkFree) (h : q.lengthOk payload = false) :
    d.verdict q payload = .refuse [Result.length.byte] := by
  simp [Dev.verdict, Dev.not_drops_of_linkFree hf, h]

theorem Dev.verdict_pocket (hf : d.linkFree) (hl : q.lengthOk payload = true) (hn : q.namesPocket = true)
    (h : pocketOf payload = none) : d.verdict q payload = .refuse [Result.pocket.byte, pocketByte payload] := by
  simp [Dev.verdict, Dev.not_drops_of_linkFree hf, hl, hn, h]

/-- Past check 5: the codes, the run state, and the deferred duplicate. -/
theorem Dev.verdict_past_pocket (hf : d.linkFree) (hl : q.lengthOk payload = true)
    (hp : q.namesPocket = true → pocketOf payload ≠ none) : d.verdict q payload =
      if q.enumsOk payload = false then .refuse (d.refusal q payload .unknown)
      else if d.run ≠ .run ∧ q ≠ .status then .refuse (d.refusal q payload .state)
      else if d.duplicate q payload then .refuse (d.refusal q payload .busy) else .dispatch := by
  have hp' : (q.namesPocket && (pocketOf payload).isNone) = false := by
    cases hn : q.namesPocket
    · rfl
    · simpa [Option.isSome_iff_ne_none] using hp hn
  simp [Dev.verdict, Dev.not_drops_of_linkFree hf, hl, hp']

theorem Dev.refusal_device (r : Result) (hn : q.namesPocket = false) : d.refusal q payload r = [r.byte] := by
  simp [Dev.refusal, hn]

theorem Dev.refusal_pocket {p : Pocket} (r : Result) (hn : q.namesPocket = true) (hp : pocketOf payload = some p)
    (h : q ≠ .report ∨ r = .unknown) : d.refusal q payload r = [r.byte, pocketIndexByte p] := by
  have hnot : ¬(q = .report ∧ r ≠ .unknown) := by
    rintro ⟨h1, h2⟩
    exact h.elim (absurd h1) (absurd · h2)
  simp [Dev.refusal, hn, hnot, namedPocket, hp, pocketReply]

theorem Dev.refusal_report {p : Pocket} (r : Result) (hr : r ≠ .unknown) (hp : pocketOf payload = some p) :
    d.refusal .report payload r = [r.byte, pocketIndexByte p, BitVec.ofNat 8 (d.pendingCount p)] := by
  simp [Dev.refusal, Request.namesPocket, hr, namedPocket, hp, pocketReply, byte1, leBytes]

end

/-- A frame of no request type is answered UNKNOWN, or discarded by checks 1 and 2 (R164). -/
theorem unknownRequestType_of_hears {d : Dev} {type : Byte} {payload : List Byte} (h : d.hears type payload = true)
    (hnot : isRequestType type = false) : unknownRequestType type payload d =
      if d.link.drops then d.setReceiver .hunting else d.replied (replyType type) [Result.unknown.byte] := by
  rw [unknownRequestType, if_pos (by simp [h, hnot])]
  rfl

end Sys2Proof.Machine

namespace Sys2Proof.Proofs
open Sys2Proof.Machine

/-- Settles O37: check by check, from the verdict on the request that the command serves. -/
theorem linkChecks : Obligations.LinkChecks := by
  intro c q payload s hreq hw hrun hbegins
  obtain ⟨hfits, owner, hexec⟩ := exec_request hreq hw s
  have hhears := (Dev.hears_iff (payload := payload) q.typeByte).2 ⟨hrun, hfits, hbegins⟩
  have hrefuse {r : List Byte} (h : s.dev.verdict q payload = .refuse r) :
      exec c s = .next { s with dev := s.dev.replied q.replyType r } := by
    rw [hexec, Dev.serveRequest_of_refuse owner hhears h]
  refine ⟨fun hdrop => ?_, fun hf => ⟨fun hl => hrefuse (Dev.verdict_length hf hl), fun hl => ⟨fun hn hp => ?_,
    fun hn he => ?_, fun hn he hr hq => ?_, fun hq hr ho => ?_, fun p hn hp => ⟨fun he => ?_, fun he hr => ?_,
    fun he hr hd ho => ?_⟩⟩⟩⟩
  · rw [hexec, Dev.serveRequest_of_discard owner hhears (Dev.verdict_drops ((Link.drops_iff _).2 hdrop))]
    rfl
  · exact hrefuse (Dev.verdict_pocket hf hl hn hp)
  · refine hrefuse ?_
    rw [Dev.verdict_past_pocket hf hl (by simp [hn]), if_pos he, Dev.refusal_device _ hn]
    rfl
  · refine hrefuse ?_
    rw [Dev.verdict_past_pocket hf hl (by simp [hn]), if_neg (by simp [he]), if_pos ⟨hr, hq⟩, Dev.refusal_device _ hn]
    rfl
  · subst hq
    refine hrefuse ?_
    rw [Dev.verdict_past_pocket hf hl (by simp [Request.namesPocket]), if_neg (by simp [Request.enumsOk]),
      if_neg (by simp [hr]), if_pos (by simpa [Dev.duplicate, Request.deferrable, Request.namesPocket] using ho),
      Dev.refusal_device _ rfl]
    rfl
  all_goals have hpast := Dev.verdict_past_pocket hf hl (fun _ => by rw [hp]; simp)
  · refine hrefuse ?_
    rw [hpast, if_pos he, Dev.refusal_pocket _ hn hp (.inr rfl)]
    rfl
  · have hq : q ≠ .status := by
      rintro rfl
      simp [Request.namesPocket] at hn
    rw [if_neg (by simp [he]), if_pos ⟨hr, hq⟩] at hpast
    refine ⟨fun hreport => hrefuse ?_, fun hreport => hrefuse ?_⟩
    · subst hreport
      rw [hpast, Dev.refusal_report _ (by simp) hp]
      rfl
    · rw [hpast, Dev.refusal_pocket _ hn hp (.inl hreport)]
      rfl
  · have hq : q ≠ .report := by
      rintro rfl
      simp [Request.deferrable] at hd
    refine hrefuse ?_
    rw [hpast, if_neg (by simp [he]), if_neg (by simp [hr]),
      if_pos (by simpa [Dev.duplicate, hd, hn, namedPocket, hp] using ho), Dev.refusal_pocket _ hn hp (.inl hq)]
    rfl

/-- Settles O38: the unknown type, the reply sent, and TXD. -/
theorem unknownTypeAndReplySent : Obligations.UnknownTypeAndReplySent := by
  refine ⟨fun s type payload hrun hfits htype hbegins => ?_, fun s r rest hr => ⟨?_, fun hrun => ?_⟩,
    fun d => ⟨fun hrun hnone => ?_, fun hrun => ?_⟩⟩
  · have hnot : isRequestType type = false := by
      simp only [isRequestType, Bool.and_eq_false_iff, decide_eq_false_iff_not]
      omega
    have hexec : exec (.unknownRequestType type payload) s =
        .next { s with dev := unknownRequestType type payload s.dev } := rfl
    rw [hexec, unknownRequestType_of_hears ((Dev.hears_iff type).2 ⟨hrun, hfits, hbegins⟩) hnot]
    refine ⟨fun hf => ?_, fun hf => ?_⟩
    · rw [if_neg (by simp [Dev.not_drops_of_linkFree hf])]
      rfl
    · rw [if_pos]
      · rfl
      · rw [Link.drops_iff]
        rw [Dev.linkFree, Classical.not_and_iff_not_or_not] at hf
        exact hf.imp (by simp) (by omega)
  · show Host.Outcome.next _ = _
    simp [replySent, hr, Dev.setLink]
  · simp [Dev.txdPin, Dev.powered, hrun, hr]
  · simp [Dev.txdPin, Dev.powered, hrun, hnone]
  · simp [Dev.txdPin, Dev.powered, hrun]

end Sys2Proof.Proofs
end

section
/-! Reception: the bytes of a frame, and the dispatch of a whole one (O36). -/

namespace Sys2Proof.Machine

/-! ### Dispatch by type is the request's own command (R163) -/

section
variable {q : Request} {payload : List Byte}

theorem Dev.serveRequest_congr {d : Dev} (o o' : Dev → Dev) (h : d.verdict q payload ≠ .dispatch) :
    d.serveRequest q payload o = d.serveRequest q payload o' := by
  unfold Dev.serveRequest
  split
  · cases hv : (d.setReceiver .hunting).verdict q payload with
    | dispatch => exact absurd hv h
    | discard => simp only [hv]
    | refuse r => simp only [hv]
  · rfl

theorem Dev.verdict_of_bad {d : Dev} (h : ¬(q.lengthOk payload = true ∧ q.enumsOk payload = true)) :
    d.verdict q payload ≠ .dispatch := by
  unfold Dev.verdict
  rcases Classical.not_and_iff_not_or_not.1 h with h | h
  · simp only [h, Bool.not_false, if_true]
    split <;> simp
  · simp only [h, Bool.not_false, if_true]
    (repeat' split) <;> simp

/-- What a RESUME frame's command, or a CLEAR frame's, does: the row that the second byte picks is served. -/
def RowPicked (q : Request) (payload : List Byte) (hear : Dev → Dev) : Prop :=
  ∃ owner, ∀ d : Dev, hear d = d.serveRequest q payload owner

theorem rowPicked_of_mine {mine : Nat → Bool} {owner : Pocket → Dev → Dev}
    (h : q.lengthOk payload = true → q.enumsOk payload = true → mine (secondByte payload) = true) :
    RowPicked q payload (Dev.serveRow q payload mine owner) :=
  ⟨_, fun _ => Dev.serveRow_of_rowOk owner h⟩

theorem hearResume_rowPicked (payload : List Byte) : RowPicked .resume payload (hearResume payload) := by
  unfold hearResume
  split
  · next h => exact rowPicked_of_mine fun _ _ => by simp [h]
  split
  · next h => exact rowPicked_of_mine fun _ _ => by simp [h]
  split
  · next h => exact rowPicked_of_mine fun _ _ => by simp [h]
  split
  · next h => exact rowPicked_of_mine fun _ _ => by simp [h]
  · next h1 h2 h3 h4 =>
    refine rowPicked_of_mine fun _ he => ?_
    have hle : secondByte payload ≤ 4 := by simpa [Request.enumsOk] using he
    simp only [reheatCode, coolCode, guardCode, closeCode] at h1 h2 h3 h4
    simp only [acceptCode, beq_iff_eq]
    omega

/-- A target code that passes the checks of R164 is that of an advisory fault, of a blocking one, or of all the advisory. -/
theorem clearTarget_cases {n : Nat} (h : (PocketFault.ofCode n).isSome = true) :
    (advisoryTarget n).isSome = true ∨ (blockingTarget n).isSome = true := by
  cases hf : PocketFault.ofCode n with
  | none => simp [hf] at h
  | some f => cases hadv : f.isAdvisory <;> simp [advisoryTarget, blockingTarget, hf, hadv]

theorem hearClear_rowPicked (payload : List Byte) : RowPicked .clear payload (hearClear payload) := by
  unfold hearClear
  split
  · next h => exact rowPicked_of_mine fun _ _ => h
  split
  · next h => exact rowPicked_of_mine fun _ _ => h
  · next h1 h2 =>
    refine rowPicked_of_mine fun _ he => ?_
    simp only [Request.enumsOk, Bool.or_eq_true] at he
    exact he.elim id fun he => absurd (clearTarget_cases he) (by simp [h1, h2])

/-- The command of a row does what the dispatch of its frame does: with sound codes it is the row that the second byte
picks, and without them no owner is reached. -/
theorem Dev.row_of_frame {d : Dev} {mine : Nat → Bool} {owner : Pocket → Dev → Dev} {hear : Dev → Dev}
    (hhear : RowPicked q payload hear) (hw : rowOk q payload mine = true)
    (hpick : mine (secondByte payload) = true → hear = Dev.serveRow q payload mine owner) :
    d.serveRow q payload mine owner = hear d := by
  by_cases hok : q.lengthOk payload = true ∧ q.enumsOk payload = true
  · rw [hpick ((rowOk_iff.1 hw).2 hok.1 hok.2)]
  · obtain ⟨o, ho⟩ := hhear
    rw [ho, Dev.serveRow_of_rowOk owner (rowOk_iff.1 hw).2]
    exact Dev.serveRequest_congr _ _ (Dev.verdict_of_bad hok)

/-- The commands of RESUME do what the dispatch of a RESUME frame does. -/
theorem Dev.resumeRow_of_frame {d : Dev} (code : Nat) {owner : Pocket → Dev → Dev}
    (hw : rowOk .resume payload (· == code) = true)
    (hpick : secondByte payload = code → hearResume payload = Dev.serveRow .resume payload (· == code) owner) :
    d.serveRow .resume payload (· == code) owner = hearResume payload d :=
  Dev.row_of_frame (hearResume_rowPicked payload) hw fun h => hpick (beq_iff_eq.1 h)

/-- The commands of CLEAR do what the dispatch of a CLEAR frame does. -/
theorem Dev.clearRow_of_frame {d : Dev} {mine : Nat → Bool} {owner : Pocket → Dev → Dev}
    (hw : rowOk .clear payload mine = true)
    (hpick : mine (secondByte payload) = true → hearClear payload = Dev.serveRow .clear payload mine owner) :
    d.serveRow .clear payload mine owner = hearClear payload d :=
  Dev.row_of_frame (hearClear_rowPicked payload) hw hpick

theorem rowOk_weaken {mine mine' : Nat → Bool} (h : rowOk q payload mine = true)
    (himp : ∀ n, mine n = true → mine' n = true) : rowOk q payload mine' = true :=
  rowOk_iff.2 ((rowOk_iff.1 h).imp_right fun h h1 h2 => himp _ (h h1 h2))

theorem advisoryTarget_of_blocking {n : Nat} (h : (blockingTarget n).isSome = true) : (advisoryTarget n).isSome = false := by
  cases hf : PocketFault.ofCode n with
  | none => simp [advisoryTarget, hf]
  | some f => cases hadv : f.isAdvisory <;> simp_all [advisoryTarget, blockingTarget]

theorem hearClear_all (h : secondByte payload = clearAllCode) : hearClear payload = hearClearAllAdvisory payload := by
  simp [hearClear, h, clearAllCode, advisoryTarget, blockingTarget, PocketFault.ofCode]

/-- What a request command does is the dispatch of its frame (R163). -/
theorem exec_request_dispatch {c : Instr} (h : requestOf c = some (q, payload)) (hw : c.wellFormed = true) (s : State) :
    exec c s = .next { s with dev := dispatchFrame q.typeByte payload s.dev } := by
  cases c <;> simp only [requestOf, reduceCtorEq, Option.some.injEq, Prod.mk.injEq] at h <;> obtain ⟨rfl, rfl⟩ := h <;>
    refine congrArg (fun d => Host.Outcome.next { s with dev := d }) ?_
  case resumeAccept payload =>
    refine Dev.resumeRow_of_frame 0 hw fun h => ?_
    rw [hearResume, h]
    exact rfl
  case resumeReheat payload =>
    refine Dev.resumeRow_of_frame 1 hw fun h => ?_
    rw [hearResume, h]
    exact rfl
  case resumeCool payload =>
    refine Dev.resumeRow_of_frame 2 hw fun h => ?_
    rw [hearResume, h]
    exact rfl
  case resumeGuard payload =>
    refine Dev.resumeRow_of_frame 3 hw fun h => ?_
    rw [hearResume, h]
    exact rfl
  case resumeClose payload =>
    refine Dev.resumeRow_of_frame 4 hw fun h => ?_
    rw [hearResume, h]
    exact rfl
  case clearAllAdvisory payload => exact Dev.clearRow_of_frame hw fun h => hearClear_all (beq_iff_eq.1 h)
  case clearAdvisoryFault payload =>
    refine Dev.clearRow_of_frame (rowOk_weaken hw fun _ => advisoryTarget_isSome) fun h => ?_
    rw [hearClear, if_pos h]
    exact rfl
  case clearBlockingFault payload =>
    refine Dev.clearRow_of_frame (rowOk_weaken hw fun _ => blockingTarget_isSome) fun h => ?_
    rw [hearClear, if_neg (by simp [advisoryTarget_of_blocking h]), if_pos h]
    exact rfl
  all_goals rfl

/-- The dispatch of a frame of a request type serves that request, whatever the state. -/
theorem dispatchFrame_serves (q : Request) (payload : List Byte) : RowPicked q payload (dispatchFrame q.typeByte payload) := by
  cases q
  case resume => exact hearResume_rowPicked payload
  case clear => exact hearClear_rowPicked payload
  all_goals exact ⟨_, fun _ => rfl⟩

/-- Two receivers that are in the same frame serve its request alike. -/
theorem Dev.serveRequest_setReceiver {d : Dev} {r : Receiver} (o : Dev → Dev)
    (h : d.hears q.typeByte payload = true) (hr : (d.setReceiver r).hears q.typeByte payload = true) :
    (d.setReceiver r).serveRequest q payload o = d.serveRequest q payload o := by
  rw [Dev.serveRequest, if_pos hr, Dev.serveRequest, if_pos h]
  rfl

theorem unknownRequestType_setReceiver {d : Dev} {type : Byte} {r : Receiver} (hnot : isRequestType type = false)
    (h : d.hears type payload = true) (hr : (d.setReceiver r).hears type payload = true) :
    unknownRequestType type payload (d.setReceiver r) = unknownRequestType type payload d := by
  rw [unknownRequestType_of_hears hr hnot, unknownRequestType_of_hears h hnot]
  rfl

end

/-! ### The bytes of a frame (R163) -/

/-- A frame whose length and type have arrived, with this much of its payload. -/
def RxFrame.gathered (n type : Byte) (payload : List Byte) : RxFrame :=
  ⟨some n, some type, payload, payload.foldl (· + ·) (n + type)⟩

/-- Payload bytes that still belong to the frame are gathered. -/
theorem Receiver.run_payload {n type : Byte} {got bs : List Byte} (h : got.length + bs.length ≤ n.toNat) :
    Receiver.run false bs (.inFrame (.gathered n type got)) = some (.inFrame (.gathered n type (got ++ bs))) := by
  induction bs generalizing got with
  | nil => simp [Receiver.run]
  | cons b bs ih =>
    have hlt : got.length < n.toNat := by
      simp only [List.length_cons] at h
      omega
    have htake : Receiver.take (.inFrame (.gathered n type got)) b false = .on (.inFrame (.gathered n type (got ++ [b]))) := by
      simp [Receiver.take, RxFrame.take, RxFrame.gathered, hlt]
    have hrest : (got ++ [b]).length + bs.length ≤ n.toNat := by
      simp only [List.length_cons, List.length_append, List.length_nil] at h ⊢
      omega
    simp [Receiver.run, htake, ih hrest]

/-- The length, the type and the payload of a frame are gathered. -/
theorem Receiver.run_body {n type : Byte} {payload : List Byte} (hlen : payload.length = n.toNat) (hfit : n.toNat ≤ 56) :
    Receiver.run false (n :: type :: payload) (.inFrame .empty) = some (.inFrame (.gathered n type payload)) := by
  have hlength : Receiver.take (.inFrame .empty) n false = .on (.inFrame ⟨some n, none, [], n⟩) := by
    simp [Receiver.take, RxFrame.take, RxFrame.empty, payloadTop, Nat.not_lt.2 hfit]
  have htype : Receiver.take (.inFrame ⟨some n, none, [], n⟩) type false = .on (.inFrame (.gathered n type [])) := rfl
  simpa [Receiver.run, hlength, htype] using Receiver.run_payload (type := type) (got := []) (Nat.le_of_eq (by simpa using hlen))

/-- The checksum byte completes a whole frame whose sum is 0, and discards it otherwise. -/
theorem RxFrame.take_check {n type check : Byte} {payload : List Byte} (hlen : payload.length = n.toNat) :
    (RxFrame.gathered n type payload).take check =
      if payload.foldl (· + ·) (n + type) + check = 0 then .completed type payload else .on .hunting := by
  exact if_neg (Nat.not_lt.2 (Nat.le_of_eq hlen.symm))

/-- Bytes among which no frame completes leave the receiver where they bring it. -/
theorem receiveBytes_run {bs rest : List Byte} {r r' : Receiver} (d : Dev) (h : Receiver.run false bs r = some r') :
    receiveBytes false (bs ++ rest) (d.setReceiver r) = receiveBytes false rest (d.setReceiver r') := by
  induction bs generalizing r with
  | nil => cases h; rfl
  | cons b bs ih =>
    have hr : (d.setReceiver r).link.receiver = r := rfl
    simp only [Receiver.run, Bool.false_and] at h
    cases ht : r.take b false with
    | on r1 =>
      simp only [ht] at h
      simp only [List.cons_append, receiveBytes, Bool.false_and, hr, ht]
      exact ih h
    | completed type payload => simp [ht] at h

/-- A whole frame arrives in a receiver that has its sync byte. -/
theorem receiveBytes_frame {d : Dev} {n type check : Byte} {payload : List Byte}
    (hr : d.link.receiver = .inFrame .empty) (hlen : payload.length = n.toNat) (hfit : n.toNat ≤ 56) :
    receiveBytes false (n :: type :: payload ++ [check]) d =
      if payload.foldl (· + ·) (n + type) + check = 0 then
        dispatchFrame type payload (d.setReceiver (.inFrame (.gathered n type payload)))
      else d.setReceiver .hunting := by
  have hsame : receiveBytes false (n :: type :: payload ++ [check]) d =
      receiveBytes false (n :: type :: payload ++ [check]) (d.setReceiver (.inFrame .empty)) := by
    have hempty : (d.setReceiver (.inFrame .empty)).link.receiver = .inFrame .empty := rfl
    have hlength : Receiver.take (.inFrame .empty) n false = .on (.inFrame ⟨some n, none, [], n⟩) := by
      simp [Receiver.take, RxFrame.take, RxFrame.empty, payloadTop, Nat.not_lt.2 hfit]
    simp only [List.cons_append, receiveBytes, Bool.false_and, hr, hempty, hlength]
    exact rfl
  have hlast : (d.setReceiver (.inFrame (.gathered n type payload))).link.receiver.take check false =
      (RxFrame.gathered n type payload).take check := rfl
  rw [hsame, receiveBytes_run d (Receiver.run_body hlen hfit), receiveBytes, Bool.false_and, hlast, RxFrame.take_check hlen]
  by_cases hsum : payload.foldl (· + ·) (n + type) + check = 0
  · rw [if_pos hsum, if_pos hsum]
    exact rfl
  · rw [if_neg hsum, if_neg hsum]
    exact rfl

theorem frameDiscard_of_inFrame {d : Dev} {f : RxFrame} (bytes : List Byte) (badStop : Bool) (hrun : d.run ≠ .backup)
    (hr : d.link.receiver = .inFrame f) : frameDiscard bytes badStop d = receiveBytes badStop bytes d := by
  simp [frameDiscard, Dev.powered, hrun, hr]

theorem RxFrame.gathered_begins {n type : Byte} {payload : List Byte} (hlen : payload.length = n.toNat) :
    (Receiver.inFrame (.gathered n type payload)).begins type payload = true := by
  simp [Receiver.begins, RxFrame.begins, RxFrame.gathered, hlen]

/-- The bytes of a whole frame do what the command of its request does. -/
theorem exec_frame_request {s : State} {n check : Byte} {payload : List Byte} {c : Instr} {q : Request}
    (hrun : s.dev.run ≠ .backup) (hr : s.dev.link.receiver = .inFrame .empty) (hlen : payload.length = n.toNat)
    (hfit : n.toNat ≤ 56) (hsum : payload.foldl (· + ·) (n + q.typeByte) + check = 0)
    (hc : requestOf c = some (q, payload)) (hw : c.wellFormed = true) :
    exec (.frameDiscard (n :: q.typeByte :: payload ++ [check]) false) s = exec c s := by
  obtain ⟨owner, howner⟩ := dispatchFrame_serves q payload
  have hfit' : payload.length ≤ 56 := hlen ▸ hfit
  have hears : s.dev.hears q.typeByte payload = true := (Dev.hears_iff _).2 ⟨hrun, hfit', by rw [hr]; rfl⟩
  have hears' : (s.dev.setReceiver (.inFrame (.gathered n q.typeByte payload))).hears q.typeByte payload = true :=
    (Dev.hears_iff _).2 ⟨hrun, hfit', RxFrame.gathered_begins hlen⟩
  rw [exec_request_dispatch hc hw]
  refine congrArg (fun d => Host.Outcome.next { s with dev := d }) ?_
  rw [frameDiscard_of_inFrame _ _ hrun hr, receiveBytes_frame hr hlen hfit, if_pos hsum, howner, howner]
  exact Dev.serveRequest_setReceiver owner hears hears'

theorem ofType_of_not_request {type : Byte} (h : type.toNat = 0 ∨ 14 < type.toNat) : Request.ofType type = none := by
  unfold Request.ofType
  split
  any_goals omega
  rfl

theorem not_isRequestType {type : Byte} (h : type.toNat = 0 ∨ 14 < type.toNat) : isRequestType type = false := by
  simp only [isRequestType, Bool.and_eq_false_iff, decide_eq_false_iff_not]
  omega

/-- The bytes of a whole frame of no request type do what UNKNOWN_REQUEST_TYPE does. -/
theorem exec_frame_unknown {s : State} {n type check : Byte} {payload : List Byte}
    (hrun : s.dev.run ≠ .backup) (hr : s.dev.link.receiver = .inFrame .empty) (hlen : payload.length = n.toNat)
    (hfit : n.toNat ≤ 56) (hsum : payload.foldl (· + ·) (n + type) + check = 0)
    (htype : type.toNat = 0 ∨ 14 < type.toNat) :
    exec (.frameDiscard (n :: type :: payload ++ [check]) false) s = exec (.unknownRequestType type payload) s := by
  have hfit' : payload.length ≤ 56 := hlen ▸ hfit
  have hears : s.dev.hears type payload = true := (Dev.hears_iff _).2 ⟨hrun, hfit', by rw [hr]; rfl⟩
  have hears' : (s.dev.setReceiver (.inFrame (.gathered n type payload))).hears type payload = true :=
    (Dev.hears_iff _).2 ⟨hrun, hfit', RxFrame.gathered_begins hlen⟩
  refine congrArg (fun d => Host.Outcome.next { s with dev := d }) ?_
  rw [frameDiscard_of_inFrame _ _ hrun hr, receiveBytes_frame hr hlen hfit, if_pos hsum, dispatchFrame,
    ofType_of_not_request htype]
  exact unknownRequestType_setReceiver (not_isRequestType htype) hears hears'

/-- A frame as the part sends it has a sum of 0. -/
theorem checksumByte_sum (n type : Byte) (payload : List Byte) :
    payload.foldl (· + ·) (n + type) + checksumByte (n :: type :: payload) = 0 := by
  have hneg (x : Byte) : x + (0 - x) = 0 := by bv_omega
  have hzero : (0 : Byte) + n + type = n + type := by simp
  simp only [checksumByte, List.foldl_cons, hzero, hneg]

end Sys2Proof.Machine

namespace Sys2Proof.Proofs

open Sys2Proof.Machine

/-- Settles O36: each byte of a frame by the receiver's step, the payload by induction, and the whole frame by dispatch. -/
theorem frameReception : Obligations.FrameReception := by
  unfold Obligations.FrameReception
  refine ⟨fun s hrun hr => ?_, fun s f hrun hr => ⟨?_, fun b => ?_, fun hf n type check payload => ⟨fun hn => ?_,
    fun hlen hfit hsum => ?_, fun hlen hfit hsum => ⟨fun c q hc hw htype => ?_, fun htype => ?_⟩⟩⟩, fun r hfit => ?_⟩
  · refine congrArg (fun d => Host.Outcome.next { s with dev := d }) ?_
    rw [syncByte, if_pos (by simp [Dev.powered, hrun, hr])]
    rfl
  · refine congrArg (fun d => Host.Outcome.next { s with dev := d }) ?_
    rw [rxGapTimeout, if_pos (by simp [Dev.powered, hrun, hr])]
    rfl
  · refine congrArg (fun d => Host.Outcome.next { s with dev := d }) ?_
    rw [frameDiscard_of_inFrame _ _ hrun hr, receiveBytes, hr]
    exact rfl
  · refine congrArg (fun d => Host.Outcome.next { s with dev := d }) ?_
    have htake : (Receiver.inFrame f).take n false = .on .hunting := by
      simp [Receiver.take, RxFrame.take, hf, payloadTop, hn]
    rw [frameDiscard_of_inFrame _ _ hrun hr, receiveBytes, Bool.false_and, hr, htake]
    exact rfl
  · refine congrArg (fun d => Host.Outcome.next { s with dev := d }) ?_
    rw [frameDiscard_of_inFrame _ _ hrun hr, receiveBytes_frame (hr.trans (congrArg _ hf)) hlen hfit, if_neg hsum]
    exact rfl
  · subst htype
    exact exec_frame_request (q := q) hrun (hr.trans (congrArg _ hf)) hlen hfit hsum hc hw
  · exact exec_frame_unknown hrun (hr.trans (congrArg _ hf)) hlen hfit hsum htype
  · have hn : (BitVec.ofNat 8 r.payload.length).toNat = r.payload.length := by
      rw [BitVec.toNat_ofNat]
      omega
    refine ⟨BitVec.ofNat 8 r.payload.length :: r.type :: r.payload,
      checksumByte (BitVec.ofNat 8 r.payload.length :: r.type :: r.payload),
      .gathered (BitVec.ofNat 8 r.payload.length) r.type r.payload, rfl, ?_, ?_⟩
    · exact Receiver.run_body hn.symm (Nat.le_trans (Nat.le_of_eq hn) hfit)
    · rw [RxFrame.take_check hn.symm, if_pos (checksumByte_sum _ _ _)]

end Sys2Proof.Proofs
end

section
/-! Requests that are answered at once from what the part holds: what a report merges, GUARD, PLAN and HISTORY
(O42, O45, O46). -/

namespace Sys2Proof.Machine

/-! ### The command of an admitted request -/

section
variable {q : Request} {payload : List Byte} {s : State} {p : Pocket}

/-- The next state of a command that names a pocket is its owner's, the receiver hunting. -/
theorem Admitted.next_servePocket (h : Admitted q payload s.dev) (hp : pocketOf payload = some p)
    (owner : Pocket → Dev → Dev) : onDev (Dev.servePocket q payload owner) s =
      .next { s with dev := owner p (s.dev.setReceiver .hunting) } := by
  rw [onDev, h.servePocket hp owner]

/-- The same of a row whose value the frame carries. -/
theorem Admitted.next_serveRow (h : Admitted q payload s.dev) (hp : pocketOf payload = some p) {mine : Nat → Bool}
    (hm : mine (secondByte payload) = true) (owner : Pocket → Dev → Dev) : onDev (Dev.serveRow q payload mine owner) s =
      .next { s with dev := owner p (s.dev.setReceiver .hunting) } := by
  rw [onDev, h.serveRow hp hm owner]

end

@[simp] theorem Dev.setReceiver_frame (r : Receiver) (d : Dev) :
    (d.setReceiver r).pins = d.pins ∧ (d.setReceiver r).bkd = d.bkd ∧ (d.setReceiver r).run = d.run ∧
    (d.setReceiver r).settle = d.settle ∧ (d.setReceiver r).reserve = d.reserve ∧ (d.setReceiver r).adc = d.adc ∧
    (d.setReceiver r).faults = d.faults ∧ (d.setReceiver r).sns = d.sns ∧ (d.setReceiver r).psq = d.psq ∧
    (d.setReceiver r).image = d.image ∧ (d.setReceiver r).engine = d.engine ∧ (d.setReceiver r).ring = d.ring ∧
    (d.setReceiver r).scan = d.scan ∧ (d.setReceiver r).journal = d.journal ∧ (d.setReceiver r).plan = d.plan ∧
    (d.setReceiver r).arbiter = d.arbiter ∧ (d.setReceiver r).tmb = d.tmb ∧ (d.setReceiver r).freeCount = d.freeCount := by
  simp [Dev.setReceiver]

/-! ### Fields -/

theorem leValue_lt (bs : List Byte) : leValue bs < 256 ^ bs.length := by
  induction bs with
  | nil => simp [leValue]
  | cons b bs ih =>
    have hb : b.toNat < 256 := b.isLt
    rw [leValue, List.length_cons, Nat.pow_succ]
    omega

theorem fieldValue_lt (bs : List Byte) (offset n : Nat) : fieldValue bs offset n < 256 ^ n :=
  Nat.lt_of_lt_of_le (leValue_lt _) (Nat.pow_le_pow_right (by omega) (by simp only [field, List.length_take, List.length_drop]; omega))

theorem byte1_eq (v : Nat) : byte1 v = [BitVec.ofNat 8 v] := rfl

theorem byte1_toNat (b : Byte) : byte1 b.toNat = [b] := by rw [byte1_eq, BitVec.ofNat_toNat, BitVec.setWidth_eq]

theorem byte1_bit (b : Bool) : byte1 (bit b) = [if b then 1 else 0] := by cases b <;> rfl

/-! ### What a report merges (R60, R61) -/

/-- A field of one byte is at most 255. -/
theorem reportField_four_le {payload : List Byte} {v : Nat} (h : reportField payload 4 = some v) : v ≤ 255 := by
  have hlt (o : Nat) := fieldValue_lt payload o 1
  simp only [reportField] at h
  split at h
  · cases h
    exact Nat.le_of_lt_succ (hlt _)
  · cases h

theorem reportField_eq_none_iff (payload : List Byte) (i : Nat) :
    reportField payload i = none ↔ (payload.getD 1 0).getLsbD i = false := by
  have heq : reportField payload i = if (payload.getD 1 0).getLsbD i then
      some (fieldValue payload (reportOffset (payload.getD 1 0) i) (reportFieldLength i)) else none := rfl
  rw [heq]
  cases (payload.getD 1 0).getLsbD i <;> simp

/-- A mask that names at most the phase names no body field. -/
theorem reportField_eq_none {payload : List Byte} {i : Nat} (h : (payload.getD 1 0).toNat % 128 ≤ 1) (hi : 1 ≤ i)
    (hi' : i ≤ 6) : reportField payload i = none := by
  rw [reportField_eq_none_iff, BitVec.getLsbD]
  have hmod : ((payload.getD 1 0).toNat % 2 ^ 7).testBit i = (payload.getD 1 0).toNat.testBit i := by
    rw [Nat.testBit_mod_two_pow]
    simp
    omega
  rw [← hmod]
  exact Nat.testBit_lt_two_pow (by calc (payload.getD 1 0).toNat % 2 ^ 7 < 2 ^ 1 := by omega
                                     _ ≤ 2 ^ i := Nat.pow_le_pow_right (by omega) hi)

theorem exceeds_iff {top : Nat} {o : Option Nat} : exceeds top o = true ↔ ∃ v, o = some v ∧ top < v := by
  cases o <;> simp [exceeds]

theorem reportClamped_iff {payload : List Byte} {b : Body} (henergy : b.energy ≤ 65535) (hrun : b.runTime ≤ 65535) :
    reportClamped payload b = true ↔
      (∃ v, reportField payload 1 = some v ∧ 14400 < v) ∨ (∃ v, reportField payload 2 = some v ∧ 3600 < v) ∨
      (∃ v, reportField payload 3 = some v ∧ 2 < v) ∨ (∃ v, reportField payload 5 = some v ∧ 65535 < b.energy + v) ∨
      (∃ v, reportField payload 6 = some v ∧ 65535 < b.runTime + v) := by
  have hsum {x v : Nat} (h : x ≤ 65535) : 65535 - x < v ↔ 65535 < x + v := by omega
  simp only [reportClamped, Bool.or_eq_true, exceeds_iff, hsum henergy, hsum hrun, or_assoc]

/-! ### GUARD (R152, R157) -/

theorem clampNat_bounds {lo hi : Nat} (x : Nat) (h : lo ≤ hi) : lo ≤ clampNat x lo hi ∧ clampNat x lo hi ≤ hi := by
  unfold clampNat
  (repeat' split) <;> omega

theorem clampNat_of_mem {x lo hi : Nat} (hlo : lo ≤ x) (hhi : x ≤ hi) : clampNat x lo hi = x := by
  unfold clampNat
  (repeat' split) <;> omega

theorem clampGuard_bounds (r : GuardProgram) : 2 ≤ (clampGuard r).on ∧ (clampGuard r).on ≤ 60 ∧
    (clampGuard r).on + 5 ≤ (clampGuard r).period ∧ (clampGuard r).period ≤ 600 ∧ 1 ≤ (clampGuard r).bursts ∧
    (clampGuard r).bursts ≤ 255 ∧ (clampGuard r).reverse ≤ 1 := by
  have hon : 2 ≤ (clampGuard r).on ∧ (clampGuard r).on ≤ 60 := clampNat_bounds r.on (by omega)
  have hperiod : (clampGuard r).on + 5 ≤ (clampGuard r).period ∧ (clampGuard r).period ≤ 600 :=
    clampNat_bounds r.period (by omega)
  have hbursts : 1 ≤ (clampGuard r).bursts ∧ (clampGuard r).bursts ≤ 255 := clampNat_bounds r.bursts (by omega)
  have hreverse : (clampGuard r).reverse ≤ 1 := by
    simp only [clampGuard]
    split <;> omega
  exact ⟨hon.1, hon.2, hperiod.1, hperiod.2, hbursts.1, hbursts.2, hreverse⟩

theorem clampGuard_reverse_eq_zero_iff (r : GuardProgram) : (clampGuard r).reverse = 0 ↔ r.reverse = 0 := by
  simp only [clampGuard]
  split <;> simp_all

theorem Sequencer.open_iff (q : Sequencer) : q.open = true ↔ q.state.active = true ∧ q.mark = none := by
  simp [Sequencer.open]

theorem Sequencer.open_eq_false_iff (q : Sequencer) : q.open = false ↔ q.state.active = false ∨ q.mark ≠ none := by
  simp only [Sequencer.open, Bool.and_eq_false_iff, Option.isNone_eq_false_iff, Option.isSome_iff_ne_none]

/-- The program that a taken GUARD brings is staged in the timer or goes into the image, and nothing else moves. -/
theorem Dev.takeGuard_anticrease {d : Dev} {p : Pocket} (g : GuardProgram) (h : (d.psq.get p).state = .anticrease) :
    d.takeGuard p g = d.setTmb p { d.tmb.get p with staged := some g } := if_pos h

theorem Dev.takeGuard_image {d : Dev} {p : Pocket} (g : GuardProgram) (h : (d.psq.get p).state ≠ .anticrease) :
    d.takeGuard p g = d.writeBody p fun b => { b with guard := g } := if_neg h

@[simp] theorem Dev.takeGuard_frame (p : Pocket) (g : GuardProgram) (d : Dev) :
    (d.takeGuard p g).pins = d.pins ∧ (d.takeGuard p g).bkd = d.bkd ∧ (d.takeGuard p g).run = d.run ∧
    (d.takeGuard p g).settle = d.settle ∧ (d.takeGuard p g).reserve = d.reserve ∧ (d.takeGuard p g).adc = d.adc ∧
    (d.takeGuard p g).faults = d.faults ∧ (d.takeGuard p g).sns = d.sns ∧ (d.takeGuard p g).psq = d.psq ∧
    (d.takeGuard p g).engine = d.engine ∧ (d.takeGuard p g).ring = d.ring ∧ (d.takeGuard p g).scan = d.scan ∧
    (d.takeGuard p g).journal = d.journal ∧ (d.takeGuard p g).plan = d.plan ∧ (d.takeGuard p g).arbiter = d.arbiter ∧
    (d.takeGuard p g).link = d.link ∧ (d.takeGuard p g).freeCount = d.freeCount := by
  unfold Dev.takeGuard
  split <;> simp

theorem guardOwner_of_open {d : Dev} {p : Pocket} {payload : List Byte} (h : (d.psq.get p).open = true) :
    guardOwner payload p d = (d.takeGuard p (clampGuard (guardOfBytes payload 1))).answer .guard p
      (if clampGuard (guardOfBytes payload 1) = guardOfBytes payload 1 then .ok else .clamped)
      (guardBytes (clampGuard (guardOfBytes payload 1))) := if_pos h

/-- A change of body fields dirties a present image and, with it, moves no more than the merge window. -/
theorem Dev.writeBody_soiled {d : Dev} {im : Image} (p : Pocket) (f : Body → Body) (h : d.image.get p = some im) :
    ∃ im', (d.writeBody p f).image = d.image.set p (some im') ∧
      im' = { im with body := f im.body, dirty := true, window := im'.window } := by
  refine ⟨Image.soil (d.journalFailed p) { im with body := f im.body }, by simp [Dev.writeBody, Dev.modImage, h], ?_⟩
  cases hd : im.dirty <;> simp [Image.soil]

/-! ### PLAN and HISTORY (R117, R138) -/

/-- A reply of a command that does nothing else. -/
theorem Dev.answer_setReceiver (q : Request) (p : Pocket) (r : Result) (figures : List Byte) (d : Dev) :
    (d.setReceiver .hunting).answer q p r figures = d.replied q.replyType (r.byte :: pocketIndexByte p :: figures) := rfl

theorem Dev.setReceiver_plan (r : Receiver) (d : Dev) : (d.setReceiver r).plan = d.plan := rfl
theorem Dev.setReceiver_journal (r : Receiver) (d : Dev) : (d.setReceiver r).journal = d.journal := rfl

/-- The number whose two bytes stand for a temperature, or for its absence. -/
def tempOrAbsentNat : Option Int → Nat
  | some t => (BitVec.ofInt 16 t).toNat
  | none => 0x8000

theorem planBytes_eq (pl : Plan) : planBytes pl = [BitVec.ofNat 8 pl.outcome.code, BitVec.ofNat 8 pl.reason.code] ++
    leBytes 2 pl.basisSeq.toNat ++ [BitVec.ofNat 8 pl.basisPhase.code] ++ leBytes 3 pl.stall ++
    [if pl.latch then 1 else 0, BitVec.ofNat 8 pl.outages] ++ leBytes 2 (tempOrAbsentNat pl.tNow) ++
    leBytes 2 (BitVec.ofInt 16 pl.tLast).toNat ++ leBytes 2 pl.heat ++ leBytes 2 pl.cool ++
    [BitVec.ofNat 8 pl.bursts, BitVec.ofNat 8 pl.guard.on] ++ leBytes 2 pl.guard.period ++
    [BitVec.ofNat 8 pl.guard.bursts, BitVec.ofNat 8 pl.guard.reverse, if pl.stale then 1 else 0] := by
  have htemp : tempOrAbsentBytes pl.tNow = leBytes 2 (tempOrAbsentNat pl.tNow) := by cases pl.tNow <;> rfl
  simp only [planBytes, byte1_bit]
  simp only [byte1_eq, wordBytes, htemp, tempBytes, guardBytes, List.append_assoc, List.cons_append,
    List.nil_append]

end Sys2Proof.Machine

namespace Sys2Proof.Proofs

open Sys2Proof.Machine

/-- Settles O42: field by field, and the CLAMPED bit by its five terms. -/
theorem reportMerge : Obligations.ReportMerge := by
  unfold Obligations.ReportMerge
  intro payload b henergy hrun
  refine ⟨?_, ?_, ?_, fun v h => ?_, ?_, ?_, ?_, ?_, ?_, ?_, ?_, ?_, fun i _ => reportField_eq_none_iff payload i, fun h => ?_,
    rfl, rfl, rfl, rfl, rfl, rfl, rfl, reportClamped_iff henergy hrun⟩
  case refine_4 =>
    simp [mergeReport, h, replaced, Nat.min_eq_left (reportField_four_le h)]
  case refine_13 =>
    have hnone {i : Nat} (hi : 1 ≤ i ∧ i ≤ 6) := reportField_eq_none h hi.1 hi.2
    simp [mergeReport, hnone (i := 1), hnone (i := 2), hnone (i := 3), hnone (i := 4), hnone (i := 5), hnone (i := 6),
      replaced, added]
  all_goals
    intros
    simp [mergeReport, replaced, added, satAdd, *]

/-- Settles O45: the bounds of R152, then by the pocket state. -/
theorem guard : Obligations.Guard := by
  unfold Obligations.Guard
  rintro s p payload g had hp rfl
  refine ⟨clampGuard_bounds _, ?_, fun h => ?_, fun hactive hmark => ?_⟩
  · rintro r rfl
    exact ⟨clampNat_of_mem, clampNat_of_mem, clampNat_of_mem, clampGuard_reverse_eq_zero_iff _⟩
  · refine congrArg (fun d => Host.Outcome.next { s with dev := d }) ?_
    have hclosed : ((s.dev.setReceiver .hunting).psq.get p).open = false := (Sequencer.open_eq_false_iff _).2 h
    rw [hearGuard, had.servePocket hp, guardOwner, if_neg (Bool.eq_false_iff.1 hclosed)]
    exact Dev.refuse_pocket _ _ rfl (by decide) hp
  · have hopen : ((s.dev.setReceiver .hunting).psq.get p).open = true := (Sequencer.open_iff _).2 ⟨hactive, hmark⟩
    have hreply (d : Dev) (h : d.link = (s.dev.setReceiver .hunting).link) (r : Result) (figures : List Byte) :
        (d.answer .guard p r figures).link = (s.dev.replied 0x88 (r.byte :: pocketIndexByte p :: figures)).link := by
      rw [Dev.answer, Dev.reply, Dev.send, Dev.setLink_link, h]
      rfl
    refine ⟨_, had.next_servePocket hp (guardOwner payload), ?_, fun hstate => ?_, fun hstate => ?_, ?_⟩ <;>
      rw [guardOwner_of_open hopen]
    · rw [hreply _ (by simp)]
      split <;> rfl
    · rw [Dev.takeGuard_anticrease (d := s.dev.setReceiver .hunting) _ hstate]
      simp [Dev.answer]
    · rw [Dev.takeGuard_image (d := s.dev.setReceiver .hunting) _ hstate]
      refine ⟨by simp [Dev.answer], fun im him => ?_⟩
      obtain ⟨im', him', hframe⟩ := Dev.writeBody_soiled p (fun b => { b with guard := clampGuard (guardOfBytes payload 1) })
        (d := s.dev.setReceiver .hunting) him
      exact ⟨im', by simpa [Dev.answer] using him', hframe⟩
    · apply Dev.ext <;> simp [Dev.answer]

/-- Settles O46: the figures of Table 11-5, with the plan or the record present and absent. -/
theorem planAndHistory : Obligations.PlanAndHistory := by
  unfold Obligations.PlanAndHistory
  intro s p payload hp
  refine ⟨fun had => ⟨fun hpl => ?_, fun pl hpl => ?_⟩, fun had => ⟨fun hr => ?_, fun r hr => ?_⟩⟩
  · refine (had.next_servePocket hp planOwner).trans ?_
    rw [planOwner, Dev.setReceiver_plan, hpl]
    rfl
  · refine (had.next_servePocket hp planOwner).trans ?_
    rw [planOwner, Dev.setReceiver_plan, hpl, Dev.answer_setReceiver, planFigures, planBytes_eq]
    rfl
  · refine (had.next_servePocket hp (historyOwner payload)).trans ?_
    rw [historyOwner, Dev.setReceiver_journal, hr, Dev.answer_setReceiver, historyFigures, secondByte, byte1_toNat]
    rfl
  · refine (had.next_servePocket hp (historyOwner payload)).trans ?_
    rw [historyOwner, Dev.setReceiver_journal, hr, Dev.answer_setReceiver, historyFigures, secondByte, byte1_toNat]
    rfl

end Sys2Proof.Proofs
end

section
/-! RESUME: what a choice comes to, the grant queue, and a pocket that leaves WAITSTART at once (O47, O48). -/

namespace Sys2Proof.Machine

theorem Per.eq_set {α : Type} {x y : Per α} {p : Pocket} {v : α} (hp : x.get p = v)
    (hother : ∀ q, q ≠ p → x.get q = y.get q) : x = y.set p v := by
  apply Per.ext_get
  intro q
  by_cases hq : q = p
  · rw [hq, hp, Per.set_get_self]
  · rw [hother q hq, Per.set_get_of_ne _ _ hq]

/-! ### What every admitted request leaves of the link -/

theorem Dev.linkServed_of_answers {d d' : Dev} (h : (d.setReceiver .hunting).link.Answers d'.link) : d.linkServed d' :=
  ⟨h.frame, h.sent⟩

@[simp] theorem Dev.answer_frame (q : Request) (p : Pocket) (r : Result) (figures : List Byte) (d : Dev) :
    (d.answer q p r figures).pins = d.pins ∧ (d.answer q p r figures).bkd = d.bkd ∧
    (d.answer q p r figures).run = d.run ∧ (d.answer q p r figures).settle = d.settle ∧
    (d.answer q p r figures).reserve = d.reserve ∧ (d.answer q p r figures).adc = d.adc ∧
    (d.answer q p r figures).faults = d.faults ∧ (d.answer q p r figures).sns = d.sns ∧
    (d.answer q p r figures).psq = d.psq ∧ (d.answer q p r figures).image = d.image ∧
    (d.answer q p r figures).engine = d.engine ∧ (d.answer q p r figures).ring = d.ring ∧
    (d.answer q p r figures).scan = d.scan ∧ (d.answer q p r figures).journal = d.journal ∧
    (d.answer q p r figures).plan = d.plan ∧ (d.answer q p r figures).arbiter = d.arbiter ∧
    (d.answer q p r figures).tmb = d.tmb ∧ (d.answer q p r figures).freeCount = d.freeCount := by
  simp [Dev.answer]

theorem Dev.answer_transmit (q : Request) (p : Pocket) (r : Result) (figures : List Byte) (d : Dev) :
    (d.answer q p r figures).link.transmit =
      d.link.transmit ++ [⟨q.replyType, r.byte :: pocketIndexByte p :: figures⟩] := rfl

theorem Dev.answer_answers (q : Request) (p : Pocket) (r : Result) (figures : List Byte) (d : Dev) :
    d.link.Answers (d.answer q p r figures).link := Dev.reply_answers ..

theorem Dev.answer_leaves (q : Request) (x p : Pocket) (r : Result) (figures : List Byte) (d : Dev) :
    d.LeavesPocket x (d.answer q p r figures) := ⟨by simp, by simp, by simp, imageKept_of_eq (by simp)⟩

/-- The end of a request that is answered before the engine selects. -/
def Dev.answered (q : Request) (p : Pocket) (r : Result) (figures : List Byte) (d : Dev) : Dev :=
  (d.answer q p r figures).select

section Answered
variable {q : Request} {p x : Pocket} {r : Result} {figures : List Byte} {d e : Dev}

theorem Dev.answered_leaves (d : Dev) : d.LeavesPocket x (d.answered q p r figures) :=
  (d.answer_leaves q x p r figures).trans (Dev.select_leaves _ _)

theorem Dev.answered_answers (h : e.link.Answers d.link) : e.link.Answers (d.answered q p r figures).link :=
  (h.trans (Dev.answer_answers ..)).trans (Dev.select_answers _)

/-- The reply is sent, after those that were waiting. -/
theorem Dev.answered_sent (d : Dev) :
    (d.link.transmit ++ [⟨q.replyType, r.byte :: pocketIndexByte p :: figures⟩]) <+:
      (d.answered q p r figures).link.transmit := by
  rw [← Dev.answer_transmit]
  exact (Dev.select_answers _).sent

theorem Dev.answered_mem (d : Dev) :
    ⟨q.replyType, r.byte :: pocketIndexByte p :: figures⟩ ∈ (d.answered q p r figures).link.transmit :=
  Dev.answered_sent (q := q) (r := r) d |>.subset (by simp)

@[simp] theorem Dev.answered_frame (q : Request) (p : Pocket) (r : Result) (figures : List Byte) (d : Dev) :
    (d.answered q p r figures).pins = d.pins ∧ (d.answered q p r figures).bkd = d.bkd ∧
    (d.answered q p r figures).run = d.run ∧ (d.answered q p r figures).settle = d.settle ∧
    (d.answered q p r figures).reserve = d.reserve ∧ (d.answered q p r figures).adc = d.adc ∧
    (d.answered q p r figures).faults = d.faults ∧ (d.answered q p r figures).sns = d.sns ∧
    (d.answered q p r figures).psq = d.psq ∧ (d.answered q p r figures).scan = d.scan ∧
    (d.answered q p r figures).plan = d.plan ∧ (d.answered q p r figures).arbiter = d.arbiter ∧
    (d.answered q p r figures).tmb = d.tmb ∧ (d.answered q p r figures).freeCount = d.freeCount := by
  simp [Dev.answered]

end Answered

/-! ### RESUME at the sequencer (R44) -/

section Resume
variable {payload : List Byte} {p : Pocket} {d : Dev} {choose : Params → Plan → Body → ResumeVerdict}

theorem resumeOwner_of_not_planned (h : (d.psq.get p).state ≠ .planned ∨ (d.psq.get p).mark ≠ none) :
    resumeOwner payload choose p d = d.refuse .resume payload .state := by
  have hcond : ((d.psq.get p).state == .planned && (d.psq.get p).mark.isNone) = false := by
    rcases h with h | h
    · simp [h]
    · simp [Option.isNone_eq_false_iff.2 (Option.isSome_iff_ne_none.2 h)]
  simp [resumeOwner, hcond]

section
variable {pl : Plan} {b : Basis} (hstate : (d.psq.get p).state = .planned) (hmark : (d.psq.get p).mark = none)
  (hpl : d.plan.get p = some pl) (hb : (d.journal.get p).basis = some b)
include hstate hmark hpl hb

theorem resumeOwner_of_refused {r : Result} (h : choose d.link.params pl b.record.body = .refused r) :
    resumeOwner payload choose p d = d.refuse .resume payload r := by
  simp [resumeOwner, hstate, hmark, hpl, hb, h]

theorem resumeOwner_of_taken {c : Choice} (h : choose d.link.params pl b.record.body = .taken c) :
    resumeOwner payload choose p d = (d.takeChoice p c).answered .resume p .ok [] := by
  simp [resumeOwner, hstate, hmark, hpl, hb, h, Dev.answered]

theorem resumeOwner_of_closed (h : choose d.link.params pl b.record.body = .closed) :
    resumeOwner payload choose p d = (d.closeWaiting p .discarded).answered .resume p .ok [] := by
  simp [resumeOwner, hstate, hmark, hpl, hb, h, Dev.answered]

end

/-! The same of an admitted RESUME command. -/

section
variable {s : State} {mine : Nat → Bool} (had : Admitted .resume payload s.dev) (hp : pocketOf payload = some p)
  (hm : mine (secondByte payload) = true)
include had hp hm

theorem Admitted.resume_of_not_planned (h : (s.dev.psq.get p).state ≠ .planned ∨ (s.dev.psq.get p).mark ≠ none) :
    onDev (Dev.serveRow .resume payload mine (resumeOwner payload choose)) s =
      .next { s with dev := s.dev.replied 0x87 [2, pocketIndexByte p] } := by
  rw [had.next_serveRow hp hm, resumeOwner_of_not_planned (d := s.dev.setReceiver .hunting) h,
    Dev.refuse_pocket _ _ rfl (by decide) hp]
  rfl

variable {pl : Plan} {b : Basis} (hstate : (s.dev.psq.get p).state = .planned) (hmark : (s.dev.psq.get p).mark = none)
  (hpl : s.dev.plan.get p = some pl) (hb : (s.dev.journal.get p).basis = some b)
include hstate hmark hpl hb

theorem Admitted.resume_of_refused {r : Result} (h : choose s.dev.link.params pl b.record.body = .refused r) :
    onDev (Dev.serveRow .resume payload mine (resumeOwner payload choose)) s =
      .next { s with dev := s.dev.replied 0x87 [r.byte, pocketIndexByte p] } := by
  rw [had.next_serveRow hp hm, resumeOwner_of_refused (d := s.dev.setReceiver .hunting) hstate hmark hpl hb h,
    Dev.refuse_pocket _ _ rfl (by decide) hp]
  rfl

theorem Admitted.resume_of_taken {c : Choice} (h : choose s.dev.link.params pl b.record.body = .taken c) :
    onDev (Dev.serveRow .resume payload mine (resumeOwner payload choose)) s =
      .next { s with dev := ((s.dev.setReceiver .hunting).takeChoice p c).answered .resume p .ok [] } := by
  rw [had.next_serveRow hp hm, resumeOwner_of_taken (d := s.dev.setReceiver .hunting) hstate hmark hpl hb h]

theorem Admitted.resume_of_closed (h : choose s.dev.link.params pl b.record.body = .closed) :
    onDev (Dev.serveRow .resume payload mine (resumeOwner payload choose)) s =
      .next { s with dev := ((s.dev.setReceiver .hunting).closeWaiting p .discarded).answered .resume p .ok [] } := by
  rw [had.next_serveRow hp hm, resumeOwner_of_closed (d := s.dev.setReceiver .hunting) hstate hmark hpl hb h]

end
end Resume

/-! ### What a choice comes to (R133, R134) -/

section Verdict
variable {pr : Params} {pl : Plan} {b : Body}

theorem acceptVerdict_of_hold (h : pl.outcome = .hold) : acceptVerdict pl = .refused .state := by simp [acceptVerdict, h]

theorem acceptVerdict_of_taken (h : pl.outcome = .reheat ∨ pl.outcome = .cool) :
    acceptVerdict pl = .taken (choiceOfPlan pl) := by rcases h with h | h <;> simp [acceptVerdict, h]

theorem namedVerdict_same {o : ResumeOutcome} (h : pl.outcome = o) (ho : o = .reheat ∨ o = .cool) :
    namedVerdict pr pl b o = .taken (choiceOfPlan pl) := by
  rw [namedVerdict, if_pos h.symm, acceptVerdict_of_taken (by rwa [h])]

theorem namedVerdict_reheat_of_ne (h : pl.outcome ≠ .reheat) : namedVerdict pr pl b .reheat = .refused .order := by
  have hnot : conservative .reheat pl.outcome = false := by cases ho : pl.outcome <;> simp_all [conservative, ResumeOutcome.code]
  simp [namedVerdict, Ne.symm h, hnot]

/-- COOL against a REHEAT or a HOLD plan (R135). -/
theorem namedVerdict_cool (h : pl.outcome = .reheat ∨ pl.outcome = .hold) :
    namedVerdict pr pl b .cool = .taken (coolChoice pr pl b) := by
  rcases h with h | h <;> simp [namedVerdict, h, conservative, ResumeOutcome.code, namedChoice]

/-- GUARD against a REHEAT, a COOL or a HOLD plan (R136). -/
theorem namedVerdict_guard (h : pl.outcome = .reheat ∨ pl.outcome = .cool ∨ pl.outcome = .hold) :
    namedVerdict pr pl b .guard = .taken (guardChoice b) := by
  rcases h with h | h | h <;> simp [namedVerdict, h, conservative, ResumeOutcome.code, namedChoice]

theorem namedVerdict_close (h : pl.outcome ≠ .close) : namedVerdict pr pl b .close = .closed := by
  have hcons : conservative .close pl.outcome = true := by cases ho : pl.outcome <;> simp_all [conservative, ResumeOutcome.code]
  simp [namedVerdict, Ne.symm h, hcons, namedChoice]

end Verdict

/-! ### A choice that is taken (R44, R139, R141) -/

/-- A pocket in WAITSTART with its choice, before the start test. -/
def Dev.chosen (p : Pocket) (c : Choice) (d : Dev) : Dev :=
  d.setPsq p { d.psq.get p with state := .waitstart, choice := some c }

section Taken
variable {p q : Pocket} {c : Choice} {d d' : Dev} {b : Basis}

theorem Dev.takeChoice_reheat (h : c.outcome = .reheat) :
    d.takeChoice p c = (d.chosen p c).setArbiter { d.arbiter with queue := d.arbiter.queue ++ [p] } := by
  simp [Dev.takeChoice, h, Dev.chosen]

theorem Dev.takeChoice_test (h : c.outcome = .cool ∨ c.outcome = .guard) :
    d.takeChoice p c = (d.chosen p c).startTest p := by
  rcases h with h | h <;> simp [Dev.takeChoice, h, Dev.chosen]

@[simp] theorem Dev.chosen_frame (p : Pocket) (c : Choice) (d : Dev) :
    (d.chosen p c).pins = d.pins ∧ (d.chosen p c).bkd = d.bkd ∧ (d.chosen p c).run = d.run ∧
    (d.chosen p c).settle = d.settle ∧ (d.chosen p c).reserve = d.reserve ∧ (d.chosen p c).adc = d.adc ∧
    (d.chosen p c).faults = d.faults ∧ (d.chosen p c).sns = d.sns ∧ (d.chosen p c).image = d.image ∧
    (d.chosen p c).engine = d.engine ∧ (d.chosen p c).ring = d.ring ∧ (d.chosen p c).scan = d.scan ∧
    (d.chosen p c).journal = d.journal ∧ (d.chosen p c).plan = d.plan ∧ (d.chosen p c).arbiter = d.arbiter ∧
    (d.chosen p c).tmb = d.tmb ∧ (d.chosen p c).link = d.link ∧ (d.chosen p c).freeCount = d.freeCount ∧
    (d.chosen p c).psq = d.psq.set p { d.psq.get p with state := .waitstart, choice := some c } := by
  simp [Dev.chosen]

theorem Dev.chosen_leaves (d : Dev) (hq : q ≠ p) : d.LeavesPocket q (d.chosen p c) :=
  ⟨by simp [Per.set_get_of_ne _ _ hq], by simp, by simp, imageKept_of_eq (by simp)⟩

/-- A pocket whose choice is COOL leaves WAITSTART with its timer as it was. -/
theorem Dev.startTest_tmb_of_cool (hstate : (d.psq.get p).choice = some c) (hc : c.outcome = .cool) :
    (d.startTest p).tmb = d.tmb := by
  rcases d.startTest_cases p with heq | ⟨_, _, _, _, c', hc', ⟨_, heq⟩ | ⟨ho, _⟩⟩
  · rw [heq]
  · rw [heq, Dev.leaveWaitstart_eq, if_neg (by decide), Dev.resumed_tmb]
  · obtain rfl : c = c' := Option.some.inj (hstate.symm.trans hc')
    exact absurd (hc.symm.trans ho) (by decide)

/-- A RESUME whose choice is taken, answered OK. -/
def Dev.resumeTaken (p : Pocket) (c : Choice) (d : Dev) : Dev :=
  ((d.setReceiver .hunting).takeChoice p c).answered .resume p .ok []

@[simp] theorem Dev.resumeTaken_frame (h : c.outcome = .cool ∨ c.outcome = .guard) :
    (d.resumeTaken p c).pins = d.pins ∧ (d.resumeTaken p c).run = d.run ∧ (d.resumeTaken p c).settle = d.settle ∧
    (d.resumeTaken p c).reserve = d.reserve ∧ (d.resumeTaken p c).adc = d.adc ∧
    (d.resumeTaken p c).faults = d.faults ∧ (d.resumeTaken p c).sns = d.sns ∧ (d.resumeTaken p c).scan = d.scan ∧
    (d.resumeTaken p c).plan = d.plan ∧ (d.resumeTaken p c).arbiter = d.arbiter ∧
    (d.resumeTaken p c).freeCount = d.freeCount := by
  simp [Dev.resumeTaken, Dev.takeChoice_test h]

theorem Dev.resumeTaken_leaves (h : c.outcome = .cool ∨ c.outcome = .guard) (hq : q ≠ p) :
    d.LeavesPocket q (d.resumeTaken p c) := by
  have hheard : d.LeavesPocket q (d.setReceiver .hunting) := ⟨rfl, rfl, rfl, imageKept_of_eq rfl⟩
  rw [Dev.resumeTaken, Dev.takeChoice_test h]
  exact ((hheard.trans (Dev.chosen_leaves _ hq)).trans (Dev.startTest_leaves _ hq)).trans (Dev.answered_leaves _)

theorem Dev.resumeTaken_served (h : c.outcome = .cool ∨ c.outcome = .guard) : d.linkServed (d.resumeTaken p c) := by
  rw [Dev.resumeTaken, Dev.takeChoice_test h]
  exact Dev.linkServed_of_answers (Dev.answered_answers
    ((Dev.chosen_frame p c (d.setReceiver .hunting)).2.2.2.2.2.2.2.2.2.2.2.2.2.2.2.2.1 ▸ Dev.startTest_answers p _))

theorem Dev.resumeTaken_factsOnly (h : c.outcome = .cool ∨ c.outcome = .guard) : d.FactsOnly (d.resumeTaken p c) := by
  rw [Dev.resumeTaken, Dev.takeChoice_test h]
  have htest := Dev.startTest_factsOnly p ((d.setReceiver .hunting).chosen p c)
  simpa [Dev.FactsOnly] using htest

/-- Without mains or a ready reserve the pocket waits in WAITSTART (R139). -/
theorem Dev.resumeTaken_waits (h : c.outcome = .cool ∨ c.outcome = .guard)
    (hnot : d.mainsPresent = false ∨ d.reserve.ready = false) :
    (d.resumeTaken p c).psq = d.psq.set p { d.psq.get p with state := .waitstart, choice := some c } ∧
    (d.resumeTaken p c).tmb = d.tmb ∧ (d.resumeTaken p c).bkd = d.bkd := by
  have hstays : ((d.setReceiver .hunting).chosen p c).startTest p = (d.setReceiver .hunting).chosen p c :=
    Dev.startTest_link_of_not (.inr (by simpa [Dev.mainsPresent] using hnot))
  simp [Dev.resumeTaken, Dev.takeChoice_test h, hstays]

/-- With both it leaves at once (R46). -/
theorem Dev.resumeTaken_leavesWaitstart (h : c.outcome = .cool ∨ c.outcome = .guard) (hr : d.runningFree = true)
    (hmains : d.mainsPresent = true) (hready : d.reserve.ready = true) (hb : (d.journal.get p).basis = some b) :
    ((d.setReceiver .hunting).chosen p c).leavesWaitstart p c b (d.resumeTaken p c) := by
  have htested : ((d.setReceiver .hunting).chosen p c).startTested p (d.resumeTaken p c) := by
    rw [Dev.resumeTaken, Dev.takeChoice_test h]
    exact Dev.startTest_tested hr (by simpa [Dev.mainsPresent] using hmains) (by simpa using hready) (Dev.answered_leaves _)
  exact htested.1 c b (by simp) (by simp) h (by simpa using hb)

theorem Dev.resumeTaken_tmb_of_cool (h : c.outcome = .cool) : (d.resumeTaken p c).tmb = d.tmb := by
  simp [Dev.resumeTaken, Dev.takeChoice_test (.inl h),
    Dev.startTest_tmb_of_cool (d := (d.setReceiver .hunting).chosen p c) (p := p) (c := c) (by simp) h]

/-- The pairs of which only the pocket's own item moves. -/
theorem Dev.resumeTaken_psq (h : c.outcome = .cool ∨ c.outcome = .guard) {q' : Sequencer}
    (hp : (d.resumeTaken p c).psq.get p = q') : (d.resumeTaken p c).psq = d.psq.set p q' :=
  Per.eq_set hp fun _ hq => (Dev.resumeTaken_leaves h hq).psq

theorem Dev.resumeTaken_tmb (h : c.outcome = .cool ∨ c.outcome = .guard) {t : Tumbler}
    (hp : (d.resumeTaken p c).tmb.get p = t) : (d.resumeTaken p c).tmb = d.tmb.set p t :=
  Per.eq_set hp fun _ hq => (Dev.resumeTaken_leaves h hq).tmb

theorem Dev.resumeTaken_bkd (h : c.outcome = .cool ∨ c.outcome = .guard) {f : Facts}
    (hp : (d.resumeTaken p c).bkd.facts.get p = f) :
    (d.resumeTaken p c).bkd = { d.bkd with facts := d.bkd.facts.set p f } := by
  rw [Dev.resumeTaken_factsOnly h, Per.eq_set hp fun _ hq => (Dev.resumeTaken_leaves h hq).facts]

end Taken

/-- The choices that O48 speaks of are taken: a COOL plan's own, a COOL choice by its computation, a GUARD choice. -/
theorem Admitted.resumeTaken {s : State} {p : Pocket} {payload : List Byte} {pl : Plan} {b : Basis} {c : Choice}
    (had : Admitted .resume payload s.dev) (hp : pocketOf payload = some p)
    (hstate : (s.dev.psq.get p).state = .planned) (hmark : (s.dev.psq.get p).mark = none)
    (hpl : s.dev.plan.get p = some pl) (hb : (s.dev.journal.get p).basis = some b) :
    (pl.outcome = .cool → c = choiceOfPlan pl → secondByte payload = 0 →
      exec (.resumeAccept payload) s = .next { s with dev := s.dev.resumeTaken p c }) ∧
    (pl.outcome = .cool → c = choiceOfPlan pl → secondByte payload = 2 →
      exec (.resumeCool payload) s = .next { s with dev := s.dev.resumeTaken p c }) ∧
    (pl.outcome = .reheat ∨ pl.outcome = .hold → c = coolChoice s.dev.link.params pl b.record.body →
      secondByte payload = 2 → exec (.resumeCool payload) s = .next { s with dev := s.dev.resumeTaken p c }) ∧
    (pl.outcome = .reheat ∨ pl.outcome = .cool ∨ pl.outcome = .hold → c = guardChoice b.record.body →
      secondByte payload = 3 → exec (.resumeGuard payload) s = .next { s with dev := s.dev.resumeTaken p c }) := by
  refine ⟨fun h hc hn => ?_, fun h hc hn => ?_, fun h hc hn => ?_, fun h hc hn => ?_⟩ <;> subst hc
  · exact had.resume_of_taken hp (mine := (· == acceptCode)) (beq_iff_eq.2 hn) hstate hmark hpl hb
      (choose := fun _ pl _ => acceptVerdict pl) (acceptVerdict_of_taken (.inr h))
  · exact had.resume_of_taken hp (mine := (· == coolCode)) (beq_iff_eq.2 hn) hstate hmark hpl hb
      (choose := fun pr pl b => namedVerdict pr pl b .cool) (namedVerdict_same h (.inr rfl))
  · exact had.resume_of_taken hp (mine := (· == coolCode)) (beq_iff_eq.2 hn) hstate hmark hpl hb
      (choose := fun pr pl b => namedVerdict pr pl b .cool) (namedVerdict_cool h)
  · exact had.resume_of_taken hp (mine := (· == guardCode)) (beq_iff_eq.2 hn) hstate hmark hpl hb
      (choose := fun pr pl b => namedVerdict pr pl b .guard) (namedVerdict_guard h)

/-! ### A closure of a waiting pocket under JOURNAL_FAIL -/

theorem Dev.closeWaiting_vacates {p : Pocket} {d : Dev} (r : CloseReason) (hj : d.journalFailed p = true) :
    ((d.closeWaiting p r).psq.get p).state = .vacant ∧ ((d.closeWaiting p r).psq.get p).mark = none ∧
    (d.closeWaiting p r).image.get p = none ∧ (d.closeWaiting p r).bkd.facts.get p = .clear := by
  have hj' := (d.readyToClose_journalFailed p).trans hj
  rw [Dev.closeWaiting_eq, Dev.decideClosure_psq_vacates r hj']
  rcases (d.readyToClose p).decideClosure_cases p r with ⟨_, heq⟩ | ⟨hnot, _⟩
  · simp [heq, Dev.closureEffect_image, Dev.closureEffect_facts]
  · exact absurd (hj'.symm.trans hnot) (by decide)

/-- The image of a closure, as rebuilt or taken into its write. -/
theorem Dev.closingImage_kept {p : Pocket} {d : Dev} {r : CloseReason} {b : Basis} {im : Image}
    (h : (d.closingImage p r b).keptOrTaken im) :
    im.cycle = b.record.cycle ∧ im.closeReason = some r ∧
    im.body = { b.record.body with outages := min 255 (b.record.body.outages + (d.bkd.facts.get p).losses) } ∧
    (im.commit = .queued .close ∨ im.commit = .inFlight .close) := by
  obtain ⟨hbody, hcycle, _, _, _, hreason⟩ := Image.keptOrTaken_body h
  refine ⟨hcycle, hreason, hbody, ?_⟩
  rcases h with rfl | ⟨k, hk, rfl⟩
  · exact .inl rfl
  · obtain rfl : Kind.close = k := CommitStatus.queued.inj hk
    exact .inr rfl

end Sys2Proof.Machine

namespace Sys2Proof.Proofs

open Sys2Proof.Machine

/-- Settles O47: the choice's row, what it comes to against the plan, and the tail of the grant queue. -/
theorem resumeHeat : Obligations.ResumeHeat := by
  unfold Obligations.ResumeHeat
  intro s p payload had hp
  refine ⟨fun hnot c n hc hn => ?_, fun pl b hstate hmark hpl hb => ⟨fun hhold hn => ?_, fun hne hn => ?_,
    fun hheat c n hc hn => ?_⟩⟩
  · simp only [List.mem_cons, Prod.mk.injEq, List.not_mem_nil, or_false] at hc
    rcases hc with ⟨rfl, rfl⟩ | ⟨rfl, rfl⟩ | ⟨rfl, rfl⟩ | ⟨rfl, rfl⟩ | ⟨rfl, rfl⟩
    · exact had.resume_of_not_planned hp (mine := (· == acceptCode)) (beq_iff_eq.2 hn) hnot
    · exact had.resume_of_not_planned hp (mine := (· == reheatCode)) (beq_iff_eq.2 hn) hnot
    · exact had.resume_of_not_planned hp (mine := (· == coolCode)) (beq_iff_eq.2 hn) hnot
    · exact had.resume_of_not_planned hp (mine := (· == guardCode)) (beq_iff_eq.2 hn) hnot
    · exact had.resume_of_not_planned hp (mine := (· == closeCode)) (beq_iff_eq.2 hn) hnot
  · exact had.resume_of_refused hp (mine := (· == acceptCode)) (beq_iff_eq.2 hn) hstate hmark hpl hb
      (choose := fun _ pl _ => acceptVerdict pl) (acceptVerdict_of_hold hhold)
  · exact had.resume_of_refused hp (mine := (· == reheatCode)) (beq_iff_eq.2 hn) hstate hmark hpl hb
      (choose := fun pr pl b => namedVerdict pr pl b .reheat) (namedVerdict_reheat_of_ne hne)
  · have htaken : exec c s = .next { s with
        dev := ((s.dev.setReceiver .hunting).takeChoice p (choiceOfPlan pl)).answered .resume p .ok [] } := by
      simp only [List.mem_cons, Prod.mk.injEq, List.not_mem_nil, or_false] at hc
      rcases hc with ⟨rfl, rfl⟩ | ⟨rfl, rfl⟩
      · exact had.resume_of_taken hp (mine := (· == acceptCode)) (beq_iff_eq.2 hn) hstate hmark hpl hb
          (choose := fun _ pl _ => acceptVerdict pl) (acceptVerdict_of_taken (.inl hheat))
      · exact had.resume_of_taken hp (mine := (· == reheatCode)) (beq_iff_eq.2 hn) hstate hmark hpl hb
          (choose := fun pr pl b => namedVerdict pr pl b .reheat) (namedVerdict_same hheat (.inl rfl))
    rw [Dev.takeChoice_reheat (c := choiceOfPlan pl) hheat] at htaken
    refine ⟨_, htaken, ?_, by simp, ?_, ?_, ?_⟩
    · simp [choiceOfPlan, hheat]
    · exact Dev.answered_sent (q := .resume) (p := p) (r := .ok) (figures := [])
        (((s.dev.setReceiver .hunting).chosen p (choiceOfPlan pl)).setArbiter
          { s.dev.arbiter with queue := s.dev.arbiter.queue ++ [p] })
    · exact Dev.linkServed_of_answers (Dev.answered_answers (.of_eq (by simp)))
    · apply Dev.ext <;> simp

/-- Settles O48: the choice that each outcome comes to, and the start test at the entry to WAITSTART. -/
theorem resumeConservative : Obligations.ResumeConservative := by
  unfold Obligations.ResumeConservative
  intro s p payload pl b had hp hstate hmark hpl hb
  refine ⟨fun c ch hcases => ?_, fun hne hn => ?_⟩
  · obtain ⟨haccept, hsame, hcool, hguard⟩ := had.resumeTaken (c := ch) hp hstate hmark hpl hb
    have htaken : exec c s = .next { s with dev := s.dev.resumeTaken p ch } ∧
        (ch.outcome = .cool ∨ ch.outcome = .guard) := by
      rcases hcases with ⟨ho, rfl, ⟨rfl, hn⟩ | ⟨rfl, hn⟩⟩ | ⟨ho, rfl, hn, rfl⟩ | ⟨ho, rfl, hn, rfl⟩
      · exact ⟨haccept ho (by rw [choiceOfPlan, ho]) hn, .inl rfl⟩
      · exact ⟨hsame ho (by rw [choiceOfPlan, ho]) hn, .inl rfl⟩
      · exact ⟨hcool ho rfl hn, .inl rfl⟩
      · exact ⟨hguard ho rfl hn, .inr rfl⟩
    obtain ⟨hexec, hout⟩ := htaken
    have hr : s.dev.runningFree = true := (Dev.runningFree_iff _).2 ⟨had.running, had.free.1⟩
    refine ⟨_, hexec, Dev.answered_mem (q := .resume) (r := .ok) (figures := []) _, fun hnot => ?_, fun hmains hready => ?_,
      (Dev.resumeTaken_frame hout).2.2.2.2.2.2.2.2.1, (Dev.resumeTaken_frame hout).2.2.2.2.2.2.2.2.2.1,
      fun q hq => ?_, Dev.resumeTaken_served hout, ?_⟩
    · refine Dev.resumeTaken_waits hout (hnot.imp_left fun h => ?_)
      rw [Bool.eq_false_iff, Ne, Dev.mainsPresent_iff]
      exact h
    · obtain ⟨hfacts, hcourse, hdoor⟩ :=
        Dev.resumeTaken_leavesWaitstart hout hr ((Dev.mainsPresent_iff _).2 hmains) hready hb
      simp only [Dev.chosen_frame, Dev.setReceiver_frame, Per.set_get_self] at hcourse hdoor
      refine ⟨fun h => ?_, fun h hopen => ?_⟩
      · obtain ⟨hpsq, htmb, im, him, hcycle, href, hbody, hresume, hqueued, hnone⟩ := hcourse h
        refine ⟨Dev.resumeTaken_psq hout hpsq, Dev.resumeTaken_bkd hout hfacts, ?_, im, him, hcycle, href, hbody, ?_, hqueued,
          hnone⟩
        · rcases hout with ho | ho
          · rw [Dev.resumeTaken_tmb_of_cool ho, if_pos ho]
          · rw [Dev.resumeTaken_tmb (.inr ho) (htmb ho), if_neg (by simp [ho])]
        · rw [hresume, hpl]
          rfl
      · obtain ⟨hidle, hmarked, hvacant⟩ := hdoor h hopen
        exact ⟨hidle, Dev.resumeTaken_bkd hout hfacts, fun hj => ⟨(hmarked hj).1, (hmarked hj).2.1⟩, hvacant⟩
    · have hleaves := Dev.resumeTaken_leaves (d := s.dev) hout hq
      exact ⟨hleaves.psq, hleaves.facts, by rw [(Dev.resumeTaken_frame hout).2.2.2.2.2.2.2.2.1], hleaves.tmb,
        by rw [(Dev.resumeTaken_frame hout).2.2.2.2.2.2.1]⟩
    · apply Dev.ext <;> simp [Dev.resumeTaken_frame hout]
  · have hexec : exec (.resumeClose payload) s = .next { s with
        dev := ((s.dev.setReceiver .hunting).closeWaiting p .discarded).answered .resume p .ok [] } :=
      had.resume_of_closed hp (mine := (· == closeCode)) (beq_iff_eq.2 hn) hstate hmark hpl hb
        (choose := fun pr pl b => namedVerdict pr pl b .close) (namedVerdict_close hne)
    refine ⟨_, hexec, ?_, Dev.answered_mem (q := .resume) (r := .ok) (figures := []) _, fun hj => ⟨?_, ?_, ?_⟩, fun hj => ?_, by simp,
      fun q hq => ?_, Dev.linkServed_of_answers (Dev.answered_answers (Dev.closeWaiting_answers ..)), ?_⟩
    · simp [Dev.closeWaiting_arbiter]
    · simp [Dev.closeWaiting_marks (d := s.dev.setReceiver .hunting) .discarded hj]
    · simp [Dev.closeWaiting_bkd (d := s.dev.setReceiver .hunting) .discarded hj]
    · obtain ⟨im, him, hkept⟩ := (Dev.answered_leaves (q := .resume) (p := p) (r := .ok) (figures := []) _).image.2 _
        (Dev.closeWaiting_image (d := s.dev.setReceiver .hunting) .discarded hj hb)
      exact ⟨im, him, Dev.closingImage_kept hkept⟩
    · obtain ⟨hvacant, hmark', himage, hfacts⟩ :=
        Dev.closeWaiting_vacates (d := s.dev.setReceiver .hunting) .discarded hj
      have hleaves := Dev.answered_leaves (q := .resume) (p := p) (r := .ok) (figures := []) (x := p)
        ((s.dev.setReceiver .hunting).closeWaiting p .discarded)
      exact ⟨by rw [hleaves.psq, hvacant], by rw [hleaves.psq, hmark'], hleaves.image.1 himage, hleaves.facts.trans hfacts⟩
    · have hleaves := ((s.dev.setReceiver .hunting).closeWaiting_leaves .discarded hq).trans
        (Dev.answered_leaves (q := .resume) (p := p) (r := .ok) (figures := []) _)
      exact ⟨hleaves.psq, hleaves.facts, by simp, hleaves.tmb, by simp⟩
    · apply Dev.ext <;> simp

end Sys2Proof.Proofs
end

section
/-! CLEAR: the faults that leave their sets, and the recomputation that follows (O49, O50). -/

namespace Sys2Proof.Machine

/-! ### A recomputation keeps the fault sets -/

/-- The fault sets of a pocket are as before. -/
def Dev.SameFaults (p : Pocket) (d d' : Dev) : Prop :=
  (d'.psq.get p).advisory = (d.psq.get p).advisory ∧ (d'.psq.get p).blocking = (d.psq.get p).blocking

section SameFaults
variable {p : Pocket} {d d' e f : Dev}

theorem Dev.SameFaults.of_eq (h : d'.psq.get p = d.psq.get p) : d.SameFaults p d' := by rw [Dev.SameFaults, h]; exact ⟨rfl, rfl⟩

theorem Dev.SameFaults.trans (h : d.SameFaults p e) (h' : e.SameFaults p f) : d.SameFaults p f :=
  ⟨h'.1.trans h.1, h'.2.trans h.2⟩

theorem Dev.decideClosure_sameFaults (r : CloseReason) (d : Dev) : d.SameFaults p (d.decideClosure p r) := by
  cases hj : d.journalFailed p with
  | true => simp [Dev.SameFaults, Dev.decideClosure_psq_vacates r hj]
  | false => simp [Dev.SameFaults, (Dev.decideClosure_marks r hj).1]

theorem Dev.enterAnticrease_sameFaults (g : GuardProgram) (n : Nat) (d : Dev) : d.SameFaults p (d.enterAnticrease p g n) := by
  rcases d.enterAnticrease_cases p g n with ⟨_, heq⟩ | ⟨_, heq⟩ <;> rw [heq]
  · exact d.decideClosure_sameFaults _
  · exact .of_eq (by simp)

theorem Dev.leaveWaitstart_sameFaults (c : Choice) (phase : Phase) (d : Dev) :
    d.SameFaults p (d.leaveWaitstart p c phase) := by
  have hresumed : d.SameFaults p (d.resumed p c phase) := by simp [Dev.SameFaults, Dev.resumed_psq]
  rw [Dev.leaveWaitstart_eq]
  split
  · exact hresumed.trans (Dev.enterAnticrease_sameFaults _ _ _)
  · exact hresumed

theorem Dev.startTest_sameFaults (d : Dev) : d.SameFaults p (d.startTest p) := by
  rcases d.startTest_cases p with heq | ⟨_, _, _, _, c, _, ⟨_, heq⟩ | ⟨_, heq⟩⟩ <;> rw [heq]
  · exact .of_eq rfl
  all_goals exact d.leaveWaitstart_sameFaults c _

theorem Dev.actOnPlan_sameFaults (pl : Plan) (d : Dev) : d.SameFaults p (d.actOnPlan p pl) := by
  unfold Dev.actOnPlan
  split
  · rw [Dev.closeWaiting_eq]
    exact Dev.SameFaults.trans (e := d.readyToClose p) (by simp [Dev.SameFaults]) (Dev.decideClosure_sameFaults _ _)
  · exact Dev.SameFaults.trans (e := d.awaitGuard p pl) (by simp [Dev.SameFaults, Dev.awaitGuard]) (Dev.startTest_sameFaults _)
  all_goals simp [Dev.SameFaults, Dev.becomePlanned]

theorem Dev.recompute_sameFaults (d : Dev) : d.SameFaults p (d.recompute p) := by
  cases hb : (d.journal.get p).basis with
  | none => exact .of_eq (by simp [Dev.recompute, hb])
  | some b =>
    rw [Dev.recompute_of_basis hb]
    exact Dev.SameFaults.trans
      (e := (d.unchosen p).setPlan p (some ((d.unchosen p).computePlan p b.record)))
      (by simp [Dev.SameFaults, Dev.unchosen]) (Dev.actOnPlan_sameFaults _ _)

end SameFaults

/-! ### What a recomputation leaves -/

section Recompute
variable {p : Pocket} {d : Dev} {b : Basis}

theorem Dev.recompute_of_no_basis (hb : (d.journal.get p).basis = none) : d.recompute p = d := by
  simp [Dev.recompute, hb]

theorem Dev.recompute_answers (p : Pocket) (d : Dev) : d.link.Answers (d.recompute p).link := by
  cases hb : (d.journal.get p).basis with
  | none => exact .of_eq (by rw [Dev.recompute_of_no_basis hb])
  | some b =>
    rw [Dev.recompute_of_basis hb]
    have h := Dev.actOnPlan_answers (p := p) ((d.unchosen p).computePlan p b.record)
      ((d.unchosen p).setPlan p (some ((d.unchosen p).computePlan p b.record)))
    simpa [Dev.unchosen] using h

/-- A REHEAT, COOL or HOLD plan leaves the pocket PLANNED without a choice, PLAN_READY raised (R45). -/
theorem Dev.recompute_planned (hb : (d.journal.get p).basis = some b)
    (h : (d.computePlan p b.record).outcome = .reheat ∨ (d.computePlan p b.record).outcome = .cool ∨
      (d.computePlan p b.record).outcome = .hold) :
    (d.recompute p).psq = d.psq.set p { d.psq.get p with state := .planned, choice := none } ∧
    (d.recompute p).link.attention.planReady = true ∧ (d.recompute p).bkd = d.bkd := by
  have heq := Dev.recompute_of_basis hb
  rw [Dev.unchosen_computePlan] at heq
  have hact (x : Dev) : x.actOnPlan p (d.computePlan p b.record) = x.becomePlanned p := by
    rcases h with h | h | h <;> simp [Dev.actOnPlan, h]
  rw [heq, hact]
  simp [Dev.becomePlanned, Dev.unchosen, Per.set_set, Dev.raiseCause, Attention.add]

end Recompute

/-! ### A CLEAR that is taken (R54, R55) -/

/-- A pocket with its sequencer changed by a CLEAR, recomputed where that is due. -/
def Dev.faultCleared (p : Pocket) (q : Sequencer) (removed : Bool) (d : Dev) : Dev :=
  (d.setPsq p q).replanAfterClear p removed

section Clear
variable {p x : Pocket} {q : Sequencer} {removed : Bool} {d : Dev} {b : Basis}

theorem Dev.takeClear_eq (p : Pocket) (q : Sequencer) (removed : Bool) (d : Dev) :
    d.takeClear p q removed = (d.faultCleared p q removed).answered .clear p .ok [] := rfl

theorem Dev.faultCleared_of_not (h : removed = false ∨ q.state ≠ .planned ∨ q.mark ≠ none) :
    d.faultCleared p q removed = d.setPsq p q := by
  have hcond : (removed && q.state == .planned && q.mark.isNone) = false := by
    rcases h with h | h | h
    · simp [h]
    · simp [h]
    · simp [Option.isNone_eq_false_iff.2 (Option.isSome_iff_ne_none.2 h)]
  simp [Dev.faultCleared, Dev.replanAfterClear, hcond]

theorem Dev.faultCleared_of_planned (h : removed = true) (hstate : q.state = .planned) (hmark : q.mark = none) :
    d.faultCleared p q removed = (d.setPsq p q).recompute p := by
  simp [Dev.faultCleared, Dev.replanAfterClear, h, hstate, hmark]

theorem Dev.faultCleared_cases (p : Pocket) (q : Sequencer) (removed : Bool) (d : Dev) :
    d.faultCleared p q removed = d.setPsq p q ∨ d.faultCleared p q removed = (d.setPsq p q).recompute p := by
  by_cases h : removed = true ∧ q.state = .planned ∧ q.mark = none
  · exact .inr (Dev.faultCleared_of_planned h.1 h.2.1 h.2.2)
  · refine .inl (Dev.faultCleared_of_not ?_)
    simpa only [Classical.not_and_iff_not_or_not, Bool.not_eq_true] using h

@[simp] theorem Dev.faultCleared_frame (p : Pocket) (q : Sequencer) (removed : Bool) (d : Dev) :
    (d.faultCleared p q removed).pins = d.pins ∧ (d.faultCleared p q removed).run = d.run ∧
    (d.faultCleared p q removed).settle = d.settle ∧ (d.faultCleared p q removed).reserve = d.reserve ∧
    (d.faultCleared p q removed).adc = d.adc ∧ (d.faultCleared p q removed).faults = d.faults ∧
    (d.faultCleared p q removed).sns = d.sns ∧ (d.faultCleared p q removed).scan = d.scan ∧
    (d.faultCleared p q removed).freeCount = d.freeCount := by
  rcases d.faultCleared_cases p q removed with heq | heq <;> simp [heq]

theorem Dev.faultCleared_sameFaults (d : Dev) : (d.setPsq p q).SameFaults p (d.faultCleared p q removed) := by
  rcases d.faultCleared_cases p q removed with heq | heq <;> rw [heq]
  · exact .of_eq rfl
  · exact Dev.recompute_sameFaults _

theorem Dev.faultCleared_answers (p : Pocket) (q : Sequencer) (removed : Bool) (d : Dev) :
    d.link.Answers (d.faultCleared p q removed).link := by
  rcases d.faultCleared_cases p q removed with heq | heq <;> rw [heq]
  · exact .of_eq rfl
  · exact Dev.recompute_answers p (d.setPsq p q)

theorem Dev.faultCleared_leaves (d : Dev) (hx : x ≠ p) : d.LeavesPocket x (d.faultCleared p q removed) := by
  have hset : d.LeavesPocket x (d.setPsq p q) := ⟨by simp [Per.set_get_of_ne _ _ hx], rfl, rfl, imageKept_of_eq rfl⟩
  rcases d.faultCleared_cases p q removed with heq | heq <;> rw [heq]
  · exact hset
  · exact hset.trans (Dev.recompute_leaves _ hx)

theorem Dev.faultCleared_plan_other (d : Dev) (hx : x ≠ p) : (d.faultCleared p q removed).plan.get x = d.plan.get x := by
  rcases d.faultCleared_cases p q removed with heq | heq <;> rw [heq]
  · rfl
  · exact Dev.recompute_plan_other _ hx

/-- What every CLEAR that is taken keeps: the other pocket, the rest of the link, and the rest of the part. -/
theorem Dev.takeClear_spares (d : Dev) : d.sparesOther p ((d.setReceiver .hunting).takeClear p q removed) := by
  intro y hy
  have hleaves := ((d.setReceiver .hunting).faultCleared_leaves (q := q) (removed := removed) hy).trans
    (Dev.answered_leaves (q := .clear) (p := p) (r := .ok) (figures := []) _)
  rw [Dev.takeClear_eq]
  exact ⟨hleaves.psq, hleaves.facts,
    by simpa using (d.setReceiver .hunting).faultCleared_plan_other (q := q) (removed := removed) hy, hleaves.tmb, by simp⟩

theorem Dev.takeClear_served (d : Dev) : d.linkServed ((d.setReceiver .hunting).takeClear p q removed) :=
  Dev.linkServed_of_answers (Dev.answered_answers (Dev.faultCleared_answers ..))

@[simp] theorem Dev.takeClear_frame (p : Pocket) (q : Sequencer) (removed : Bool) (d : Dev) :
    (d.takeClear p q removed).pins = d.pins ∧ (d.takeClear p q removed).run = d.run ∧
    (d.takeClear p q removed).settle = d.settle ∧ (d.takeClear p q removed).reserve = d.reserve ∧
    (d.takeClear p q removed).adc = d.adc ∧ (d.takeClear p q removed).faults = d.faults ∧
    (d.takeClear p q removed).sns = d.sns ∧ (d.takeClear p q removed).scan = d.scan ∧
    (d.takeClear p q removed).freeCount = d.freeCount := by
  simp [Dev.takeClear_eq]

theorem Dev.takeClear_faults (d : Dev) : ((d.takeClear p q removed).psq.get p).advisory = q.advisory ∧
    ((d.takeClear p q removed).psq.get p).blocking = q.blocking := by
  have h := d.faultCleared_sameFaults (p := p) (q := q) (removed := removed)
  simpa [Dev.takeClear_eq, Dev.SameFaults] using h

theorem Dev.takeClear_sent (d : Dev) : ⟨0x89, [0, pocketIndexByte p]⟩ ∈ (d.takeClear p q removed).link.transmit :=
  Dev.answered_mem (q := .clear) (r := .ok) (figures := []) (d.faultCleared p q removed)

/-- Where no recomputation is due nothing but the fault set changes. -/
theorem Dev.takeClear_of_not (h : removed = false ∨ q.state ≠ .planned ∨ q.mark ≠ none) :
    (d.takeClear p q removed).psq = d.psq.set p q ∧ (d.takeClear p q removed).plan = d.plan ∧
    (d.takeClear p q removed).arbiter = d.arbiter ∧ (d.takeClear p q removed).bkd = d.bkd ∧
    (d.takeClear p q removed).tmb = d.tmb := by
  simp [Dev.takeClear_eq, Dev.faultCleared_of_not h]

section
variable (h : removed = true) (hstate : q.state = .planned) (hmark : q.mark = none)
  (hb : (d.journal.get p).basis = some b)
include h hstate hmark hb

theorem Dev.takeClear_plan :
    (d.takeClear p q removed).plan = d.plan.set p (some ((d.setPsq p q).computePlan p b.record)) := by
  rw [Dev.takeClear_eq, Dev.answered_frame .. |>.2.2.2.2.2.2.2.2.2.2.1, Dev.faultCleared_of_planned h hstate hmark,
    Dev.recompute_plan (b := b) (by simpa using hb)]
  rfl

theorem Dev.takeClear_planned
    (hout : ((d.setPsq p q).computePlan p b.record).outcome = .reheat ∨
      ((d.setPsq p q).computePlan p b.record).outcome = .cool ∨ ((d.setPsq p q).computePlan p b.record).outcome = .hold) :
    (d.takeClear p q removed).psq = d.psq.set p { q with choice := none } ∧
    (d.takeClear p q removed).link.attention.planReady = true ∧ (d.takeClear p q removed).bkd = d.bkd := by
  obtain ⟨hpsq, hready, hbkd⟩ := Dev.recompute_planned (d := d.setPsq p q) (p := p) (b := b) (by simpa using hb) hout
  rw [Dev.takeClear_eq, Dev.faultCleared_of_planned h hstate hmark]
  refine ⟨?_, ?_, ?_⟩
  · simp [hpsq, Per.set_set, ← hstate]
  · exact (Dev.answered_answers (q := .clear) (p := p) (r := .ok) (figures := []) (.of_eq rfl)).causes.planReady hready
  · simp [hbkd]

theorem Dev.takeClear_close (hj : q.blocking.journalFail = false)
    (hout : ((d.setPsq p q).computePlan p b.record).outcome = .close) :
    (d.takeClear p q removed).psq = d.psq.set p
      { q with choice := none, mark := some ((d.setPsq p q).computePlan p b.record).reason.closeReason } ∧
    (d.takeClear p q removed).bkd = d.bkd := by
  obtain ⟨hpsq, _, hbkd, _⟩ := Dev.recompute_close (d := d.setPsq p q) (p := p) (b := b) (by simpa using hb)
    (by simpa [Dev.journalFailed] using hj) hout
  rw [Dev.takeClear_eq, Dev.faultCleared_of_planned h hstate hmark]
  simp [hpsq, hbkd, Per.set_set]

end
end Clear

/-- Only a DOOR plan closes with DOOR. -/
theorem PlanReason.closeReason_eq (r : PlanReason) : r.closeReason = if r = .door then .door else .expired := by
  cases r <;> rfl

/-! ### The commands of CLEAR -/

section Commands
variable {s : State} {p : Pocket} {payload : List Byte} (had : Admitted .clear payload s.dev) (hp : pocketOf payload = some p)
include had hp

theorem Admitted.clearAll (hn : secondByte payload = 16) :
    exec (.clearAllAdvisory payload) s = .next { s with
      dev := (s.dev.setReceiver .hunting).takeClear p { s.dev.psq.get p with advisory := .empty } (s.dev.psq.get p).advised } :=
  had.next_serveRow hp (mine := (· == clearAllCode)) (beq_iff_eq.2 hn) clearAllOwner

theorem Admitted.clearAdvisory {f : PocketFault} (hf : advisoryTarget (secondByte payload) = some f) :
    exec (.clearAdvisoryFault payload) s = .next { s with
      dev := (s.dev.setReceiver .hunting).takeClear p ((s.dev.psq.get p).put f false) ((s.dev.psq.get p).has f) } := by
  refine (had.next_serveRow hp (mine := fun n => (advisoryTarget n).isSome) (by simp [hf]) (clearAdvisoryOwner payload)).trans ?_
  rw [clearAdvisoryOwner, hf]
  rfl

/-- The step of a CLEAR naming a blocking fault, in the order of R55. -/
theorem Admitted.clearBlocking {f : PocketFault} (hf : blockingTarget (secondByte payload) = some f) :
    ((s.dev.psq.get p).mayClear f = false →
      exec (.clearBlockingFault payload) s = .next { s with dev := s.dev.replied 0x89 [2, pocketIndexByte p] }) ∧
    ((s.dev.psq.get p).mayClear f = true →
      ((s.dev.psq.get p).has f = false →
        exec (.clearBlockingFault payload) s = .next { s with dev := s.dev.replied 0x89 [0, pocketIndexByte p] }) ∧
      ((s.dev.psq.get p).has f = true → s.dev.conditionGone p f = false →
        exec (.clearBlockingFault payload) s = .next { s with dev := s.dev.replied 0x89 [5, pocketIndexByte p] }) ∧
      ((s.dev.psq.get p).has f = true → s.dev.conditionGone p f = true →
        exec (.clearBlockingFault payload) s = .next { s with
          dev := (s.dev.setReceiver .hunting).takeClear p ((s.dev.psq.get p).put f false) true })) := by
  have hserve := had.next_serveRow hp (mine := fun n => (blockingTarget n).isSome) (by simp [hf]) (clearBlockingOwner payload)
  have hrefuse (r : Result) : (s.dev.setReceiver .hunting).refuse .clear payload r =
      s.dev.replied 0x89 [r.byte, pocketIndexByte p] := Dev.refuse_pocket _ r rfl (by decide) hp
  have hgone : (s.dev.setReceiver .hunting).conditionGone p f = s.dev.conditionGone p f := by
    cases f <;> rfl
  have howner : clearBlockingOwner payload p (s.dev.setReceiver .hunting) =
      if !(s.dev.psq.get p).mayClear f then s.dev.replied 0x89 [2, pocketIndexByte p]
      else if !(s.dev.psq.get p).has f then s.dev.replied 0x89 [0, pocketIndexByte p]
      else if !s.dev.conditionGone p f then s.dev.replied 0x89 [5, pocketIndexByte p]
      else (s.dev.setReceiver .hunting).takeClear p ((s.dev.psq.get p).put f false) true := by
    rw [clearBlockingOwner, hf]
    simp only [hrefuse, hgone]
    rfl
  rw [howner] at hserve
  refine ⟨fun h => hserve.trans (by rw [h]; rfl), fun h => ⟨fun h1 => hserve.trans (by rw [h, h1]; rfl),
    fun h1 h2 => hserve.trans (by rw [h, h1, h2]; rfl), fun h1 h2 => hserve.trans (by rw [h, h1, h2]; rfl)⟩⟩

end Commands

theorem Sequencer.mayClear_iff (q : Sequencer) (f : PocketFault) :
    q.mayClear f = true ↔ q.state = .vacant ∨ q.state = .planned ∧ q.mark = none ∧ f ≠ .journalFail := by
  simp only [Sequencer.mayClear, Bool.or_eq_true, Bool.and_eq_true, beq_iff_eq, bne_iff_ne, Option.isNone_iff_eq_none]
  exact or_congr_right ⟨fun ⟨⟨hf, hplanned⟩, hmark⟩ => ⟨hplanned, hmark, hf⟩,
    fun ⟨hplanned, hmark, hf⟩ => ⟨⟨hf, hplanned⟩, hmark⟩⟩

/-- A fault that is removed is one that was in its set. -/
theorem Advisory.has_iff (a : Advisory) : (a.tornTail = true ↔ { a with tornTail := false } ≠ a) ∧
    (a.staleBasis = true ↔ { a with staleBasis := false } ≠ a) ∧
    (a.writeRetry = true ↔ { a with writeRetry := false } ≠ a) := by
  obtain ⟨tornTail, staleBasis, writeRetry⟩ := a
  cases tornTail <;> cases staleBasis <;> cases writeRetry <;> decide

theorem Sequencer.advised_iff (q : Sequencer) : q.advised = true ↔ Advisory.empty ≠ q.advisory := by
  rw [Sequencer.advised, bne_iff_ne]
  exact ne_comm

end Sys2Proof.Machine

namespace Sys2Proof.Proofs

open Sys2Proof.Machine

/-- Settles O49: the CLEAR that is taken, and the recomputation where a fault was removed. -/
theorem clearAdvisory : Obligations.ClearAdvisory := by
  unfold Obligations.ClearAdvisory
  intro s p payload c left had hp hcases
  have htaken : ∃ removed, exec c s = .next { s with
      dev := (s.dev.setReceiver .hunting).takeClear p { s.dev.psq.get p with advisory := left } removed } ∧
      (removed = true ↔ left ≠ (s.dev.psq.get p).advisory) := by
    obtain ⟨htorn, hstale, hretry⟩ := Advisory.has_iff (s.dev.psq.get p).advisory
    rcases hcases with ⟨rfl, hn, rfl⟩ | ⟨rfl, ⟨hn, rfl⟩ | ⟨hn, rfl⟩ | ⟨hn, rfl⟩⟩
    · exact ⟨_, had.clearAll hp hn, Sequencer.advised_iff _⟩
    · exact ⟨_, had.clearAdvisory hp (f := .tornTail) (by rw [hn]; rfl), htorn⟩
    · exact ⟨_, had.clearAdvisory hp (f := .staleBasis) (by rw [hn]; rfl), hstale⟩
    · exact ⟨_, had.clearAdvisory hp (f := .writeRetry) (by rw [hn]; rfl), hretry⟩
  obtain ⟨removed, hexec, hremoved⟩ := htaken
  refine ⟨_, hexec, (Dev.takeClear_faults _).1, (Dev.takeClear_faults _).2, Dev.takeClear_sent _, fun hnot => ?_,
    fun hne hstate hmark b pl hb hpl => ?_, Dev.takeClear_spares _, Dev.takeClear_served _, ?_⟩
  · refine Dev.takeClear_of_not (hnot.imp_left fun h => ?_)
    rw [Bool.eq_false_iff]
    exact fun hr => hremoved.1 hr h
  · have hplan : ((s.dev.setReceiver .hunting).setPsq p { s.dev.psq.get p with advisory := left }).computePlan p b.record =
        pl := by
      rw [hpl]
      cases p <;> rfl
    have hr := hremoved.2 hne
    refine ⟨?_, fun hout => ?_, fun hout hj => ?_⟩
    · rw [Dev.takeClear_plan (q := { s.dev.psq.get p with advisory := left }) (d := s.dev.setReceiver .hunting) hr hstate hmark hb, hplan]
      rfl
    · exact Dev.takeClear_planned (q := { s.dev.psq.get p with advisory := left }) (d := s.dev.setReceiver .hunting) hr
        hstate hmark hb (by rwa [hplan])
    · have hclose := Dev.takeClear_close (q := { s.dev.psq.get p with advisory := left })
        (d := s.dev.setReceiver .hunting) hr hstate hmark hb hj (by rwa [hplan])
      rw [hplan, PlanReason.closeReason_eq] at hclose
      exact hclose
  · apply Dev.ext <;> simp

/-- Settles O50: STATE, then the absent fault, then its condition, then the CLEAR that is taken. -/
theorem clearBlocking : Obligations.ClearBlocking := by
  unfold Obligations.ClearBlocking
  intro s p payload stands left gone had hp hcases
  have hfault : ∃ f, blockingTarget (secondByte payload) = some f ∧ (f = .journalFail ↔ secondByte payload = 4) ∧
      stands = (s.dev.psq.get p).has f ∧ (s.dev.psq.get p).put f false = { s.dev.psq.get p with blocking := left } ∧
      gone = s.dev.conditionGone p f := by
    rcases hcases with ⟨hn, hstands, hleft, hgone⟩ | ⟨hn, hstands, hleft, hgone⟩ | ⟨hn, hstands, hleft, hgone⟩ |
      ⟨hn, hstands, hleft, hgone⟩ <;> rw [hn, hleft]
    · exact ⟨.journalFail, rfl, by simp, hstands, rfl, hgone⟩
    · exact ⟨.ringCorrupt, rfl, by simp, hstands, rfl, hgone⟩
    · refine ⟨.thermal, rfl, by simp, hstands, rfl, hgone.trans ?_⟩
      cases h : (s.dev.sns.get p).lastInRange <;> simp [Dev.conditionGone, h]
    · refine ⟨.sensor, rfl, by simp, hstands, rfl, hgone.trans ?_⟩
      cases h : (s.dev.sns.get p).recent <;> simp [Dev.conditionGone, h]
  obtain ⟨f, hf, hjournal, rfl, hput, rfl⟩ := hfault
  obtain ⟨hstate, hmay⟩ := had.clearBlocking hp hf
  refine ⟨fun hvacant hplanned => hstate ?_, fun hmayIf => ?_⟩
  · rw [Bool.eq_false_iff, Ne, Sequencer.mayClear_iff, Ne.eq_def, hjournal]
    rintro (h | ⟨h1, h2, h3⟩)
    · exact hvacant h
    · exact hplanned.elim (· h1) fun h => h.elim (· h2) h3
  · have hmayTrue : (s.dev.psq.get p).mayClear f = true := by
      rw [Sequencer.mayClear_iff, Ne.eq_def, hjournal]
      exact hmayIf
    obtain ⟨habsent, hstands, htaken⟩ := hmay hmayTrue
    refine ⟨habsent, hstands, fun h1 h2 => ⟨_, htaken h1 h2, ?_⟩⟩
    rw [hput]
    refine ⟨(Dev.takeClear_faults _).2, (Dev.takeClear_faults _).1, Dev.takeClear_sent _, fun hvacant => ?_,
      fun hplanned b hb => ?_, Dev.takeClear_spares _, Dev.takeClear_served _, ?_⟩
    · exact Dev.takeClear_of_not (.inr (.inl (by simp [hvacant])))
    · have hmark : (s.dev.psq.get p).mark = none := by
        rcases hmayIf with h | ⟨_, h, _⟩
        · exact absurd (hplanned.symm.trans h) (by decide)
        · exact h
      rw [Dev.takeClear_plan (q := { s.dev.psq.get p with blocking := left }) (d := s.dev.setReceiver .hunting)
        rfl hplanned hmark hb]
      cases p <;> rfl
    · apply Dev.ext <;> simp

end Sys2Proof.Proofs
end

section
/-! The resume decision: one case per row of Table 7-3, with the condition that leads to it (O53). -/

namespace Sys2Proof.Machine

/-- The gates of R123 and R124 are all passed. -/
def PastGates (q : Sequencer) (f : Facts) : Prop :=
  q.startKind = .warm ∧ f.suspended = true ∧ q.blocking = .empty ∧ (q.strict = false ∨ q.advisory = .empty) ∧ f.latch = false

/-- The plans of steps 6 to 8, each with its condition (R125 to R127). -/
inductive PhaseDecided (pr : Params) (f : Facts) (tNow : Option Int) (r : Record) : Plan → Prop
  | expired : r.body.phase = .anticrease → r.body.burstsLeft ≤ burstsUsed f.stall r.body.guard.period →
      PhaseDecided pr f tNow r (basisPlan r f tNow .close .expired)
  | guardNormal : r.body.phase = .anticrease → burstsUsed f.stall r.body.guard.period < r.body.burstsLeft →
      PhaseDecided pr f tNow r { basisPlan r f tNow .guard .normal with
        bursts := r.body.burstsLeft - burstsUsed f.stall r.body.guard.period }
  | coolNormal (c : Nat) : r.body.phase = .cooling → pr.tCd < knownTemperature tNow →
      coolComputation pr r.body.cool r.body.exhaustLast (knownTemperature tNow) = .cool c →
      PhaseDecided pr f tNow r { basisPlan r f tNow .cool .normal with cool := c }
  | outageLimit (c : Nat) : r.body.phase = .drying → pr.nMax ≤ effectiveOutages r.body f →
      pr.tCd < knownTemperature tNow →
      coolComputation pr r.body.cool r.body.exhaustLast (knownTemperature tNow) = .cool c →
      PhaseDecided pr f tNow r { basisPlan r f tNow .cool .outageLimit with cool := c }
  | coldLoad : r.body.phase = .cooling ∨ r.body.phase = .drying ∧ pr.nMax ≤ effectiveOutages r.body f →
      knownTemperature tNow ≤ pr.tCd →
      PhaseDecided pr f tNow r { basisPlan r f tNow .guard .coldLoad with bursts := r.body.guard.bursts }
  | longStall : r.body.phase = .drying → effectiveOutages r.body f < pr.nMax → pr.sMaxHeat < f.stall →
      PhaseDecided pr f tNow r (basisPlan r f tNow .hold .longStall)
  | reheat (heat : Nat) : r.body.phase = .drying → effectiveOutages r.body f < pr.nMax → f.stall ≤ pr.sMaxHeat →
      PhaseDecided pr f tNow r { basisPlan r f tNow .reheat .normal with heat := heat }

/-- The plans of the decision, each with its condition (R122 to R127). -/
inductive Decided (pr : Params) (q : Sequencer) (f : Facts) (tNow : Option Int) (r : Record) : Plan → Prop
  | noBackup : q.startKind = .cold → Decided pr q f tNow r (basisPlan r f tNow .hold .noBackup)
  | mismatch : q.startKind = .warm → f.suspended = false → Decided pr q f tNow r (basisPlan r f tNow .hold .mismatch)
  | blocked : q.startKind = .warm → f.suspended = true → q.blocking ≠ .empty →
      Decided pr q f tNow r (basisPlan r f tNow .hold .blocked)
  | strict : q.startKind = .warm → f.suspended = true → q.blocking = .empty → q.strict = true → q.advisory ≠ .empty →
      Decided pr q f tNow r (basisPlan r f tNow .hold .strict)
  | door : q.startKind = .warm → f.suspended = true → q.blocking = .empty → (q.strict = false ∨ q.advisory = .empty) →
      f.latch = true → Decided pr q f tNow r (basisPlan r f tNow .close .door)
  | past (pl : Plan) : PastGates q f → PhaseDecided pr f tNow r pl → Decided pr q f tNow r pl

section Decision
variable (pr : Params) (q : Sequencer) (f : Facts) (tNow : Option Int) (r : Record)

/-- COOL with a figure where it is hotter than the cool-down target, and GUARD COLD_LOAD where it is not (R126, R129). -/
theorem coolPlan_cases (why : PlanReason) :
    (∃ c, pr.tCd < knownTemperature tNow ∧
      coolComputation pr r.body.cool r.body.exhaustLast (knownTemperature tNow) = .cool c ∧
      coolPlan pr r f tNow why = { basisPlan r f tNow .cool why with cool := c }) ∨
    knownTemperature tNow ≤ pr.tCd ∧
      coolPlan pr r f tNow why = { basisPlan r f tNow .guard .coldLoad with bursts := r.body.guard.bursts } := by
  cases hcool : coolComputation pr r.body.cool r.body.exhaustLast (knownTemperature tNow) with
  | guard => exact .inr ⟨coolComputation_eq_guard_iff.1 hcool, by rw [coolPlan, hcool]⟩
  | cool c =>
    obtain ⟨hhot, _⟩ := coolComputation_cool_cases hcool
    exact .inl ⟨c, hhot, rfl, by rw [coolPlan, hcool]⟩

theorem phasePlan_decided : PhaseDecided pr f tNow r (phasePlan pr r f tNow) := by
  cases hphase : r.body.phase with
  | anticrease =>
    by_cases hused : r.body.burstsLeft ≤ burstsUsed f.stall r.body.guard.period
    · have heq : phasePlan pr r f tNow = basisPlan r f tNow .close .expired := by simp [phasePlan, hphase, hused]
      exact heq ▸ .expired hphase hused
    · have heq : phasePlan pr r f tNow = { basisPlan r f tNow .guard .normal with
          bursts := r.body.burstsLeft - burstsUsed f.stall r.body.guard.period } := by
        simp [phasePlan, hphase, hused]
      exact heq ▸ .guardNormal hphase (by omega)
  | cooling =>
    have heq : phasePlan pr r f tNow = coolPlan pr r f tNow .normal := by simp [phasePlan, hphase]
    rw [heq]
    rcases coolPlan_cases pr f tNow r .normal with ⟨c, hhot, hcool, heq⟩ | ⟨hcold, heq⟩ <;> rw [heq]
    · exact .coolNormal c hphase hhot hcool
    · exact .coldLoad (.inl hphase) hcold
  | drying =>
    by_cases hmany : pr.nMax ≤ effectiveOutages r.body f
    · have heq : phasePlan pr r f tNow = coolPlan pr r f tNow .outageLimit := by simp [phasePlan, hphase, hmany]
      rw [heq]
      rcases coolPlan_cases pr f tNow r .outageLimit with ⟨c, hhot, hcool, heq⟩ | ⟨hcold, heq⟩ <;> rw [heq]
      · exact .outageLimit c hphase hmany hhot hcool
      · exact .coldLoad (.inr ⟨hphase, hmany⟩) hcold
    · have hfew : effectiveOutages r.body f < pr.nMax := by omega
      by_cases hlong : pr.sMaxHeat < f.stall
      · have heq : phasePlan pr r f tNow = basisPlan r f tNow .hold .longStall := by
          simp [phasePlan, hphase, hmany, hlong]
        exact heq ▸ .longStall hphase hfew hlong
      · have heq : phasePlan pr r f tNow = { basisPlan r f tNow .reheat .normal with
            heat := reheatHeat pr r.body.heat r.body.exhaustLast (knownTemperature tNow) } := by
          simp [phasePlan, hphase, hmany, hlong]
        exact heq ▸ .reheat _ hphase hfew (by omega)

theorem decidePlan_decided : Decided pr q f tNow r (decidePlan pr q f tNow r) := by
  unfold decidePlan
  split
  next hcold => exact .noBackup hcold
  next hcold =>
  have hwarm : q.startKind = .warm := by
    cases h : q.startKind with
    | cold => exact absurd h hcold
    | warm => rfl
  split
  next hsuspended => exact .mismatch hwarm (by simpa using hsuspended)
  next hsuspended =>
  replace hsuspended : f.suspended = true := by simpa using hsuspended
  split
  next hblocked => exact .blocked hwarm hsuspended (by simpa [Sequencer.blocked] using hblocked)
  next hblocked =>
  replace hblocked : q.blocking = .empty := by simpa [Sequencer.blocked] using hblocked
  split
  next hstrict =>
    have hboth : q.strict = true ∧ q.advisory ≠ .empty := by simpa [Sequencer.advised] using hstrict
    exact .strict hwarm hsuspended hblocked hboth.1 hboth.2
  next hstrict =>
  replace hstrict : q.strict = false ∨ q.advisory = .empty := by
    simpa [Sequencer.advised, Bool.eq_false_or_eq_true, Classical.or_iff_not_imp_left] using hstrict
  split
  next hlatch => exact .door hwarm hsuspended hblocked hstrict hlatch
  next hlatch =>
    exact .past _ ⟨hwarm, hsuspended, hblocked, hstrict, by simpa using hlatch⟩ (phasePlan_decided pr f tNow r)

end Decision

/-- The bursts used up in a stall under a legal period (R125). -/
theorem burstsUsed_eq {stall period : Nat} (h : 0 < period) : burstsUsed stall period = stall / period := if_neg (by omega)

section Inputs
variable {pr : Params} {q : Sequencer} {f : Facts} {tNow : Option Int} {r : Record} {pl : Plan}

/-- A plan records its inputs and the basis (R130). -/
theorem Decided.inputs (h : Decided pr q f tNow r pl) :
    pl.basisSeq = r.seq ∧ pl.basisPhase = r.body.phase ∧ pl.stall = f.stall ∧ pl.latch = f.latch ∧
    pl.outages = effectiveOutages r.body f ∧ pl.tNow = tNow ∧ pl.tLast = r.body.exhaustLast ∧ pl.guard = r.body.guard ∧
    pl.stale = staleBasis r f := by
  cases h with
  | past pl _ h => cases h <;> simp [basisPlan]
  | _ => simp [basisPlan]

/-- Every outcome comes with a reason of Table 7-3. -/
theorem Decided.row (h : Decided pr q f tNow r pl) :
    (pl.outcome, pl.reason) ∈ [(ResumeOutcome.hold, PlanReason.noBackup), (.hold, .mismatch), (.hold, .blocked),
      (.hold, .strict), (.close, .door), (.close, .expired), (.guard, .normal), (.cool, .normal), (.guard, .coldLoad),
      (.cool, .outageLimit), (.hold, .longStall), (.reheat, .normal)] := by
  cases h with
  | past pl _ h => cases h <;> simp [basisPlan]
  | _ => simp [basisPlan]

/-- Each gate gives its reason exactly on its condition, in their order (R123, R124). -/
theorem Decided.gates (h : Decided pr q f tNow r pl) :
    (q.startKind = .cold ↔ pl.reason = .noBackup) ∧
    (q.startKind = .warm ∧ f.suspended = false ↔ pl.reason = .mismatch) ∧
    (q.startKind = .warm ∧ f.suspended = true ∧ q.blocking ≠ .empty ↔ pl.reason = .blocked) ∧
    (q.startKind = .warm ∧ f.suspended = true ∧ q.blocking = .empty ∧ q.strict = true ∧ q.advisory ≠ .empty ↔
      pl.reason = .strict) ∧
    (q.startKind = .warm ∧ f.suspended = true ∧ q.blocking = .empty ∧ (q.strict = false ∨ q.advisory = .empty) ∧
      f.latch = true ↔ pl.reason = .door) := by
  cases h with
  | past pl hpast h =>
    obtain ⟨hwarm, hsuspended, hblocking, hstrict, hlatch⟩ := hpast
    rcases hstrict with hstrict | hstrict <;> cases h <;> simp [basisPlan, *]
  | door _ _ _ hstrict => rcases hstrict with hstrict | hstrict <;> simp [basisPlan, *]
  | _ => simp [basisPlan, *]

/-- Past the gates a plan comes from steps 6 to 8, and else from a gate. -/
theorem Decided.past_or_gate (h : Decided pr q f tNow r pl) :
    PastGates q f ∧ PhaseDecided pr f tNow r pl ∨
    ¬ PastGates q f ∧ ((∃ why ∈ [PlanReason.noBackup, .mismatch, .blocked, .strict], pl = basisPlan r f tNow .hold why) ∨
      pl = basisPlan r f tNow .close .door) := by
  cases h with
  | past pl hpast h => exact .inl ⟨hpast, h⟩
  | _ => exact .inr (by simp [PastGates, *])

/-- The reasons of steps 6 to 8 for a basis in ANTICREASE (R125). -/
theorem PhaseDecided.anticrease (h : PhaseDecided pr f tNow r pl) :
    (pl.reason = .expired → r.body.phase = .anticrease) ∧
    (0 < r.body.guard.period →
      (pl.reason = .expired ↔ r.body.phase = .anticrease ∧ r.body.burstsLeft ≤ f.stall / r.body.guard.period) ∧
      (pl.outcome = .guard ∧ pl.reason = .normal ↔
        r.body.phase = .anticrease ∧ f.stall / r.body.guard.period < r.body.burstsLeft)) := by
  refine ⟨fun hreason => ?_, fun hperiod => ?_⟩
  · cases h with
    | expired hphase => exact hphase
    | _ => simp [basisPlan] at hreason
  · rw [← burstsUsed_eq hperiod]
    cases h with
    | coldLoad hphase => rcases hphase with hphase | ⟨hphase, _⟩ <;> simp [basisPlan, *]
    | _ => simp [basisPlan, *]

/-- The reasons of step 7 for a basis in DRYING below the outage limit (R127). -/
theorem PhaseDecided.drying (h : PhaseDecided pr f tNow r pl) :
    (pl.reason = .longStall ↔ r.body.phase = .drying ∧ effectiveOutages r.body f < pr.nMax ∧ pr.sMaxHeat < f.stall) ∧
    (pl.outcome = .reheat ↔ r.body.phase = .drying ∧ effectiveOutages r.body f < pr.nMax ∧ f.stall ≤ pr.sMaxHeat) ∧
    (pl.reason = .outageLimit → r.body.phase = .drying ∧ pr.nMax ≤ effectiveOutages r.body f) := by
  cases h with
  | coldLoad hphase =>
    rcases hphase with hphase | ⟨hphase, hmany⟩
    · simp [basisPlan, hphase]
    · simp [basisPlan, hphase, hmany, Nat.not_lt.2 hmany]
  | outageLimit c hphase hmany => simp [basisPlan, hphase, hmany, Nat.not_lt.2 hmany]
  | _ => simp [basisPlan, *]

/-- The reasons that turn on the temperature (R126, R127). -/
theorem PhaseDecided.temperature {t : Int} (h : PhaseDecided pr f (some t) r pl) :
    (pl.reason = .outageLimit ↔ r.body.phase = .drying ∧ pr.nMax ≤ effectiveOutages r.body f ∧ pr.tCd < t) ∧
    (pl.outcome = .cool ∧ pl.reason = .normal ↔ r.body.phase = .cooling ∧ pr.tCd < t) ∧
    (pl.reason = .coldLoad ↔
      (r.body.phase = .cooling ∨ r.body.phase = .drying ∧ pr.nMax ≤ effectiveOutages r.body f) ∧ t ≤ pr.tCd) := by
  cases h with
  | coldLoad hphase hcold =>
    replace hcold : t ≤ pr.tCd := hcold
    rcases hphase with hphase | ⟨hphase, hmany⟩ <;> simp [basisPlan, *]
  | coolNormal c hphase hhot =>
    replace hhot : pr.tCd < t := hhot
    simp [basisPlan, *]
  | outageLimit c hphase hmany hhot =>
    replace hhot : pr.tCd < t := hhot
    simp [basisPlan, *]
  | longStall hphase hfew => simp [basisPlan, hphase, Nat.not_le.2 hfew]
  | reheat heat hphase hfew => simp [basisPlan, hphase, Nat.not_le.2 hfew]
  | _ => simp [basisPlan, *]

/-- The figures that an outcome sets (R125, R126, R129). -/
theorem Decided.figures (h : Decided pr q f tNow r pl) :
    (pl.outcome = .hold ∨ pl.outcome = .close →
      pl.heat = r.body.heat ∧ pl.cool = r.body.cool ∧ pl.bursts = r.body.burstsLeft) ∧
    (pl.outcome = .cool → pl.heat = r.body.heat ∧ pl.bursts = r.body.burstsLeft ∧
      ∀ t, tNow = some t → coolComputation pr r.body.cool r.body.exhaustLast t = .cool pl.cool) ∧
    (pl.outcome = .guard → pl.heat = r.body.heat ∧ pl.cool = r.body.cool ∧
      (r.body.phase = .anticrease → 0 < r.body.guard.period → 1 ≤ pl.bursts ∧
        pl.bursts = r.body.burstsLeft - f.stall / r.body.guard.period) ∧
      (r.body.phase ≠ .anticrease → pl.bursts = r.body.guard.bursts)) := by
  cases h with
  | past pl hpast h =>
    cases h with
    | coolNormal c _ _ hcool => simpa [basisPlan] using fun t ht => by subst ht; exact hcool
    | outageLimit c _ _ _ hcool => simpa [basisPlan] using fun t ht => by subst ht; exact hcool
    | guardNormal hphase hleft =>
      simp only [basisPlan, hphase]
      refine ⟨by simp, by simp, fun _ => ⟨trivial, trivial, fun _ hperiod => ?_, fun h => absurd rfl h⟩⟩
      rw [burstsUsed_eq hperiod] at hleft ⊢
      omega
    | coldLoad hphase => rcases hphase with hphase | ⟨hphase, _⟩ <;> simp [basisPlan, *]
    | _ => simp [basisPlan]
  | _ => simp [basisPlan]

end Inputs

end Sys2Proof.Machine

namespace Sys2Proof.Proofs

open Sys2Proof.Machine

/-- Settles O53: each clause read off the cases of the decision. -/
theorem planDecision : Obligations.PlanDecision := by
  unfold Obligations.PlanDecision
  intro pr q f tNow r pl nEff hpl hn
  have h := decidePlan_decided pr q f tNow r
  rw [← hpl] at h
  clear hpl
  have houtages : nEff = effectiveOutages r.body f := by rw [hn, effectiveOutages, satAdd_eq]
  clear hn
  subst houtages
  obtain ⟨hcold, hmismatch, hblocked, hstrict, hdoor⟩ := h.gates
  obtain ⟨hheld, hcool, hguard⟩ := h.figures
  refine ⟨h.row, hcold, hmismatch, hblocked, hstrict, hdoor, fun past hpast => ?_, ?_⟩
  · replace hpast : past ↔ PastGates q f := hpast
    rcases h.past_or_gate with ⟨hp, hphase⟩ | ⟨hp, ⟨why, hwhy, rfl⟩ | rfl⟩
    · simp only [hpast.2 hp, true_and]
      obtain ⟨hlong, hreheat, hlimit⟩ := hphase.drying
      refine ⟨hphase.anticrease.1, hphase.anticrease.2, hlong, hreheat, hlimit, fun t ht => ?_⟩
      subst ht
      exact hphase.temperature
    · have hno : ¬ past := fun h => hp (hpast.1 h)
      simp only [List.mem_cons, List.not_mem_nil, or_false] at hwhy
      rcases hwhy with rfl | rfl | rfl | rfl <;> simp [basisPlan, hno]
    · have hno : ¬ past := fun h => hp (hpast.1 h)
      simp [basisPlan, hno]
  · obtain ⟨hseq, hphase, hstall, hlatch, hcount, hnow, hlast, hprogram, hstale⟩ := h.inputs
    refine ⟨hseq, hphase, hstall, hlatch, hcount, hnow, hlast, hprogram, ?_, hheld, hcool, hguard⟩
    rw [hstale, staleBasis, Bool.and_eq_true, bne_iff_ne]

end Sys2Proof.Proofs
end

section
/-! The conversion of a mean code: the rounded quotient, and the segment a code lies in (O56). -/

namespace Sys2Proof.Machine

/-! ### The rounded quotient (00_scope.md 3.6) -/

/-- The rounding is within half a divisor. -/
theorem roundDiv_near (n : Int) {d : Nat} (hd : 0 < d) :
    2 * ((d : Int) * roundDiv n d - n) ≤ d ∧ 2 * (n - (d : Int) * roundDiv n d) ≤ d := by
  have hdiv := Nat.div_add_mod (2 * n.natAbs + d) (2 * d)
  have hmod := Nat.mod_lt (2 * n.natAbs + d) (y := 2 * d) (by omega)
  unfold roundDiv
  generalize (2 * n.natAbs + d) / (2 * d) = k at *
  rw [Nat.mul_assoc] at hdiv
  have hcast : ((d * k : Nat) : Int) = d * k := Int.natCast_mul d k
  split
  · rw [Int.mul_neg, ← hcast]
    omega
  · rw [← hcast]
    omega

theorem roundDiv_le {n m : Int} {d : Nat} (hd : 0 < d) (h : n ≤ d * m) : roundDiv n d ≤ m := by
  obtain ⟨hup, _⟩ := roundDiv_near n hd
  refine Int.not_lt.1 fun hlt => ?_
  have hstep : (d : Int) * (m + 1) ≤ d * roundDiv n d := Int.mul_le_mul_of_nonneg_left (by omega) (by omega)
  rw [Int.mul_add] at hstep
  omega

theorem le_roundDiv {n m : Int} {d : Nat} (hd : 0 < d) (h : d * m ≤ n) : m ≤ roundDiv n d := by
  obtain ⟨_, hdown⟩ := roundDiv_near n hd
  refine Int.not_lt.1 fun hlt => ?_
  have hstep : (d : Int) * (roundDiv n d + 1) ≤ d * m := Int.mul_le_mul_of_nonneg_left (by omega) (by omega)
  rw [Int.mul_add] at hstep
  omega

theorem roundDiv_mul (m : Int) {d : Nat} (hd : 0 < d) : roundDiv (d * m) d = m :=
  Int.le_antisymm (roundDiv_le hd (Int.le_refl _)) (le_roundDiv hd (Int.le_refl _))

/-- A part `x` of `d` of a height lies between 0 and the height. -/
theorem roundDiv_part_between (height : Int) {x d : Nat} (hd : 0 < d) (hx : x ≤ d) :
    min 0 height ≤ roundDiv (x * height) d ∧ roundDiv (x * height) d ≤ max 0 height := by
  rcases Int.le_total 0 height with hh | hh
  · have hpart : (x : Int) * height ≤ d * height := Int.mul_le_mul_of_nonneg_right (by omega) hh
    have hzero : 0 ≤ (x : Int) * height := Int.mul_nonneg (by omega) hh
    exact ⟨by rw [Int.min_eq_left hh]; exact le_roundDiv hd (by simpa using hzero),
      by rw [Int.max_eq_right hh]; exact roundDiv_le hd hpart⟩
  · have hpart : (d : Int) * height ≤ x * height := Int.mul_le_mul_of_nonpos_right (by omega) hh
    have hzero : (x : Int) * height ≤ 0 := Int.mul_nonpos_of_nonneg_of_nonpos (by omega) hh
    exact ⟨by rw [Int.min_eq_right hh]; exact le_roundDiv hd hpart,
      by rw [Int.max_eq_left hh]; exact roundDiv_le hd (by simpa using hzero)⟩

/-! ### The table (R76) -/

theorem paramRange_tempIndex : ∀ k : Fin 9, paramRange (tempIndex k) = (true, -20, 150) := by decide

theorem mem_laterBreakpoints {k : Fin 9} (hk : 0 < k.val) : k ∈ laterBreakpoints := by
  revert k
  decide

/-- The breakpoint that is found is the first later one that passes. -/
theorem find?_laterBreakpoints {f : Fin 9 → Bool} {j : Fin 9} (h : laterBreakpoints.find? f = some j) :
    0 < j.val ∧ f j = true ∧ ∀ k : Fin 9, 0 < k.val → k < j → ¬ f k = true := by
  obtain ⟨hj, i, hi, hget, hbefore⟩ := List.find?_eq_some_iff_getElem.1 h
  have hval (n : Nat) (hn : n < laterBreakpoints.length) : (laterBreakpoints[n]).val = n + 1 := by
    have hall : ∀ m : Fin 8, (laterBreakpoints[m]).val = m.val + 1 := by decide
    exact hall ⟨n, hn⟩
  have hji : j.val = i + 1 := by rw [← hget, hval i hi]
  refine ⟨by omega, hj, fun k hk hkj => ?_⟩
  have hk' : k.val - 1 < i := by have : k.val < j.val := hkj; omega
  have hbefore' := hbefore (k.val - 1) hk'
  have hsame : laterBreakpoints[k.val - 1]'(by omega) = k := Fin.ext (by rw [hval]; omega)
  rw [hsame] at hbefore'
  simpa using hbefore'

section Table
variable {p : Params} (h : p.legal)
include h

theorem Params.temp_bounds (k : Fin 9) : -20 ≤ p.temp k ∧ p.temp k ≤ 150 := by
  have hword := (clampWord_eq_self_iff _ _).1 (h.1 (tempIndex k))
  rwa [paramRange_tempIndex, wordReading, paramRange_tempIndex] at hword

theorem Params.code_le {j k : Fin 9} (hjk : j ≤ k) : p.code j ≤ p.code k := by
  obtain ⟨k, hk⟩ := k
  induction k with
  | zero => exact (Fin.le_zero_iff.1 hjk ▸ Nat.le_refl _)
  | succ k ih =>
    rcases Nat.lt_or_ge j.val (k + 1) with hlt | hge
    · have hstep := h.2 ⟨k + 1, hk⟩ (Nat.succ_pos k)
      have hbefore := ih (by omega) (Nat.lt_succ_iff.1 hlt)
      exact Nat.le_trans hbefore (Nat.le_of_lt hstep)
    · have heq : j = ⟨k + 1, hk⟩ := Fin.ext (Nat.le_antisymm hjk hge)
      exact Nat.le_of_eq (by rw [heq])

theorem Params.code_lt {j k : Fin 9} (hjk : j < k) : p.code j < p.code k := by
  have hbefore := Params.code_le h (j := j) (k := prevBreakpoint k) (Nat.le_sub_one_of_lt hjk)
  exact Nat.lt_of_le_of_lt hbefore (h.2 k (by omega))

section Segment
variable {k : Fin 9} {code : Nat} (hk : 0 < k.val) (hlo : p.code (prevBreakpoint k) ≤ code) (hhi : code ≤ p.code k)
include hk hlo hhi

/-- Within its segment the clamp does not reach the temperature, which is the rounded point of the line. -/
theorem Params.segment_eq :
    p.segment k code = p.temp (prevBreakpoint k) +
      roundDiv (((code - p.code (prevBreakpoint k) : Nat) : Int) * (p.temp k - p.temp (prevBreakpoint k)))
        (p.code k - p.code (prevBreakpoint k)) ∧
    min (p.temp (prevBreakpoint k)) (p.temp k) ≤ p.segment k code ∧
    p.segment k code ≤ max (p.temp (prevBreakpoint k)) (p.temp k) := by
  have hrise := h.2 k hk
  have hj := Params.temp_bounds h (prevBreakpoint k)
  have hk' := Params.temp_bounds h k
  have hbetween := roundDiv_part_between (p.temp k - p.temp (prevBreakpoint k))
    (x := code - p.code (prevBreakpoint k)) (d := p.code k - p.code (prevBreakpoint k)) (by omega) (by omega)
  have hcast : ((code - p.code (prevBreakpoint k) : Nat) : Int) = (code : Int) - p.code (prevBreakpoint k) := by omega
  simp only [Params.segment, clampInt]
  rw [hcast] at hbetween ⊢
  omega

/-- At either end of a segment it gives that breakpoint's temperature. -/
theorem Params.segment_ends : (code = p.code (prevBreakpoint k) → p.segment k code = p.temp (prevBreakpoint k)) ∧
    (code = p.code k → p.segment k code = p.temp k) := by
  obtain ⟨heq, _⟩ := Params.segment_eq h hk hlo hhi
  have hgap : 0 < p.code k - p.code (prevBreakpoint k) := by have := h.2 k hk; omega
  refine ⟨fun hcode => ?_, fun hcode => ?_⟩ <;> rw [heq, hcode]
  · have hzero := roundDiv_mul 0 hgap
    rw [Int.mul_zero] at hzero
    rw [Nat.sub_self, Int.natCast_zero, Int.zero_mul, hzero, Int.add_zero]
  · rw [roundDiv_mul _ hgap]
    omega

/-- A code converts by the segment it lies in, whichever it is. -/
theorem Params.convert_eq : p.convert code = p.segment k code := by
  cases hfind : laterBreakpoints.find? (fun j => code ≤ p.code j) with
  | none => exact absurd hhi (by simpa using List.find?_eq_none.1 hfind k (mem_laterBreakpoints hk))
  | some j =>
    have hconvert : p.convert code = p.segment j code := by rw [Params.convert, hfind]
    obtain ⟨hj, hjhi, hfirst⟩ := find?_laterBreakpoints hfind
    simp only [decide_eq_true_eq] at hjhi hfirst
    rcases Nat.lt_or_ge j.val k.val with hjk | hkj
    · have hbefore : p.code j ≤ p.code (prevBreakpoint k) := Params.code_le h (Nat.le_sub_one_of_lt hjk)
      have hsame : j = prevBreakpoint k := by
        refine Classical.byContradiction fun hne => ?_
        have hle : j.val ≤ (prevBreakpoint k).val := Nat.le_sub_one_of_lt hjk
        have := Params.code_lt h (Nat.lt_of_le_of_ne hle fun heq => hne (Fin.ext heq))
        omega
      have hcode : code = p.code (prevBreakpoint k) := by omega
      rw [hconvert, (Params.segment_ends h hk hlo hhi).1 hcode, ← hsame]
      exact (Params.segment_ends h hj (by have := h.2 j hj; omega) hjhi).2 (by omega)
    · have hnot : ¬ k < j := fun hlt => hfirst k hk hlt hhi
      rw [hconvert, Fin.ext (Nat.le_antisymm (Nat.le_of_not_lt hnot) hkj)]

end Segment
end Table

end Sys2Proof.Machine

namespace Sys2Proof.Proofs

open Sys2Proof.Machine

/-- Settles O56: the segment a code lies in, its ends, its bounds and its rounding. -/
theorem conversionTable : Obligations.ConversionTable := by
  unfold Obligations.ConversionTable
  intro p h
  refine ⟨fun k => ?_, fun k code hk hlo hhi => ?_⟩
  · rcases Nat.eq_zero_or_pos k.val with hk | hk
    · have hprev : prevBreakpoint 1 = k := Fin.ext hk.symm
      have hle : p.code k ≤ p.code 1 := Params.code_le h (Fin.mk_le_of_le_val (by omega))
      have hlo : p.code (prevBreakpoint 1) ≤ p.code k := Nat.le_of_eq (by rw [hprev])
      rw [Params.convert_eq h (k := 1) Nat.one_pos hlo hle, (Params.segment_ends h Nat.one_pos hlo hle).1 (by rw [hprev]),
        hprev]
    · have hlo := Nat.le_of_lt (h.2 k hk)
      rw [Params.convert_eq h hk hlo (Nat.le_refl _), (Params.segment_ends h hk hlo (Nat.le_refl _)).2 rfl]
  · obtain ⟨heq, hmin, hmax⟩ := Params.segment_eq h hk hlo hhi
    rw [Params.convert_eq h hk hlo hhi]
    refine ⟨hmin, hmax, fun line gap hline hgap => ?_⟩
    have hrise := h.2 k hk
    have hnear := roundDiv_near (((code - p.code (prevBreakpoint k) : Nat) : Int) *
      (p.temp k - p.temp (prevBreakpoint k))) (d := p.code k - p.code (prevBreakpoint k)) (by omega)
    have hgap' : ((p.code k - p.code (prevBreakpoint k) : Nat) : Int) = gap := by omega
    have hcode : ((code - p.code (prevBreakpoint k) : Nat) : Int) = (code : Int) - p.code (prevBreakpoint k) := by omega
    have hcancel (a b : Int) : a + b - a = b := by omega
    rw [heq, hcancel, hcode, ← hline]
    rwa [hgap', hcode, ← hline] at hnear

end Sys2Proof.Proofs
end

section
/-! The VALID slots of a scan map, and the basis walk over them (O23). -/

namespace Sys2Proof.Machine

/-! ### The VALID slots (R108) -/

section Map
variable {map : List SlotClass}

theorem mem_validSlots (i : Fin 16) (r : Record) :
    (i, r) ∈ validSlots map ↔ map[i.val]? = some (.valid r) := by
  have hzip (c : SlotClass) : (i, c) ∈ (List.finRange 16).zip map ↔ map[i.val]? = some c := by
    simp only [List.mem_iff_getElem?, List.getElem?_zip_eq_some]
    constructor
    · rintro ⟨n, hn, hc⟩
      obtain ⟨hlt, heq⟩ := List.getElem?_eq_some_iff.1 hn
      rw [List.getElem_finRange] at heq
      have hni : n = i.val := congrArg Fin.val heq
      rwa [← hni]
    · intro hc
      exact ⟨i.val, List.getElem?_eq_some_iff.2 ⟨by simp, by simp⟩, hc⟩
  rw [validSlots, List.mem_filterMap]
  constructor
  · rintro ⟨⟨j, c⟩, hmem, hsome⟩
    cases c with
    | valid q =>
      obtain ⟨rfl, rfl⟩ : j = i ∧ q = r := by simpa using hsome
      exact (hzip _).1 hmem
    | _ => simp at hsome
  · exact fun h => ⟨(i, .valid r), (hzip _).2 h, rfl⟩

/-- The VALID slots come in slot order. -/
theorem validSlots_pairwise (map : List SlotClass) : (validSlots map).Pairwise fun x y => x.1 < y.1 := by
  have hzip : ((List.finRange 16).zip map).Pairwise fun x y => x.1 < y.1 := by
    refine List.pairwise_iff_getElem.2 fun i j hi hj hij => ?_
    simpa using hij
  refine List.Pairwise.filterMap _ (fun x y hxy => ?_) hzip
  intro b hb b' hb'
  cases hx : x.2 <;> cases hy : y.2 <;> simp_all
  simpa [← hb, ← hb'] using hxy

end Map

/-! ### The walk (R108) -/

/-- A VALID slot with its record, as the basis holds them. -/
def basisAt (x : Fin 16 × Record) : Basis := ⟨x.1, x.2⟩

/-- Of two sequences no further apart than 32767 the one behind is not newer. -/
theorem not_newer_of_behind {a b : Word} (h : serialDistance a b ≤ 32767) : newer b a = false := by
  have hneg : serialDistance b a = (65536 - serialDistance a b) % 65536 := by
    unfold serialDistance
    bv_omega
  rw [Bool.eq_false_iff, newer, Ne, Bool.and_eq_true, decide_eq_true_eq, decide_eq_true_eq, hneg]
  omega

theorem newer_of_behind {a b : Word} (h : serialDistance a b ≤ 32767) (hne : b ≠ a) : newer a b = true := by
  have hpos : serialDistance a b ≠ 0 := by
    unfold serialDistance
    bv_omega
  rw [newer, Bool.and_eq_true, decide_eq_true_eq, decide_eq_true_eq]
  omega

section Walk
variable {top : Word} {vs : List (Fin 16 × Record)} (h : ∀ x ∈ vs, serialDistance top x.2.seq ≤ 32767)
include h

theorem walk_stays {c : Basis} (hc : c.record.seq = top) : vs.foldl walkStep (some c) = some c := by
  induction vs with
  | nil => rfl
  | cons x vs ih =>
    have hstep : walkStep (some c) x = some c := by
      rw [walkStep, hc, not_newer_of_behind (h x List.mem_cons_self)]
      rfl
    rw [List.foldl_cons, hstep, ih fun y hy => h y (List.mem_cons_of_mem _ hy)]

/-- Where a record holds the newest sequence the walk ends with the first that does. -/
theorem walk_eq_find {c : Option Basis}
    (hc : ∀ b, c = some b → b.record.seq ≠ top ∧ serialDistance top b.record.seq ≤ 32767)
    (hsome : ∃ x ∈ vs, x.2.seq = top) :
    vs.foldl walkStep c = (vs.find? fun x => x.2.seq == top).map basisAt := by
  induction vs generalizing c with
  | nil => simp at hsome
  | cons x vs ih =>
    have hx := h x List.mem_cons_self
    have hvs : ∀ y ∈ vs, serialDistance top y.2.seq ≤ 32767 := fun y hy => h y (List.mem_cons_of_mem _ hy)
    rw [List.foldl_cons]
    by_cases htop : x.2.seq = top
    · have hstep : walkStep c x = some (basisAt x) := by
        cases c with
        | none => rfl
        | some b =>
          obtain ⟨hne, hbehind⟩ := hc b rfl
          rw [walkStep, htop, newer_of_behind hbehind hne]
          rfl
      rw [hstep, walk_stays hvs htop, List.find?_cons_of_pos (by simpa using htop)]
      rfl
    · rw [List.find?_cons_of_neg (by simpa using htop)]
      refine ih hvs (fun b hb => ?_) (by simpa [htop] using hsome)
      have hcases : b = basisAt x ∨ c = some b := by
        cases c with
        | none => exact .inl (Option.some.inj hb).symm
        | some b' =>
          rw [walkStep] at hb
          split at hb
          · exact .inl (Option.some.inj hb).symm
          · exact .inr hb
      rcases hcases with rfl | hcb
      · exact ⟨htop, hx⟩
      · exact hc b hcb

end Walk

end Sys2Proof.Machine

namespace Sys2Proof.Proofs

open Sys2Proof.Machine

/-- Settles O23: the walk ends with the first VALID slot that holds the newest sequence. -/
theorem basisIsNewest : Obligations.BasisIsNewest := by
  unfold Obligations.BasisIsNewest
  intro map i r _ hi hbehind
  have hvs : ∀ x ∈ validSlots map, serialDistance r.seq x.2.seq ≤ 32767 :=
    fun x hx => hbehind x.1 x.2 ((mem_validSlots _ _).1 hx)
  have hsome : ∃ x ∈ validSlots map, x.2.seq = r.seq := ⟨(i, r), (mem_validSlots _ _).2 hi, rfl⟩
  have hwalk : selectBasis map = ((validSlots map).find? fun x => x.2.seq == r.seq).map basisAt :=
    walk_eq_find hvs (by simp) hsome
  cases hfind : (validSlots map).find? fun x => x.2.seq == r.seq with
  | none =>
    obtain ⟨x, hx, hseq⟩ := hsome
    exact absurd hseq (by simpa using List.find?_eq_none.1 hfind x hx)
  | some x =>
    obtain ⟨hseq, before, after, hsplit, hbefore⟩ := List.find?_eq_some_iff_append.1 hfind
    refine ⟨basisAt x, by rw [hwalk, hfind]; rfl, by simpa [basisAt] using hseq,
      (mem_validSlots _ _).1 (List.mem_of_find?_eq_some hfind), fun j q hj hq => ?_⟩
    have hmem := (mem_validSlots _ _).2 hq
    have horder := validSlots_pairwise map
    rw [hsplit] at hmem horder
    rcases List.mem_append.1 hmem with hin | hin
    · simpa using hbefore _ hin
    · have hafter := (List.pairwise_cons.1 (List.pairwise_append.1 horder).2.1).1
      rcases List.mem_cons.1 hin with rfl | hin
      · exact absurd hj (Nat.lt_irrefl _)
      · exact absurd (hafter _ hin) (Nat.lt_asymm hj)

end Sys2Proof.Proofs
end

section
/-! PARAM_READ and PARAM_WRITE: the clamped word, the pass over the table codes, and what a write acts on (O52). -/

namespace Sys2Proof.Machine

/-! ### A request of the whole part -/

section
variable {q : Request} {payload : List Byte} {s : State} {r : Result}

/-- The next state of a command that names no pocket is its owner's, the receiver hunting. -/
theorem Admitted.next_serve (h : Admitted q payload s.dev) (owner : Dev → Dev) :
    onDev (Dev.serveRequest q payload owner) s = .next { s with dev := owner (s.dev.setReceiver .hunting) } := by
  rw [onDev, h.serve owner]

theorem Dev.refuse_device (d : Dev) (hn : q.namesPocket = false) :
    (d.setReceiver .hunting).refuse q payload r = d.replied q.replyType [r.byte] := by
  rw [Dev.refuse, Dev.refusal_device r hn]
  rfl

end

/-! ### The word of an index (Table 11-8) -/

theorem clampWord_of_unsigned {i : Fin 40} {lo hi v : Nat} (h : paramRange i = (false, (lo : Int), (hi : Int)))
    (hv : v < 65536) : clampWord i (BitVec.ofNat 16 v) = BitVec.ofNat 16 (max lo (min hi v)) := by
  have hbounds := (paramRange_bounds i).1
  simp only [h] at hbounds
  have hread : ((BitVec.ofNat 16 v).toNat : Int) = v := by rw [BitVec.toNat_ofNat]; omega
  have hclamp : clampInt (v : Int) lo hi = ((max lo (min hi v) : Nat) : Int) := by
    unfold clampInt
    omega
  rw [clampWord_eq, wordReading, h]
  simp only [Bool.false_eq_true, if_false, hread, hclamp]
  exact BitVec.ofInt_natCast ..

theorem clampWord_of_signed {i : Fin 40} {lo hi : Int} (h : paramRange i = (true, lo, hi)) (w : Word) :
    clampWord i w = BitVec.ofInt 16 (max lo (min hi w.toInt)) := by
  have hbounds := (paramRange_bounds i).1
  simp only [h] at hbounds
  have hclamp : clampInt w.toInt lo hi = max lo (min hi w.toInt) := by
    unfold clampInt
    omega
  rw [clampWord_eq, wordReading, h]
  simp only [if_true, hclamp]

/-- The counts and times of Table 11-8, which stand alone. -/
theorem paramRange_of_count {i : Fin 40} {lo hi : Nat}
    (h : (i.val, lo, hi) ∈ [(0, 0, 65535), (1, 0, 1023), (2, 0, 14400), (3, 1, 255), (5, 0, 3600), (8, 2, 60),
        (9, 7, 600), (10, 1, 255), (11, 0, 1), (20, 0, 3), (21, 10, 60)] ∨ 12 ≤ i.val ∧ i.val ≤ 19 ∧ lo = 0 ∧ hi = 65535) :
    paramRange i = (false, (lo : Int), (hi : Int)) ∧ isCodeIndex i = false := by
  obtain ⟨n, hn⟩ := i
  rcases h with h | ⟨hlow, hhigh, rfl, rfl⟩
  · simp only [List.mem_cons, Prod.mk.injEq, List.not_mem_nil, or_false] at h
    rcases h with ⟨rfl, rfl, rfl⟩ | ⟨rfl, rfl, rfl⟩ | ⟨rfl, rfl, rfl⟩ | ⟨rfl, rfl, rfl⟩ | ⟨rfl, rfl, rfl⟩ | ⟨rfl, rfl, rfl⟩ |
      ⟨rfl, rfl, rfl⟩ | ⟨rfl, rfl, rfl⟩ | ⟨rfl, rfl, rfl⟩ | ⟨rfl, rfl, rfl⟩ | ⟨rfl, rfl, rfl⟩ <;> exact ⟨rfl, rfl⟩
  · simp only at hlow hhigh
    obtain rfl | rfl | rfl | rfl | rfl | rfl | rfl | rfl :
        n = 12 ∨ n = 13 ∨ n = 14 ∨ n = 15 ∨ n = 16 ∨ n = 17 ∨ n = 18 ∨ n = 19 := by
      omega
    all_goals exact ⟨rfl, rfl⟩

/-- The temperatures of Table 11-8 (unit °C). -/
theorem paramRange_of_temperature : ∀ i : Fin 40,
    (i.val = 4 ∨ 23 ≤ i.val ∧ i.val % 2 = 1 → paramRange i = (true, -20, 150) ∧ isCodeIndex i = false) ∧
    (i.val = 6 → paramRange i = (true, 60, 150) ∧ isCodeIndex i = false) ∧
    (i.val = 7 → paramRange i = (true, 1, 20) ∧ isCodeIndex i = false) := by decide

theorem Params.write_of_not_code {p : Params} {i : Fin 40} (h : isCodeIndex i = false) (w : Word) :
    p.write i w = p.set i (clampWord i w) := by
  rw [Params.write, h]
  rfl

theorem Params.writeClamped_iff (p : Params) (i : Fin 40) (w : Word) :
    p.writeClamped i w = true ↔ p.write i w ≠ p.set i w := bne_iff_ne

/-! ### The pass over the codes (R76) -/

/-- The codes `1` to `n` of `p` are those of `q`, each raised above the one before it; every other word is as in `q`. -/
def Params.raisedTo (n : Nat) (q p : Params) : Prop :=
  (∀ j : Fin 9, 0 < j.val → j.val ≤ n → p.code j =
    if q.code j ≤ p.code (prevBreakpoint j) then (p.code (prevBreakpoint j) + 1) % 65536 else q.code j) ∧
  ∀ x : Fin 40, (∀ j : Fin 9, 0 < j.val → j.val ≤ n → x ≠ codeIndex j) → p[x] = q[x]

theorem raiseCode_raisedTo {q p : Params} {n : Nat} (k : Fin 9) (hk : k.val = n + 1) (h : q.raisedTo n p) :
    q.raisedTo (n + 1) (raiseCode p k) := by
  obtain ⟨hcodes, hrest⟩ := h
  have hprev (j : Fin 9) : (prevBreakpoint j).val = j.val - 1 := rfl
  have hne {j : Fin 9} (hj : j.val < k.val) : codeIndex k ≠ codeIndex j := fun heq => by
    rw [codeIndex_inj heq] at hj
    exact Nat.lt_irrefl _ hj
  have hbefore (j : Fin 9) (hj : j.val < k.val) : (raiseCode p k).code j = p.code j := by
    unfold raiseCode
    split
    · exact Params.code_set_of_ne (hne hj)
    · rfl
  have hsame : p.code k = q.code k := by
    have := hrest (codeIndex k) fun j _ hjn heq => by
      rw [← codeIndex_inj heq] at hjn
      omega
    rw [Params.code, Params.nat, this]
    rfl
  refine ⟨fun j hj hjn => ?_, fun x hx => ?_⟩
  · rcases Nat.lt_or_ge j.val k.val with hlt | hge
    · rw [hbefore j hlt, hbefore (prevBreakpoint j) (by have := hprev j; omega)]
      exact hcodes j hj (by omega)
    · obtain rfl : j = k := Fin.ext (by omega)
      rw [hbefore (prevBreakpoint j) (by have := hprev j; omega), ← hsame]
      unfold raiseCode
      split
      · rw [Params.code_set_self, BitVec.toNat_ofNat]
      · rfl
  · have hxk := hx k (by omega) (by omega)
    have hstep : (raiseCode p k)[x] = p[x] := by
      unfold raiseCode
      split
      · rw [Params.getElem_set, if_neg hxk.symm]
      · rfl
    rw [hstep]
    exact hrest x fun j hj hjn => hx j hj (by omega)

theorem raiseCodes_raisedTo (q : Params) : q.raisedTo 8 (raiseCodes q) := by
  have h0 : q.raisedTo 0 q := ⟨fun j hj hj' => absurd hj (by omega), fun _ _ => rfl⟩
  have h4 := raiseCode_raisedTo 4 rfl (raiseCode_raisedTo 3 rfl (raiseCode_raisedTo 2 rfl (raiseCode_raisedTo 1 rfl h0)))
  have h8 := raiseCode_raisedTo 8 rfl (raiseCode_raisedTo 7 rfl (raiseCode_raisedTo 6 rfl (raiseCode_raisedTo 5 rfl h4)))
  simpa only [raiseCodes, laterBreakpoints, List.foldl_cons, List.foldl_nil] using h8

/-! ### What a write acts on (R5, R53, R174) -/

/-- The part with new words in force. -/
def Dev.withParams (pr : Params) (d : Dev) : Dev := d.setLink { d.link with params := pr }

/-- The part with new words in force, and their readers acted on. -/
def Dev.paramWritten (i : Fin 40) (pr : Params) (d : Dev) : Dev := (d.withParams pr).applyParam i

@[simp] theorem Dev.withParams_frame (pr : Params) (d : Dev) :
    (d.withParams pr).pins = d.pins ∧ (d.withParams pr).bkd = d.bkd ∧ (d.withParams pr).run = d.run ∧
    (d.withParams pr).settle = d.settle ∧ (d.withParams pr).reserve = d.reserve ∧ (d.withParams pr).adc = d.adc ∧
    (d.withParams pr).faults = d.faults ∧ (d.withParams pr).sns = d.sns ∧ (d.withParams pr).psq = d.psq ∧
    (d.withParams pr).image = d.image ∧ (d.withParams pr).engine = d.engine ∧ (d.withParams pr).ring = d.ring ∧
    (d.withParams pr).scan = d.scan ∧ (d.withParams pr).journal = d.journal ∧ (d.withParams pr).plan = d.plan ∧
    (d.withParams pr).arbiter = d.arbiter ∧ (d.withParams pr).tmb = d.tmb ∧
    (d.withParams pr).link = { d.link with params := pr } ∧ (d.withParams pr).freeCount = d.freeCount := by
  simp [Dev.withParams]

theorem Dev.withParams_dipGap {pr : Params} {d : Dev} (hrun : d.run ≠ .backup) (hloaded : d.link.loaded = true) :
    (d.withParams pr).dipGap = pr[(21 : Fin 40)].toNat :=
  Dev.dipGap_of_params ((Dev.paramsInForce_iff _).2 ⟨hrun, hloaded⟩)

theorem Dev.applyDipGap_cases (d : Dev) :
    d.applyDipGap = d ∨ d.applyDipGap = d.enterDip ∨ d.applyDipGap = d.abortQualifying := by
  unfold Dev.applyDipGap
  dsimp only
  split
  · exact .inl rfl
  · split
    · exact .inr (.inl rfl)
    · exact .inr (.inr rfl)
    · exact .inl rfl
    · exact .inl rfl

@[simp] theorem Dev.applyDipGap_frame (d : Dev) :
    d.applyDipGap.pins = d.pins ∧ d.applyDipGap.run = d.run ∧ d.applyDipGap.reserve = d.reserve ∧
    d.applyDipGap.adc = d.adc ∧ d.applyDipGap.faults = d.faults ∧ d.applyDipGap.sns = d.sns ∧ d.applyDipGap.psq = d.psq ∧
    d.applyDipGap.image = d.image ∧ d.applyDipGap.engine = d.engine ∧ d.applyDipGap.ring = d.ring ∧
    d.applyDipGap.scan = d.scan ∧ d.applyDipGap.journal = d.journal ∧ d.applyDipGap.plan = d.plan ∧
    d.applyDipGap.arbiter = d.arbiter ∧ d.applyDipGap.link = d.link ∧ d.applyDipGap.freeCount = d.freeCount := by
  rcases d.applyDipGap_cases with h | h | h <;> simp [h]

theorem Dev.applyDipGap_of_lt {d : Dev} (h : d.bkd.monitor.absence < d.dipGap) : d.applyDipGap = d := if_pos h

/-- A dip gap no longer than the absence time acts on the monitor at once (R5). -/
theorem Dev.applyDipGap_of_le {d : Dev} (h : d.dipGap ≤ d.bkd.monitor.absence) :
    (d.bkd.monitor.state = .present → d.applyDipGap.bkd.monitor.state = .dip) ∧
    (d.bkd.monitor.state = .qualifying → d.applyDipGap.bkd.monitor.state = .absent) ∧
    (d.bkd.monitor.state = .dip → d.applyDipGap.bkd.monitor.state = .dip) ∧
    (d.bkd.monitor.state = .absent → d.applyDipGap.bkd.monitor.state = .absent) ∧
    d.applyDipGap.bkd.facts = d.bkd.facts ∧ d.applyDipGap.bkd.confidence = d.bkd.confidence := by
  have hle : ¬ d.bkd.monitor.absence < d.dipGap := Nat.not_lt.2 h
  have hfacts : d.enterDip.bkd.facts = d.bkd.facts := rfl
  refine ⟨fun h => ?_, fun h => ?_, fun h => ?_, fun h => ?_, ?_, ?_⟩
  case refine_5 => rcases d.applyDipGap_cases with h | h | h <;> rw [h] <;> rfl
  case refine_6 => rcases d.applyDipGap_cases with h | h | h <;> rw [h] <;> rfl
  all_goals simp only [Dev.applyDipGap, hle, if_false, h] <;> rfl

section
variable {i : Fin 40} {pr : Params} {d : Dev}

theorem Dev.paramWritten_strict (h : i = strictIndex) :
    d.paramWritten i pr = (d.withParams pr).takeStrictCopies := by
  rw [Dev.paramWritten, Dev.applyParam, if_pos h]

theorem Dev.paramWritten_dipGap (h : i = dipGapIndex) :
    d.paramWritten i pr = (d.withParams pr).applyDipGap := by
  subst h
  rfl

theorem Dev.paramWritten_other (h : i ≠ strictIndex) (h' : i ≠ dipGapIndex) :
    d.paramWritten i pr = d.withParams pr := by
  rw [Dev.paramWritten, Dev.applyParam, if_neg h, if_neg h']

theorem Dev.paramWritten_cases (i : Fin 40) (pr : Params) (d : Dev) :
    i = strictIndex ∧ d.paramWritten i pr = (d.withParams pr).takeStrictCopies ∨
    i = dipGapIndex ∧ d.paramWritten i pr = (d.withParams pr).applyDipGap ∨
    i ≠ strictIndex ∧ i ≠ dipGapIndex ∧ d.paramWritten i pr = d.withParams pr := by
  by_cases h : i = strictIndex
  · exact .inl ⟨h, Dev.paramWritten_strict h⟩
  · by_cases h' : i = dipGapIndex
    · exact .inr (.inl ⟨h', Dev.paramWritten_dipGap h'⟩)
    · exact .inr (.inr ⟨h, h', Dev.paramWritten_other h h'⟩)

@[simp] theorem Dev.paramWritten_frame (i : Fin 40) (pr : Params) (d : Dev) :
    (d.paramWritten i pr).pins = d.pins ∧ (d.paramWritten i pr).run = d.run ∧ (d.paramWritten i pr).reserve = d.reserve ∧
    (d.paramWritten i pr).adc = d.adc ∧ (d.paramWritten i pr).faults = d.faults ∧ (d.paramWritten i pr).sns = d.sns ∧
    (d.paramWritten i pr).image = d.image ∧ (d.paramWritten i pr).engine = d.engine ∧
    (d.paramWritten i pr).ring = d.ring ∧ (d.paramWritten i pr).scan = d.scan ∧
    (d.paramWritten i pr).journal = d.journal ∧ (d.paramWritten i pr).plan = d.plan ∧
    (d.paramWritten i pr).arbiter = d.arbiter ∧ (d.paramWritten i pr).link = { d.link with params := pr } ∧
    (d.paramWritten i pr).freeCount = d.freeCount := by
  rcases d.paramWritten_cases i pr with ⟨_, h⟩ | ⟨_, h⟩ | ⟨_, _, h⟩ <;> simp [h]

end

/-! ### The replies -/

theorem paramIndex_eq {payload : List Byte} {i : Fin 40} (h : (payload.getD 0 0).toNat = i.val) : paramIndex payload = i := by
  have hlt : (pocketByte payload).toNat < 40 := by
    rw [show (pocketByte payload).toNat = i.val from h]
    exact i.isLt
  rw [paramIndex, dif_pos hlt]
  exact Fin.ext h

theorem paramFigures_eq {payload : List Byte} {i : Fin 40} (h : (payload.getD 0 0).toNat = i.val) (pr : Params) :
    paramFigures pr i = payload.getD 0 0 :: leBytes 2 pr[i].toNat := by
  have hbyte : byte1 i.val = [payload.getD 0 0] := by rw [← h]; exact byte1_toNat _
  rw [paramFigures, hbyte]
  rfl

section
variable {s : State} {payload : List Byte} {i : Fin 40} (hi : (payload.getD 0 0).toNat = i.val)
  (had : Admitted .paramWrite payload s.dev)
include had

theorem Admitted.paramWrite_refused (h : (s.dev.psq.get .a).state ≠ .vacant ∨ (s.dev.psq.get .b).state ≠ .vacant) :
    exec (.paramWrite payload) s = .next { s with dev := s.dev.replied 0x8D [2] } := by
  have hnot : (s.dev.setReceiver .hunting).bothVacant = false := by
    rw [Bool.eq_false_iff]
    intro hboth
    obtain ⟨ha, hb⟩ : (s.dev.psq.get .a).state = .vacant ∧ (s.dev.psq.get .b).state = .vacant := by
      simpa [Dev.bothVacant] using hboth
    exact h.elim (· ha) (· hb)
  have hserve := had.next_serve (paramWriteOwner payload)
  rw [paramWriteOwner, hnot, if_neg Bool.false_ne_true, Dev.refuse_device _ rfl] at hserve
  exact hserve

include hi in
theorem Admitted.paramWrite_taken (ha : (s.dev.psq.get .a).state = .vacant) (hb : (s.dev.psq.get .b).state = .vacant)
    {pr : Params} (hpr : pr = Params.write s.dev.link.params i (BitVec.ofNat 16 (fieldValue payload 1 2))) :
    exec (.paramWrite payload) s = .next { s with
      dev := ((s.dev.setReceiver .hunting).paramWritten i pr).reply .paramWrite
        ([if pr = s.dev.link.params.set i (BitVec.ofNat 16 (fieldValue payload 1 2)) then 0 else 1, payload.getD 0 0] ++
          leBytes 2 pr[i].toNat) } := by
  subst hpr
  have hboth : (s.dev.setReceiver .hunting).bothVacant = true := by
    rw [Dev.bothVacant, (s.dev.setReceiver_frame _).2.2.2.2.2.2.2.2.1, ha, hb]
    rfl
  have hserve := had.next_serve (paramWriteOwner payload)
  rw [paramWriteOwner, hboth, if_pos rfl] at hserve
  simp only [paramIndex_eq hi, paramFigures_eq hi] at hserve
  refine hserve.trans (congrArg (fun d => Host.Outcome.next { s with dev := d }) ?_)
  refine congrArg (fun b => Dev.reply .paramWrite (b :: (payload.getD 0 0 :: _)) _) ?_
  by_cases hsame : Params.write s.dev.link.params i (BitVec.ofNat 16 (fieldValue payload 1 2)) =
      s.dev.link.params.set i (BitVec.ofNat 16 (fieldValue payload 1 2))
  · rw [if_pos hsame]
    exact congrArg Result.byte (if_neg fun h => (Params.writeClamped_iff ..).1 h hsame)
  · rw [if_neg hsame]
    exact congrArg Result.byte (if_pos ((Params.writeClamped_iff ..).2 hsame))

end

end Sys2Proof.Machine

namespace Sys2Proof.Proofs

open Sys2Proof.Machine

/-- Settles O52: PARAM_READ, the refusal, and the write by its index. -/
theorem paramReadWrite : Obligations.ParamReadWrite := by
  unfold Obligations.ParamReadWrite
  intro s payload i hi
  refine ⟨fun had => ?_, fun had => ⟨had.paramWrite_refused, fun ha hb => ?_⟩⟩
  · have hserve := had.next_serve (paramReadOwner payload)
    rw [paramReadOwner, paramIndex_eq hi, paramFigures_eq hi] at hserve
    exact hserve
  · have hlt : fieldValue payload 1 2 < 65536 := fieldValue_lt payload 1 2
    generalize hpr : Params.write s.dev.link.params i (BitVec.ofNat 16 (fieldValue payload 1 2)) = pr
    refine ⟨_, pr, had.paramWrite_taken hi ha hb hpr.symm, fun lo hi' h => ?_, fun lo hi' h => ?_, fun k q hk hq => ?_, ?_,
      fun hne => ?_, fun hstrict p => ?_, fun h => ?_, fun hgap hloaded hle => ?_, ?_⟩
    · obtain ⟨hrange, hcode⟩ := paramRange_of_count h
      rw [← hpr, Params.write_of_not_code hcode, clampWord_of_unsigned hrange hlt]
    · obtain ⟨hfour, hsix, hseven⟩ := paramRange_of_temperature i
      have hrange : paramRange i = (true, lo, hi') ∧ isCodeIndex i = false := by
        rcases h with ⟨h, rfl, rfl⟩ | ⟨h, rfl, rfl⟩ | ⟨h, rfl, rfl⟩
        · exact hfour h
        · exact hsix h
        · exact hseven h
      rw [← hpr, Params.write_of_not_code hrange.2, clampWord_of_signed hrange.1]
    · obtain rfl : i = codeIndex k := Fin.ext hk
      have hq' : pr = raiseCodes q := by
        rw [← hpr, hq, Params.write, if_pos (isCodeIndex_codeIndex k),
          clampWord_of_unsigned (lo := k.val) (hi := 4087 + k.val) (by simpa using paramRange_codeIndex k) hlt]
      obtain ⟨hcodes, hrest⟩ := raiseCodes_raisedTo q
      rw [hq']
      refine ⟨?_, fun j hj => hcodes j hj (by omega), fun x hx => hrest x fun j hj _ heq => hx ?_⟩
      · have := hrest (codeIndex 0) fun j hj _ heq => by rw [← codeIndex_inj heq] at hj; exact Nat.lt_irrefl _ hj
        rw [Params.code, Params.nat, this]
        rfl
      · rw [heq]
        exact ⟨by simp only [codeIndex]; omega, by simp only [codeIndex]; omega⟩
    · simp [Dev.reply, Dev.send]
      exact ⟨rfl, rfl, rfl, ⟨rfl, rfl⟩, rfl, rfl, rfl⟩
    · rcases Dev.paramWritten_cases i pr (s.dev.setReceiver .hunting) with ⟨h, _⟩ | ⟨_, h⟩ | ⟨_, _, h⟩
      · exact absurd (congrArg Fin.val h) hne
      all_goals simp [h]
    · rw [Dev.paramWritten_strict (Fin.ext hstrict)]
      exact Dev.takeStrictCopies_psq _ p
    · rcases Dev.paramWritten_cases i pr (s.dev.setReceiver .hunting) with ⟨hi, heq⟩ | ⟨hi, heq⟩ | ⟨_, _, heq⟩ <;> rw [heq]
      · simp
      · obtain ⟨hloaded, hlt⟩ := h.resolve_left (fun hne => hne (congrArg Fin.val hi))
        rw [Dev.applyDipGap_of_lt
          (by rwa [Dev.withParams_dipGap (d := s.dev.setReceiver .hunting) (by simp [had.running]) hloaded, Dev.withParams_frame .. |>.2.1])]
        simp
      · simp
    · rw [Dev.paramWritten_dipGap (Fin.ext hgap)]
      have happly := Dev.applyDipGap_of_le (d := (s.dev.setReceiver .hunting).withParams pr)
        (by rwa [Dev.withParams_dipGap (d := s.dev.setReceiver .hunting) (by simp [had.running]) hloaded, Dev.withParams_frame .. |>.2.1])
      obtain ⟨hpresent, hqualifying, hdip, habsent, hfacts, hconfidence⟩ := happly
      refine ⟨?_, by simpa using hfacts, by simpa using hconfidence⟩
      cases hm : s.dev.bkd.monitor.state with
      | present => simpa using hpresent (by simpa using hm)
      | qualifying => simpa using hqualifying (by simpa using hm)
      | dip => simpa using hdip (by simpa using hm)
      | absent => simpa using habsent (by simpa using hm)
    · apply Dev.ext <;> simp

end Sys2Proof.Proofs
end

section
/-! END: the closure it decides, and its reply (O44). -/

namespace Sys2Proof.Machine

/-! ### Replies owed and released -/

/-- A deferred request that is admitted is owed no earlier reply (R164, check 8). -/
theorem Admitted.not_owed {q : Request} {payload : List Byte} {d : Dev} {p : Pocket} (had : Admitted q payload d)
    (hdefer : q.deferrable = true) (hn : q.namesPocket = true) (hp : pocketOf payload = some p) :
    d.owed q (some p) = none := by
  have hfresh := had.fresh
  have hpocket : namedPocket payload = p := by rw [namedPocket, hp]
  simpa [Dev.duplicate, hdefer, hn, hpocket] using hfresh

theorem Dev.defer_answers (e : Deferred) (d : Dev) : d.link.Answers (d.defer e).link :=
  ⟨rfl, List.prefix_rfl, .refl _⟩

theorem Dev.defer_leaves (x : Pocket) (e : Deferred) (d : Dev) : d.LeavesPocket x (d.defer e) :=
  ⟨by simp, by simp, by simp, imageKept_of_eq (by simp)⟩

/-- A reply owed on another request than FORMAT outlasts a selection. -/
theorem Dev.select_deferred {e : Deferred} {d : Dev} (h : e ∈ d.link.deferred) (hq : e.request ≠ .format) :
    e ∈ d.select.link.deferred := d.select_link.2.2.2 e h hq

theorem Dev.defer_select_mem (e : Deferred) (d : Dev) (hq : e.request ≠ .format) :
    e ∈ (d.defer e).select.link.deferred := Dev.select_deferred (by simp [Dev.defer]) hq

/-- With no END owed a decided closure sends nothing. -/
theorem Dev.decideClosure_transmit {p : Pocket} {r : CloseReason} {d : Dev} (h : d.owed .endCycle (some p) = none) :
    (d.decideClosure p r).link.transmit = d.link.transmit := by
  have hrelease (e : Dev) (he : e.link = d.link) (bytes : List Byte) :
      (e.release .endCycle (some p) bytes).link.transmit = d.link.transmit := by
    have howed : e.owed .endCycle (some p) = none := by rw [Dev.owed, he]; exact h
    rw [Dev.release, howed, he]
  rcases d.decideClosure_cases p r with ⟨_, heq⟩ | ⟨_, heq⟩ <;> rw [heq]
  · unfold Dev.closureEffect
    dsimp only
    (repeat' split) <;> simpa [Dev.raiseCause] using hrelease _ (by simp) _
  · simp

/-! ### A closure that END decides (R37) -/

/-- The closure of a pocket in a cycle, or of one that waits. -/
def Dev.ending (p : Pocket) (d : Dev) : Dev :=
  if (d.psq.get p).state.active then d.decideClosure p .ended else d.closeWaiting p .discarded

section Ending
variable {p x : Pocket} {d : Dev}

theorem Dev.ending_of_active (h : (d.psq.get p).state.active = true) : d.ending p = d.decideClosure p .ended := if_pos h

theorem Dev.ending_of_not_active (h : (d.psq.get p).state.active = false) :
    d.ending p = d.closeWaiting p .discarded := by rw [Dev.ending, h, if_neg Bool.false_ne_true]

/-- In either case a closure is decided, in a part that keeps the backup domain, the link and the timers. -/
theorem Dev.ending_cases (p : Pocket) (d : Dev) :
    ((d.psq.get p).state.active = true ∧ d.ending p = d.decideClosure p .ended) ∨
    ((d.psq.get p).state.active = false ∧ d.ending p = (d.readyToClose p).decideClosure p .discarded) := by
  cases h : (d.psq.get p).state.active with
  | true => exact .inl ⟨rfl, Dev.ending_of_active h⟩
  | false => exact .inr ⟨rfl, Dev.ending_of_not_active h⟩

@[simp] theorem Dev.ending_frame (p : Pocket) (d : Dev) :
    (d.ending p).pins = d.pins ∧ (d.ending p).run = d.run ∧ (d.ending p).settle = d.settle ∧
    (d.ending p).reserve = d.reserve ∧ (d.ending p).adc = d.adc ∧ (d.ending p).faults = d.faults ∧
    (d.ending p).sns = d.sns ∧ (d.ending p).ring = d.ring ∧ (d.ending p).scan = d.scan ∧
    (d.ending p).journal = d.journal ∧ (d.ending p).plan = d.plan ∧ (d.ending p).freeCount = d.freeCount := by
  unfold Dev.ending
  split <;> simp

theorem Dev.ending_leaves (d : Dev) (hx : x ≠ p) : d.LeavesPocket x (d.ending p) := by
  unfold Dev.ending
  split
  · exact d.decideClosure_leaves _ hx
  · exact d.closeWaiting_leaves _ hx

theorem Dev.ending_answers (p : Pocket) (d : Dev) : d.link.Answers (d.ending p).link := by
  unfold Dev.ending
  split
  · exact d.decideClosure_answers p _
  · exact d.closeWaiting_answers p _

theorem Dev.ending_tmb (p : Pocket) (d : Dev) :
    (d.ending p).tmb = d.tmb.set p (.idle (d.tmb.get p).burstsLeft) := by
  rcases d.ending_cases p with ⟨_, heq⟩ | ⟨_, heq⟩ <;> simp [heq, Dev.decideClosure_tmb]

theorem Dev.ending_transmit (h : d.owed .endCycle (some p) = none) :
    (d.ending p).link.transmit = d.link.transmit := by
  rcases d.ending_cases p with ⟨_, heq⟩ | ⟨_, heq⟩ <;> rw [heq]
  · exact Dev.decideClosure_transmit h
  · rw [Dev.decideClosure_transmit (by simpa [Dev.owed] using h)]
    simp

/-- Under JOURNAL_FAIL the pocket is vacant at once (R37). -/
theorem Dev.ending_vacates (hj : d.journalFailed p = true) :
    ((d.ending p).psq.get p).state = .vacant ∧ ((d.ending p).psq.get p).mark = none ∧
    (d.ending p).image.get p = none ∧ (d.ending p).bkd.facts.get p = .clear := by
  unfold Dev.ending
  split
  · rcases d.decideClosure_cases p .ended with ⟨_, heq⟩ | ⟨hnot, _⟩
    · simp [heq, Dev.closureEffect_psq, Dev.closureEffect_image, Dev.closureEffect_facts]
    · exact absurd (hj.symm.trans hnot) (by decide)
  · exact Dev.closeWaiting_vacates _ hj

theorem Dev.ending_bkd (hj : d.journalFailed p = false) : (d.ending p).bkd = d.bkd := by
  unfold Dev.ending
  split
  · exact Dev.decideClosure_bkd _ hj
  · exact Dev.closeWaiting_bkd _ hj

/-- Without it the pocket has a mark. -/
theorem Dev.ending_marks (hj : d.journalFailed p = false) :
    ((d.psq.get p).state.active = true →
      (d.ending p).psq = d.psq.set p { d.psq.get p with mark := some .ended } ∧ (d.ending p).arbiter = d.arbiter) ∧
    ((d.psq.get p).state.active = false →
      (d.ending p).psq = d.psq.set p { d.psq.get p with mark := some .discarded, choice := none } ∧
      (d.ending p).arbiter = { d.arbiter with queue := d.arbiter.queue.filter fun q => q != p }) := by
  refine ⟨fun h => ?_, fun h => ?_⟩
  · rw [Dev.ending_of_active h]
    exact ⟨(Dev.decideClosure_marks .ended hj).1, by simp⟩
  · rw [Dev.ending_of_not_active h]
    exact ⟨Dev.closeWaiting_marks .discarded hj, Dev.closeWaiting_arbiter ..⟩

/-- The permit of a pocket that has a mark or is vacant is low. -/
theorem Dev.heatPermit_of_closed (h : (d.psq.get p).state = .vacant ∨ (d.psq.get p).mark ≠ none) :
    d.heatPermit p = false := by
  rcases h with h | h
  · simp [Dev.heatPermit, h]
  · simp [Dev.heatPermit, Option.isNone_eq_false_iff.2 (Option.isSome_iff_ne_none.2 h)]

/-! ### The reply (R37, R169) -/

@[simp] theorem Dev.replyEnd_frame (p : Pocket) (j : Bool) (d : Dev) :
    (d.replyEnd p j).pins = d.pins ∧ (d.replyEnd p j).bkd = d.bkd ∧ (d.replyEnd p j).run = d.run ∧
    (d.replyEnd p j).settle = d.settle ∧ (d.replyEnd p j).reserve = d.reserve ∧ (d.replyEnd p j).adc = d.adc ∧
    (d.replyEnd p j).faults = d.faults ∧ (d.replyEnd p j).sns = d.sns ∧ (d.replyEnd p j).psq = d.psq ∧
    (d.replyEnd p j).image = d.image ∧ (d.replyEnd p j).engine = d.engine ∧ (d.replyEnd p j).ring = d.ring ∧
    (d.replyEnd p j).scan = d.scan ∧ (d.replyEnd p j).journal = d.journal ∧ (d.replyEnd p j).plan = d.plan ∧
    (d.replyEnd p j).arbiter = d.arbiter ∧ (d.replyEnd p j).tmb = d.tmb ∧ (d.replyEnd p j).freeCount = d.freeCount := by
  cases j <;> simp [Dev.replyEnd]

theorem Dev.replyEnd_answers (p : Pocket) (j : Bool) (d : Dev) : d.link.Answers (d.replyEnd p j).link := by
  cases j
  · exact d.defer_answers _
  · exact d.answer_answers ..

/-- A taken END. -/
def Dev.ended (p : Pocket) (d : Dev) : Dev := ((d.ending p).replyEnd p (d.journalFailed p)).select

@[simp] theorem Dev.ended_frame (p : Pocket) (d : Dev) :
    (d.ended p).pins = d.pins ∧ (d.ended p).run = d.run ∧ (d.ended p).settle = d.settle ∧
    (d.ended p).reserve = d.reserve ∧ (d.ended p).adc = d.adc ∧ (d.ended p).faults = d.faults ∧
    (d.ended p).sns = d.sns ∧ (d.ended p).scan = d.scan ∧ (d.ended p).plan = d.plan ∧
    (d.ended p).freeCount = d.freeCount ∧ (d.ended p).psq = (d.ending p).psq ∧ (d.ended p).bkd = (d.ending p).bkd ∧
    (d.ended p).tmb = (d.ending p).tmb ∧ (d.ended p).arbiter = (d.ending p).arbiter := by
  simp [Dev.ended]

theorem Dev.ended_leaves (d : Dev) (hx : x ≠ p) : d.LeavesPocket x (d.ended p) :=
  ((d.ending_leaves hx).trans ⟨by simp, by simp, by simp, imageKept_of_eq (by simp)⟩).trans (Dev.select_leaves _ _)

theorem Dev.ended_answers (p : Pocket) (d : Dev) : d.link.Answers (d.ended p).link :=
  ((d.ending_answers p).trans (Dev.replyEnd_answers ..)).trans (Dev.select_answers _)

end Ending

section Commands
variable {s : State} {p : Pocket} {payload : List Byte} (had : Admitted .endCycle payload s.dev)
  (hp : pocketOf payload = some p)
include had hp

theorem Admitted.endCycle_refused
    (h : (s.dev.psq.get p).state = .vacant ∨ (s.dev.psq.get p).state = .suspended ∨ (s.dev.psq.get p).mark ≠ none) :
    exec (.endCycle payload) s = .next { s with dev := s.dev.replied 0x85 [2, pocketIndexByte p] } := by
  have howed : (s.dev.setReceiver .hunting).owed .endCycle (some p) = none := had.not_owed rfl rfl hp
  have hrefuse : endOwner payload p (s.dev.setReceiver .hunting) =
      (s.dev.setReceiver .hunting).refuse .endCycle payload .state := by
    rw [endOwner, howed]
    rcases h with h | h | h
    · simp [h, PocketState.active, PocketState.waiting]
    · simp [h, PocketState.active, PocketState.waiting]
    · simp [Option.isSome_iff_ne_none.2 h]
  have hserve := had.next_servePocket hp (endOwner payload)
  rw [hrefuse, Dev.refuse_pocket _ _ rfl (by decide) hp] at hserve
  exact hserve

theorem Admitted.endCycle_taken (hmark : (s.dev.psq.get p).mark = none) (hvacant : (s.dev.psq.get p).state ≠ .vacant)
    (hsuspended : (s.dev.psq.get p).state ≠ .suspended) :
    exec (.endCycle payload) s = .next { s with dev := (s.dev.setReceiver .hunting).ended p } := by
  refine (had.next_servePocket hp (endOwner payload)).trans
    (congrArg (fun d => Host.Outcome.next { s with dev := d }) ?_)
  cases hstate : (s.dev.psq.get p).state with
  | vacant => exact absurd hstate hvacant
  | suspended => exact absurd hstate hsuspended
  | _ => simp [endOwner, Dev.ended, Dev.ending, hmark, hstate, PocketState.active, PocketState.waiting]

end Commands

end Sys2Proof.Machine

namespace Sys2Proof.Proofs

open Sys2Proof.Machine

/-- Settles O44: the closure that END decides, by JOURNAL_FAIL and by whether the pocket is in a cycle. -/
theorem endCycle : Obligations.EndCycle := by
  unfold Obligations.EndCycle
  intro s p payload had hp
  refine ⟨had.endCycle_refused hp, fun hmark hvacant hsuspended => ⟨_, had.endCycle_taken hp hmark hvacant hsuspended, ?_⟩⟩
  have hjournal : (s.dev.setReceiver .hunting).journalFailed p = (s.dev.psq.get p).blocking.journalFail := rfl
  have hidle : ((s.dev.setReceiver .hunting).ended p).tmb.get p = .idle (s.dev.tmb.get p).burstsLeft := by
    simp [Dev.ending_tmb]
  have hleaves {x : Pocket} (hx : x ≠ p) : s.dev.LeavesPocket x ((s.dev.setReceiver .hunting).ended p) :=
    Dev.LeavesPocket.trans (e := s.dev.setReceiver .hunting) ⟨rfl, rfl, rfl, imageKept_of_eq rfl⟩ (Dev.ended_leaves _ hx)
  refine ⟨by rw [hidle]; rfl, ?_, Dev.motorRun_of_idle (by rw [hidle]; rfl), fun hj => ?_, fun hj => ?_,
    Dev.sparesOther_of_leaves (fun _ => hleaves) (by simp) (by simp), Dev.linkServed_of_answers (Dev.ended_answers ..), by
      apply Dev.ext <;> simp⟩
  · refine Dev.heatPermit_of_closed ?_
    cases hj : (s.dev.psq.get p).blocking.journalFail with
    | true => exact .inl (by simpa using (Dev.ending_vacates (hjournal.trans hj)).1)
    | false =>
      obtain ⟨hactive, hwaiting⟩ := Dev.ending_marks (hjournal.trans hj)
      cases h : (s.dev.psq.get p).state.active with
      | true => exact .inr (by simp [(hactive h).1])
      | false => exact .inr (by simp [(hwaiting h).1])
  · obtain ⟨hstate, hnone, himage, hfacts⟩ := Dev.ending_vacates (hjournal.trans hj)
    refine ⟨by simpa using hstate, by simpa using hnone, (Dev.select_image _ p).1 (by simpa using himage),
      by simpa using hfacts, by simp, ?_⟩
    have howed : (s.dev.setReceiver .hunting).owed .endCycle (some p) = none := had.not_owed rfl rfl hp
    have hsent := Dev.answered_sent (q := .endCycle) (p := p) (r := .faulted) (figures := [])
      ((s.dev.setReceiver .hunting).ending p)
    rw [Dev.ending_transmit howed] at hsent
    rwa [Dev.ended, hjournal, hj]
  · have hended : (s.dev.setReceiver .hunting).ended p =
        (((s.dev.setReceiver .hunting).ending p).defer ⟨.endCycle, some p, false, 0⟩).select := by
      rw [Dev.ended, hjournal, hj]
      rfl
    obtain ⟨hactive, hwaiting⟩ := Dev.ending_marks (hjournal.trans hj)
    refine ⟨?_, by simp [Dev.ending_bkd (hjournal.trans hj)], fun h => ⟨?_, ?_, fun im him => ?_⟩,
      fun h => ?_⟩
    · rw [hended]
      exact Dev.defer_select_mem _ _ (by simp)
    · simpa using (hactive h).1
    · simpa using (hactive h).2
    · rw [hended, Dev.ending_of_active (d := s.dev.setReceiver .hunting) h]
      obtain ⟨im', him', hbody, _, _, hqueued, hflight, _⟩ := Dev.select_closing_image
        (d := ((s.dev.setReceiver .hunting).decideClosure p .ended).defer ⟨.endCycle, some p, false, 0⟩) (p := p)
        (im := im) (r := .ended) (by simp [Dev.decideClosure_image (d := s.dev.setReceiver .hunting) .ended hj him])
      exact ⟨im', him', hbody, fun hnone => (hqueued (.inl hnone)).imp_right fun h => h.1, hflight⟩
    · have hnot : (s.dev.psq.get p).state.active = false := by
        cases hs : (s.dev.psq.get p).state <;> simp_all [PocketState.active, PocketState.waiting]
      obtain ⟨hpsq, harbiter⟩ := hwaiting hnot
      refine ⟨by simpa using hpsq, by simp [harbiter], by simp [harbiter], fun b hb => ?_⟩
      rw [hended, Dev.ending_of_not_active (d := s.dev.setReceiver .hunting) hnot]
      obtain ⟨im, him, hkept⟩ := ((Dev.defer_leaves p ⟨.endCycle, some p, false, 0⟩ _).trans
        (Dev.select_leaves p _)).image.2 _ (Dev.closeWaiting_image (d := s.dev.setReceiver .hunting) .discarded hj hb)
      exact ⟨im, him, Dev.closingImage_kept hkept⟩

end Sys2Proof.Proofs
end

section
/-! CHECKPOINT, by the condition of the image (O43). -/

namespace Sys2Proof.Machine

theorem Kind.upgrade_progress (k : Kind) : k.upgrade .progress = k := by cases k <;> rfl

theorem keepReason_none (r : Option CloseReason) : keepReason r none = r := by cases r <;> rfl

section Trigger
variable {d : Dev} {p : Pocket} {im : Image} {k : Kind}

/-- A trigger for an image whose write is in flight is a recommit request, and no entry (R67). -/
theorem Dev.trigger_of_inFlight (kind : Kind) (reason : Option CloseReason) (hj : d.journalFailed p = false)
    (him : d.image.get p = some im) (hc : im.commit = .inFlight k) :
    d.trigger p kind reason = d.setImage p (some (im.triggered kind reason)) := by
  cases hr : im.recommit <;> simp [Dev.trigger, hj, him, hc, hr, Image.triggered]

theorem Image.triggered_progress_of_inFlight (hc : im.commit = .inFlight k) :
    im.triggered .progress none = { im with recommit := some (im.recommit.getD .progress) } := by
  cases hr : im.recommit <;> simp [Image.triggered, hc, hr, keepReason_none, Kind.upgrade_progress]

/-- A trigger for an image without an entry queues one (R66), which a selection may start. -/
theorem Image.triggered_of_none (kind : Kind) (reason : Option CloseReason) (hc : im.commit = .none) :
    (im.triggered kind reason).commit = .queued kind ∧ (im.triggered kind reason).body = im.body := by
  simp [Image.triggered, hc]

/-- An image with a queued commit keeps its figures over a selection, which may start its write (R68). -/
theorem Dev.select_queued (hc : im.commit = .queued k) (him : d.image.get p = some im) :
    ∃ im', d.select.image.get p = some im' ∧ im.keptOrTaken im' ∧ (im'.commit = .queued k ∨ im'.commit = .inFlight k) := by
  obtain ⟨im', him', hkept, hqueued, _⟩ := Dev.select_commit him
  exact ⟨im', him', hkept, (hqueued k hc).imp_right fun h => h.1⟩

end Trigger

section Checkpoint
variable {d : Dev} {p : Pocket} {im : Image} {payload : List Byte}

theorem checkpointOwner_of_closed (h : (d.psq.get p).open = false) :
    checkpointOwner payload p d = d.refuse .checkpoint payload .state := by
  rw [checkpointOwner, h]

theorem checkpointOwner_of_failed (h : (d.psq.get p).open = true) (him : d.image.get p = some im)
    (hj : d.journalFailed p = true) : checkpointOwner payload p d = d.answer .checkpoint p .faulted [] := by
  simp [checkpointOwner, h, him, hj]

section
variable (h : (d.psq.get p).open = true) (him : d.image.get p = some im) (hj : d.journalFailed p = false)
include h him hj

theorem checkpointOwner_of_clean {w : Word} (hc : im.commit = .none) (hd : im.dirty = false)
    (hw : (d.ring.get p).newest = some w) :
    checkpointOwner payload p d = d.answer .checkpoint p .ok (wordBytes w) := by
  simp [checkpointOwner, h, him, hj, hc, hd, Dev.answerClean, hw]

theorem checkpointOwner_of_dirty (hc : im.commit = .none) (hd : im.dirty = true) :
    checkpointOwner payload p d = ((d.trigger p .progress none).deferCheckpoint p 0).select := by
  simp [checkpointOwner, h, him, hj, hc, hd]

theorem checkpointOwner_of_waiting (hc : (∃ k, im.commit = .queued k) ∨ (∃ k, im.commit = .inFlight k) ∧ im.dirty = false) :
    checkpointOwner payload p d = d.deferCheckpoint p 0 := by
  rcases hc with ⟨k, hc⟩ | ⟨⟨k, hc⟩, hd⟩
  · simp [checkpointOwner, h, him, hj, hc]
  · simp [checkpointOwner, h, him, hj, hc, hd]

theorem checkpointOwner_of_inFlight {k : Kind} (hc : im.commit = .inFlight k) (hd : im.dirty = true) :
    checkpointOwner payload p d =
      (d.setImage p (some { im with recommit := some (im.recommit.getD .progress) })).deferCheckpoint p 1 := by
  have howner : checkpointOwner payload p d = (d.trigger p .progress none).deferCheckpoint p 1 := by
    simp [checkpointOwner, h, him, hj, hc, hd]
  rw [howner, Dev.trigger_of_inFlight _ _ hj him hc, Image.triggered_progress_of_inFlight hc]

end
end Checkpoint

end Sys2Proof.Machine

namespace Sys2Proof.Proofs

open Sys2Proof.Machine

/-- Settles O43, case by case of the owner. -/
theorem checkpoint : Obligations.Checkpoint := by
  unfold Obligations.Checkpoint
  intro s p payload had hp
  have hserve := had.next_servePocket hp (checkpointOwner payload)
  refine ⟨fun hclosed => ?_, fun im hactive hmark him => ?_⟩
  · rw [checkpointOwner_of_closed (d := s.dev.setReceiver .hunting) ((Sequencer.open_eq_false_iff _).2 hclosed),
      Dev.refuse_pocket _ _ rfl (by decide) hp] at hserve
    exact hserve
  · have hopen : ((s.dev.setReceiver .hunting).psq.get p).open = true := (Sequencer.open_iff _).2 ⟨hactive, hmark⟩
    refine ⟨fun hj => ?_, fun hj => ⟨fun hc hd w hw => ?_, fun hc hd => ?_, fun hc => ?_, fun k hc hd => ?_⟩⟩
    · rw [checkpointOwner_of_failed (d := s.dev.setReceiver .hunting) hopen him hj, Dev.answer_setReceiver] at hserve
      exact hserve
    · rw [checkpointOwner_of_clean (d := s.dev.setReceiver .hunting) hopen him hj hc hd hw, Dev.answer_setReceiver] at hserve
      exact hserve
    · rw [checkpointOwner_of_dirty (d := s.dev.setReceiver .hunting) hopen him hj hc hd] at hserve
      obtain ⟨hqueued, hbody⟩ := Image.triggered_of_none (im := im) .progress none hc
      obtain ⟨im', him', hkept, hcommit⟩ := Dev.select_queued hqueued
        (d := ((s.dev.setReceiver .hunting).trigger p .progress none).deferCheckpoint p 0) (p := p) (by
          simp [Dev.deferCheckpoint, Dev.trigger_image (d := s.dev.setReceiver .hunting) .progress none hj him])
      refine ⟨_, im', hserve, him', (Image.keptOrTaken_body hkept).1.trans hbody, hcommit,
        Dev.defer_select_mem _ _ (by simp), Dev.linkServed_of_answers ?_, ?_⟩
      · refine Link.Answers.trans (m := ((s.dev.setReceiver .hunting).trigger p .progress none).link)
          (.of_eq (by simp)) ((Dev.defer_answers _ _).trans (Dev.select_answers _))
      · apply Dev.ext <;> simp [Dev.deferCheckpoint]
    · rw [checkpointOwner_of_waiting (d := s.dev.setReceiver .hunting) hopen him hj hc] at hserve
      exact hserve
    · rw [checkpointOwner_of_inFlight (d := s.dev.setReceiver .hunting) hopen him hj hc hd] at hserve
      refine hserve.trans (congrArg (fun d => Host.Outcome.next { s with dev := d }) ?_)
      cases im.recommit <;> rfl

end Sys2Proof.Proofs
end

section
/-! START: the new image, and what an accepted START makes of the pocket (O40). -/

namespace Sys2Proof.Machine

section Accepted
variable {p : Pocket} {payload : List Byte} {d : Dev}

/-- The image of an accepted START, its commit queued (R33, R58). -/
def Dev.startedImage (p : Pocket) (payload : List Byte) (d : Dev) : Image :=
  { startImage (startFigures d.link.params payload).clamp (d.startTemperature p) (nextCycle (d.ring.get p).lastCycle) with
    commit := .queued .start }

/-- What an accepted START leaves, and what it sets (R33, R34). -/
@[simp] theorem Dev.acceptStart_frame (p : Pocket) (payload : List Byte) (d : Dev) :
    (d.acceptStart p payload).pins = d.pins ∧ (d.acceptStart p payload).bkd = d.bkd ∧
    (d.acceptStart p payload).run = d.run ∧ (d.acceptStart p payload).settle = d.settle ∧
    (d.acceptStart p payload).reserve = d.reserve ∧ (d.acceptStart p payload).adc = d.adc ∧
    (d.acceptStart p payload).faults = d.faults ∧ (d.acceptStart p payload).sns = d.sns ∧
    (d.acceptStart p payload).scan = d.scan ∧ (d.acceptStart p payload).arbiter = d.arbiter ∧
    (d.acceptStart p payload).tmb = d.tmb ∧ (d.acceptStart p payload).freeCount = d.freeCount + 1 ∧
    (d.acceptStart p payload).plan = d.plan.set p none ∧
    (d.acceptStart p payload).journal = d.journal.set p { d.journal.get p with basis := none } ∧
    (d.acceptStart p payload).ring =
      d.ring.set p { d.ring.get p with lastCycle := nextCycle (d.ring.get p).lastCycle } ∧
    (d.acceptStart p payload).psq = d.psq.set p
      { d.psq.get p with state := .drying, startKind := .warm, advisory := ⟨false, false, false⟩ } := by
  simp [Dev.acceptStart, Per.set_set, Advisory.empty]

theorem Dev.acceptStart_link (p : Pocket) (payload : List Byte) (d : Dev) :
    (d.acceptStart p payload).link = { d.link with
      deferred := d.link.deferred ++ [⟨.start, some p,
        (startFigures d.link.params payload).clamp != startFigures d.link.params payload, 0⟩] } := by
  simp [Dev.acceptStart, Dev.defer]

/-- The START commit is queued, behind the entries there were. -/
theorem Dev.acceptStart_image (hclear : (d.psq.get p).blocking = .empty) :
    (d.acceptStart p payload).image.get p = some (d.startedImage p payload) ∧
    ∀ f : Work → Bool, f (.commit p) = false → (d.acceptStart p payload).anyEntry f = d.anyEntry f := by
  have hfailed : (d.psq.get p).blocking.journalFail = false := by rw [hclear]; rfl
  refine ⟨?_, fun f hf => ?_⟩
  · simp [Dev.acceptStart, Dev.trigger, Dev.journalFailed, hfailed, startImage, keepReason, Dev.startedImage]
  · simp [Dev.acceptStart, Dev.trigger, Dev.journalFailed, hfailed, startImage, Dev.anyEntry, Dev.enqueue, hf]

theorem Dev.startTemperature_eq {t : Int} (h : (d.sns.get p).published = some t ∨
    (d.sns.get p).published = none ∧ (d.sns.get p).lastInRange = some t) : d.startTemperature p = t := by
  rcases h with h | ⟨h, h'⟩
  · simp [Dev.startTemperature, h]
  · simp [Dev.startTemperature, h, h']

/-- A START is CLAMPED where one of its figures was above its bound or its guard program was clamped (R33, R61). -/
theorem StartFigures.clamp_ne_iff (f : StartFigures) :
    (f.clamp != f) = true ↔ 63 < f.program ∨ 14400 < f.heat ∨ 3600 < f.cool ∨ clampGuard f.guard ≠ f.guard := by
  obtain ⟨program, heat, cool, guard⟩ := f
  have hmin (a b : Nat) : min a b = a ↔ ¬ b < a := by omega
  simp only [bne_iff_ne, ne_eq, StartFigures.clamp, StartFigures.mk.injEq, hmin, Classical.not_and_iff_not_or_not, Classical.not_not]

end Accepted

section Owner
variable {p : Pocket} {payload : List Byte} {d : Dev}

theorem startOwner_of_not_vacant (h : (d.psq.get p).state ≠ .vacant ∨ (d.psq.get p).mark ≠ none) :
    startOwner payload p d = d.refuse .start payload .state := by
  rw [startOwner, if_pos]
  rcases h with h | h
  · simp [h]
  · simp [Option.isSome_iff_ne_none.2 h]

variable (hstate : (d.psq.get p).state = .vacant) (hmark : (d.psq.get p).mark = none)
include hstate hmark

theorem startOwner_of_format (h : d.anyEntry (Work.isFormatOf p) = true) :
    startOwner payload p d = d.refuse .start payload .busy := by simp [startOwner, hstate, hmark, h]

theorem startOwner_of_blocked (h : d.anyEntry (Work.isFormatOf p) = false) (hb : (d.psq.get p).blocking ≠ .empty) :
    startOwner payload p d = d.refuse .start payload .faulted := by
  simp [startOwner, hstate, hmark, h, Sequencer.blocked, hb]

theorem startOwner_of_accepted (h : d.anyEntry (Work.isFormatOf p) = false) (hb : (d.psq.get p).blocking = .empty) :
    startOwner payload p d = (d.acceptStart p payload).select := by
  simp [startOwner, hstate, hmark, h, Sequencer.blocked, hb]

end Owner

end Sys2Proof.Machine

namespace Sys2Proof.Proofs

open Sys2Proof.Machine

/-- Settles O40: the refusals in their order, and the accepted START before and after the selection. -/
theorem start : Obligations.Start := by
  unfold Obligations.Start
  intro s p payload had hp
  have hserve := had.next_servePocket hp (startOwner payload)
  refine ⟨fun hnot => ?_, fun hstate hmark => ⟨fun hformat => ?_, fun hformat hblocked => ?_, fun hformat hclear g hg => ?_⟩⟩
  · rw [startOwner_of_not_vacant (d := s.dev.setReceiver .hunting) hnot, Dev.refuse_pocket _ _ rfl (by decide) hp] at hserve
    exact hserve
  · rw [startOwner_of_format (d := s.dev.setReceiver .hunting) hstate hmark hformat,
      Dev.refuse_pocket _ _ rfl (by decide) hp] at hserve
    exact hserve
  · rw [startOwner_of_blocked (d := s.dev.setReceiver .hunting) hstate hmark hformat hblocked,
      Dev.refuse_pocket _ _ rfl (by decide) hp] at hserve
    exact hserve
  · rw [startOwner_of_accepted (d := s.dev.setReceiver .hunting) hstate hmark hformat hclear] at hserve
    obtain ⟨him, hentries⟩ := Dev.acceptStart_image (d := s.dev.setReceiver .hunting) (payload := payload) hclear
    obtain ⟨im, him', hkept, hcommit⟩ := Dev.select_queued (k := .start) rfl him
    obtain ⟨hbody, hcycle, href, _, _, _⟩ := Image.keptOrTaken_body hkept
    have hkeeps := Dev.select_other p ((s.dev.setReceiver .hunting).acceptStart p payload)
      ((hentries _ rfl).trans hformat)
    have hlast : im.body.exhaustLast = (s.dev.setReceiver .hunting).startTemperature p := by rw [hbody]; rfl
    refine ⟨_, im, (startFigures s.dev.link.params payload).clamp != startFigures s.dev.link.params payload, hserve, by simp,
      by simp, ?_, him', ?_, ?_, fun t ht => ?_, ?_, ?_, hcommit, ?_, ?_, ?_, ?_⟩
    · rw [hkeeps.2]
      simp
    · rw [hlast, hbody, hg]
      rfl
    · rw [href, hlast]
      rfl
    · rw [hlast, Dev.startTemperature_eq (by simpa using ht)]
    · rw [hcycle]
      rfl
    · rw [hkeeps.1.2.2.2.2, hcycle]
      simp [Dev.startedImage, startImage]
    · refine Dev.select_deferred ?_ (by simp)
      rw [Dev.acceptStart_link]
      exact List.mem_append_right _ List.mem_cons_self
    · rw [StartFigures.clamp_ne_iff, hg]
      rfl
    · refine Dev.linkServed_of_answers (Link.Answers.trans ?_ (Dev.select_answers _))
      rw [Dev.acceptStart_link]
      exact ⟨rfl, List.prefix_rfl, .refl _⟩
    · apply Dev.ext <;> simp

end Sys2Proof.Proofs
end

section
/-! REPORT: the merge, the phase moves, and the count of the reply (O41). -/

namespace Sys2Proof.Machine

/-! ### A trigger, whether or not JOURNAL_FAIL stands (R66, R67) -/

/-- What a trigger makes of an image: nothing under JOURNAL_FAIL. -/
def Image.triggeredUnless (journalFailed : Bool) (kind : Kind) (reason : Option CloseReason) (im : Image) : Image :=
  if journalFailed then im else im.triggered kind reason

section Trigger
variable {p x : Pocket} {d : Dev} {im : Image} {kind : Kind} {reason : Option CloseReason} {j : Bool}

theorem Dev.trigger_image_eq (kind : Kind) (reason : Option CloseReason) (him : d.image.get p = some im) :
    (d.trigger p kind reason).image = d.image.set p (some (im.triggeredUnless (d.journalFailed p) kind reason)) := by
  cases hj : d.journalFailed p with
  | true => rw [Dev.trigger, hj, if_pos rfl, Image.triggeredUnless, if_pos rfl, ← him, Per.set_get_same]
  | false => rw [Dev.trigger_image kind reason hj him, Image.triggeredUnless, if_neg Bool.false_ne_true]

@[simp] theorem Image.triggeredUnless_body (j : Bool) (kind : Kind) (reason : Option CloseReason) (im : Image) :
    (im.triggeredUnless j kind reason).body = im.body ∧ (im.triggeredUnless j kind reason).pending = im.pending := by
  cases j <;> exact ⟨rfl, rfl⟩

theorem Image.triggeredUnless_none (hj : j = false) (hc : im.commit = .none) :
    (im.triggeredUnless j kind reason).commit = .queued kind := by
  simp [Image.triggeredUnless, hj, Image.triggered, hc]

theorem Image.triggeredUnless_queued {k : Kind} (hc : im.commit = .queued k) :
    (im.triggeredUnless j .progress reason).commit = .queued k := by
  cases j <;> simp [Image.triggeredUnless, Image.triggered, hc, Kind.upgrade_progress]

theorem Dev.trigger_leaves (kind : Kind) (reason : Option CloseReason) (d : Dev) (hx : x ≠ p) :
    d.LeavesPocket x (d.trigger p kind reason) :=
  ⟨by simp, by simp, by simp, imageKept_of_eq (Dev.trigger_image_other _ _ _ hx)⟩

end Trigger

/-! ### The merge (R61, steps 1 to 3) -/

@[simp] theorem Image.report_spec (j : Bool) (payload : List Byte) (im : Image) :
    (im.report j payload).body = mergeReport payload im.body ∧ (im.report j payload).pending = im.pending + 1 ∧
    (im.report j payload).commit = im.commit := by
  rw [Image.report, Image.soil_eq]
  exact ⟨rfl, rfl, rfl⟩

/-- A merge leaves the guard program. -/
theorem mergeReport_guard (payload : List Byte) (b : Body) : (mergeReport payload b).guard = b.guard := rfl

/-! ### The move of a phase (R35, R36, R61 step 4) -/

/-- The part after the state and the image's phase have changed and the PHASE trigger is given. -/
def Dev.phaseMoved (p : Pocket) (ph : Phase) (d : Dev) : Dev :=
  ((d.setPsq p { d.psq.get p with state := ph.pocketState }).modImage p fun im =>
    { im with body := { im.body with phase := ph } }).trigger p .phase none

section Move
variable {p x : Pocket} {ph : Phase} {d : Dev} {im : Image}

@[simp] theorem Dev.phaseMoved_frame (p : Pocket) (ph : Phase) (d : Dev) :
    (d.phaseMoved p ph).pins = d.pins ∧ (d.phaseMoved p ph).bkd = d.bkd ∧ (d.phaseMoved p ph).run = d.run ∧
    (d.phaseMoved p ph).settle = d.settle ∧ (d.phaseMoved p ph).reserve = d.reserve ∧ (d.phaseMoved p ph).adc = d.adc ∧
    (d.phaseMoved p ph).faults = d.faults ∧ (d.phaseMoved p ph).sns = d.sns ∧ (d.phaseMoved p ph).ring = d.ring ∧
    (d.phaseMoved p ph).scan = d.scan ∧ (d.phaseMoved p ph).journal = d.journal ∧
    (d.phaseMoved p ph).plan = d.plan ∧ (d.phaseMoved p ph).arbiter = d.arbiter ∧ (d.phaseMoved p ph).tmb = d.tmb ∧
    (d.phaseMoved p ph).link = d.link ∧ (d.phaseMoved p ph).freeCount = d.freeCount ∧
    (d.phaseMoved p ph).psq = d.psq.set p { d.psq.get p with state := ph.pocketState } := by
  simp [Dev.phaseMoved]

theorem Dev.phaseMoved_leaves (d : Dev) (hx : x ≠ p) : d.LeavesPocket x (d.phaseMoved p ph) := by
  refine Dev.LeavesPocket.trans (e := (d.setPsq p { d.psq.get p with state := ph.pocketState }).modImage p fun im =>
    { im with body := { im.body with phase := ph } }) ⟨?_, by simp, by simp, imageKept_of_eq ?_⟩
    (Dev.trigger_leaves _ _ _ hx)
  · simp [Per.set_get_of_ne _ _ hx]
  · simp [Dev.modImage, Per.set_get_of_ne _ _ hx]

theorem Dev.phaseMoved_image (him : d.image.get p = some im) :
    (d.phaseMoved p ph).image.get p = some
      (Image.triggeredUnless (d.journalFailed p) .phase none { im with body := { im.body with phase := ph } }) := by
  rw [Dev.phaseMoved, Dev.trigger_image_eq (im := { im with body := { im.body with phase := ph } })]
  · simp [Dev.journalFailed]
  · simp [Dev.modImage, him]

theorem Dev.movePhase_cooling (p : Pocket) (d : Dev) : d.movePhase p .cooling = d.phaseMoved p .cooling := rfl

theorem Dev.movePhase_anticrease (him : (d.phaseMoved p .anticrease).image.get p = some im) :
    d.movePhase p .anticrease =
      if (d.psq.get p).doorOpen then (d.phaseMoved p .anticrease).decideClosure p .door
      else ((d.phaseMoved p .anticrease).startTumbler p im.body.guard im.body.guard.bursts).writeBody p
        fun b => { b with burstsLeft := b.guard.bursts } := by
  have hdoor : ((d.phaseMoved p .anticrease).psq.get p).doorOpen = (d.psq.get p).doorOpen := by simp
  have hmove : d.movePhase p .anticrease =
      if ((d.phaseMoved p .anticrease).psq.get p).doorOpen then (d.phaseMoved p .anticrease).decideClosure p .door
      else ((d.phaseMoved p .anticrease).startTumbler p im.body.guard im.body.guard.bursts).writeBody p
        fun b => { b with burstsLeft := b.guard.bursts } := by
    unfold Dev.phaseMoved at him ⊢
    simp only [Dev.movePhase, him]
  rw [hmove, hdoor]

/-- What a move of a phase to COOLING or ANTICREASE can be. -/
theorem Dev.movePhase_cases (p : Pocket) (ph : Phase) (d : Dev) :
    d.movePhase p ph = d.phaseMoved p ph ∨ d.movePhase p ph = (d.phaseMoved p ph).decideClosure p .door ∨
    ∃ g n f, d.movePhase p ph = ((d.phaseMoved p ph).startTumbler p g n).writeBody p f := by
  unfold Dev.movePhase
  dsimp only
  split
  · split
    · exact .inr (.inl rfl)
    · exact .inr (.inr ⟨_, _, _, rfl⟩)
  · exact .inl rfl

@[simp] theorem Dev.movePhase_frame (p : Pocket) (ph : Phase) (d : Dev) :
    (d.movePhase p ph).pins = d.pins ∧ (d.movePhase p ph).run = d.run ∧ (d.movePhase p ph).settle = d.settle ∧
    (d.movePhase p ph).reserve = d.reserve ∧ (d.movePhase p ph).adc = d.adc ∧ (d.movePhase p ph).faults = d.faults ∧
    (d.movePhase p ph).sns = d.sns ∧ (d.movePhase p ph).scan = d.scan ∧ (d.movePhase p ph).plan = d.plan ∧
    (d.movePhase p ph).arbiter = d.arbiter ∧ (d.movePhase p ph).freeCount = d.freeCount := by
  rcases d.movePhase_cases p ph with heq | heq | ⟨_, _, _, heq⟩ <;> simp [heq]

theorem Dev.movePhase_leaves (d : Dev) (hx : x ≠ p) : d.LeavesPocket x (d.movePhase p ph) := by
  rcases d.movePhase_cases p ph with heq | heq | ⟨g, n, f, heq⟩ <;> rw [heq]
  · exact d.phaseMoved_leaves hx
  · exact (d.phaseMoved_leaves hx).trans (Dev.decideClosure_leaves _ _ hx)
  · refine Dev.LeavesPocket.trans (e := d.phaseMoved p ph) (d.phaseMoved_leaves hx) ⟨by simp, by simp, ?_, imageKept_of_eq ?_⟩
    · rw [Dev.writeBody_frame .. |>.2.2.2.2.2.2.2.2.2.2.2.2.2.2.2.1, Dev.startTumbler_tmb, Per.set_get_of_ne _ _ hx]
    · rw [Dev.writeBody_image_other _ _ hx]
      simp

theorem Dev.movePhase_answers (p : Pocket) (ph : Phase) (d : Dev) : d.link.Answers (d.movePhase p ph).link := by
  rcases d.movePhase_cases p ph with heq | heq | ⟨_, _, _, heq⟩ <;> rw [heq]
  · exact .of_eq (by simp)
  · exact Link.Answers.trans (.of_eq (by simp)) (Dev.decideClosure_answers _ _ _)
  · exact .of_eq (by simp)

end Move

/-! ### The move to ANTICREASE (R36, R48, R153) -/

section Anticrease
variable {p : Pocket} {d : Dev} {im : Image} (him : d.image.get p = some im)
include him

/-- The timer starts a full course of the image's program. -/
theorem Dev.movePhase_anticrease_closed (hdoor : (d.psq.get p).doorOpen = false) :
    (d.movePhase p .anticrease).psq = d.psq.set p { d.psq.get p with state := .anticrease } ∧
    (d.movePhase p .anticrease).bkd = d.bkd ∧
    (d.movePhase p .anticrease).tmb = d.tmb.set p
      (if d.mainsPresent then ⟨.burst, some im.body.guard, none, im.body.guard.bursts, 0, none, .forward⟩
       else ⟨.paused, some im.body.guard, none, im.body.guard.bursts, 0, some .burst, .forward⟩) ∧
    ∃ im', (d.movePhase p .anticrease).image.get p = some im' ∧ im'.pending = im.pending ∧
      im'.body = { im.body with phase := .anticrease, burstsLeft := im.body.guard.bursts } := by
  have hmoved := Dev.phaseMoved_image (ph := .anticrease) him
  have hmains : (d.phaseMoved p .anticrease).mainsPresent = d.mainsPresent := by simp [Dev.mainsPresent]
  rw [Dev.movePhase_anticrease hmoved, hdoor, if_neg Bool.false_ne_true]
  refine ⟨by simp [Phase.pocketState], by simp, ?_, ?_⟩
  · rw [Dev.writeBody_frame .. |>.2.2.2.2.2.2.2.2.2.2.2.2.2.2.2.1, Dev.startTumbler_tmb, hmains]
    simp
  · refine ⟨_, Dev.writeBody_image_of_some _ (by simpa using hmoved), ?_, ?_⟩ <;> rw [Image.soil_eq] <;> simp

/-- A door that reads OPEN closes the pocket with DOOR, and no burst starts. -/
theorem Dev.movePhase_anticrease_open (hdoor : (d.psq.get p).doorOpen = true) :
    (d.movePhase p .anticrease).tmb.get p = .idle (d.tmb.get p).burstsLeft ∧
    (d.journalFailed p = false →
      (d.movePhase p .anticrease).psq = d.psq.set p { d.psq.get p with state := .anticrease, mark := some .door } ∧
      ∃ im', (d.movePhase p .anticrease).image.get p = some im' ∧ im'.pending = im.pending) ∧
    (d.journalFailed p = true → ((d.movePhase p .anticrease).psq.get p).state = .vacant ∧
      (d.movePhase p .anticrease).image.get p = none) := by
  have hmoved := Dev.phaseMoved_image (ph := .anticrease) him
  have hfailed : (d.phaseMoved p .anticrease).journalFailed p = d.journalFailed p := by simp [Dev.journalFailed]
  rw [Dev.movePhase_anticrease hmoved, hdoor, if_pos rfl]
  refine ⟨by simp [Dev.decideClosure_tmb], fun hj => ?_, fun hj => ?_⟩
  · refine ⟨?_, _, by rw [Dev.decideClosure_image .door (hfailed.trans hj) hmoved, Per.set_get_self], ?_⟩
    · rw [(Dev.decideClosure_marks .door (hfailed.trans hj)).1]
      simp [Per.set_set, Phase.pocketState]
    · exact (Image.triggeredUnless_body ..).2
  · obtain ⟨hvacant, hnone, _⟩ := Dev.decideClosure_vacates (reason := .door) rfl (hfailed.trans hj)
    exact ⟨hvacant, hnone⟩

end Anticrease

/-! ### A taken report (R61, R62) -/

/-- The part after the merge, with the count one higher. -/
def Dev.merged (p : Pocket) (payload : List Byte) (im : Image) (d : Dev) : Dev :=
  d.setImage p (some (im.report (d.journalFailed p) payload))

@[simp] theorem Dev.merged_frame (p : Pocket) (payload : List Byte) (im : Image) (d : Dev) :
    (d.merged p payload im).pins = d.pins ∧ (d.merged p payload im).bkd = d.bkd ∧ (d.merged p payload im).run = d.run ∧
    (d.merged p payload im).settle = d.settle ∧ (d.merged p payload im).reserve = d.reserve ∧
    (d.merged p payload im).adc = d.adc ∧ (d.merged p payload im).faults = d.faults ∧
    (d.merged p payload im).sns = d.sns ∧ (d.merged p payload im).psq = d.psq ∧
    (d.merged p payload im).engine = d.engine ∧ (d.merged p payload im).ring = d.ring ∧
    (d.merged p payload im).scan = d.scan ∧ (d.merged p payload im).journal = d.journal ∧
    (d.merged p payload im).plan = d.plan ∧ (d.merged p payload im).arbiter = d.arbiter ∧
    (d.merged p payload im).tmb = d.tmb ∧ (d.merged p payload im).link = d.link ∧
    (d.merged p payload im).freeCount = d.freeCount ∧
    (d.merged p payload im).image = d.image.set p (some (im.report (d.journalFailed p) payload)) := by
  simp [Dev.merged]

/-- The PROGRESS trigger at the pending limit (R62). -/
def Dev.pendingLimit (p : Pocket) (pending : Nat) (d : Dev) : Dev :=
  if pending = pendingTop then d.trigger p .progress none else d

/-- The move that the phase field asks for. -/
def Dev.reportMove (p : Pocket) (check : PhaseCheck) (d : Dev) : Dev :=
  match check with
  | .move ph => d.movePhase p ph
  | .stay => d
  | .illegal => d

@[simp] theorem Dev.reportMove_stay (p : Pocket) (d : Dev) : d.reportMove p .stay = d := rfl

@[simp] theorem Dev.reportMove_move (p : Pocket) (ph : Phase) (d : Dev) :
    d.reportMove p (.move ph) = d.movePhase p ph := rfl

section Taken
variable {p x : Pocket} {n : Nat} {check : PhaseCheck} {payload : List Byte} {d e : Dev} {im : Image}

theorem Dev.takeReport_eq (p : Pocket) (payload : List Byte) (check : PhaseCheck) (im : Image) (d : Dev) :
    d.takeReport p payload check im =
      ((d.merged p payload im).reportMove p check).pendingLimit p (im.pending + 1) := by
  rw [← (Image.report_spec (d.journalFailed p) payload im).2.1]
  cases check <;> rfl

@[simp] theorem Dev.pendingLimit_frame (p : Pocket) (n : Nat) (d : Dev) :
    (d.pendingLimit p n).pins = d.pins ∧ (d.pendingLimit p n).bkd = d.bkd ∧ (d.pendingLimit p n).run = d.run ∧
    (d.pendingLimit p n).settle = d.settle ∧ (d.pendingLimit p n).reserve = d.reserve ∧
    (d.pendingLimit p n).adc = d.adc ∧ (d.pendingLimit p n).faults = d.faults ∧ (d.pendingLimit p n).sns = d.sns ∧
    (d.pendingLimit p n).psq = d.psq ∧ (d.pendingLimit p n).scan = d.scan ∧
    (d.pendingLimit p n).plan = d.plan ∧ (d.pendingLimit p n).arbiter = d.arbiter ∧ (d.pendingLimit p n).tmb = d.tmb ∧
    (d.pendingLimit p n).link = d.link ∧ (d.pendingLimit p n).freeCount = d.freeCount := by
  unfold Dev.pendingLimit
  split <;> simp

theorem Dev.pendingLimit_image_of_none (h : d.image.get p = none) : d.pendingLimit p n = d := by
  unfold Dev.pendingLimit
  split
  · simp [Dev.trigger, h]
  · rfl

/-- The figures and the queued kind outlast the trigger at the limit; an image without an entry gets a PROGRESS one. -/
theorem Dev.pendingLimit_image (him : d.image.get p = some im) :
    ∃ im', (d.pendingLimit p n).image.get p = some im' ∧ im'.body = im.body ∧ im'.pending = im.pending ∧
      (∀ k, im.commit = .queued k → im'.commit = .queued k) ∧
      (n = 15 → d.journalFailed p = false → im.commit = .none → im'.commit = .queued .progress) := by
  unfold Dev.pendingLimit
  split
  · exact ⟨_, by rw [Dev.trigger_image_eq _ _ him, Per.set_get_self], by simp, by simp,
      fun k hk => Image.triggeredUnless_queued hk, fun _ hj hc => Image.triggeredUnless_none hj hc⟩
  · next hne => exact ⟨im, him, rfl, rfl, fun _ hk => hk, fun h => absurd h hne⟩

theorem Dev.pendingLimit_leaves (n : Nat) (d : Dev) (hx : x ≠ p) : d.LeavesPocket x (d.pendingLimit p n) := by
  unfold Dev.pendingLimit
  split
  · exact d.trigger_leaves _ _ hx
  · exact .refl x d

@[simp] theorem Dev.reportMove_frame (p : Pocket) (check : PhaseCheck) (d : Dev) :
    (d.reportMove p check).pins = d.pins ∧ (d.reportMove p check).run = d.run ∧
    (d.reportMove p check).settle = d.settle ∧ (d.reportMove p check).reserve = d.reserve ∧
    (d.reportMove p check).adc = d.adc ∧ (d.reportMove p check).faults = d.faults ∧
    (d.reportMove p check).sns = d.sns ∧ (d.reportMove p check).scan = d.scan ∧
    (d.reportMove p check).plan = d.plan ∧ (d.reportMove p check).arbiter = d.arbiter ∧
    (d.reportMove p check).freeCount = d.freeCount := by
  cases check <;> simp [Dev.reportMove]

theorem Dev.takeReport_leaves (d : Dev) (hx : x ≠ p) : d.LeavesPocket x (d.takeReport p payload check im) := by
  rw [Dev.takeReport_eq]
  refine Dev.LeavesPocket.trans (e := d.merged p payload im)
    ⟨by simp, by simp, by simp, imageKept_of_eq (by simp [Per.set_get_of_ne _ _ hx])⟩
    (Dev.LeavesPocket.trans ?_ (Dev.pendingLimit_leaves _ _ hx))
  cases check with
  | move ph => exact Dev.movePhase_leaves _ hx
  | _ => exact .refl x _

theorem Dev.takeReport_answers (p : Pocket) (payload : List Byte) (check : PhaseCheck) (im : Image) (d : Dev) :
    d.link.Answers (d.takeReport p payload check im).link := by
  rw [Dev.takeReport_eq, Dev.pendingLimit_frame .. |>.2.2.2.2.2.2.2.2.2.2.2.2.2.1]
  cases check with
  | move ph => exact Dev.movePhase_answers p ph (d.merged p payload im)
  | _ => exact .of_eq rfl

/-- A taken report with its reply, before the engine selects (R62). -/
def Dev.reported (p : Pocket) (payload : List Byte) (check : PhaseCheck) (im : Image) (d : Dev) : Dev :=
  (d.takeReport p payload check im).answered .report p (if reportClamped payload im.body then .clamped else .ok)
    (byte1 ((d.takeReport p payload check im).pendingCount p))

@[simp] theorem Dev.reported_frame (p : Pocket) (payload : List Byte) (check : PhaseCheck) (im : Image) (d : Dev) :
    (d.reported p payload check im).pins = d.pins ∧ (d.reported p payload check im).run = d.run ∧
    (d.reported p payload check im).settle = d.settle ∧ (d.reported p payload check im).reserve = d.reserve ∧
    (d.reported p payload check im).adc = d.adc ∧ (d.reported p payload check im).faults = d.faults ∧
    (d.reported p payload check im).sns = d.sns ∧ (d.reported p payload check im).scan = d.scan ∧
    (d.reported p payload check im).plan = d.plan ∧ (d.reported p payload check im).arbiter = d.arbiter ∧
    (d.reported p payload check im).freeCount = d.freeCount := by
  simp [Dev.reported, Dev.takeReport_eq]

theorem Dev.reported_leaves (d : Dev) (hx : x ≠ p) : d.LeavesPocket x (d.reported p payload check im) :=
  (d.takeReport_leaves hx).trans (Dev.answered_leaves _)

theorem Dev.reported_answers (p : Pocket) (payload : List Byte) (check : PhaseCheck) (im : Image) (d : Dev) :
    d.link.Answers (d.reported p payload check im).link := Dev.answered_answers (d.takeReport_answers ..)

theorem Dev.reported_mem (d : Dev) (hn : (d.takeReport p payload check im).pendingCount p = n) :
    ⟨0x83, [if reportClamped payload im.body then 1 else 0, pocketIndexByte p, BitVec.ofNat 8 n]⟩ ∈
      (d.reported p payload check im).link.transmit := by
  have hmem := Dev.answered_mem (q := .report) (p := p) (r := if reportClamped payload im.body then .clamped else .ok)
    (figures := byte1 ((d.takeReport p payload check im).pendingCount p)) (d.takeReport p payload check im)
  rw [hn] at hmem
  have hbyte : (if reportClamped payload im.body then Result.clamped else .ok).byte =
      if reportClamped payload im.body then 1 else 0 := by split <;> rfl
  rw [hbyte] at hmem
  rw [Dev.reported, hn]
  exact hmem

theorem Dev.pendingCount_of_some (him : d.image.get p = some im) : d.pendingCount p = im.pending := by
  rw [Dev.pendingCount, him]

theorem Dev.pendingCount_of_none (h : d.image.get p = none) : d.pendingCount p = 0 := by rw [Dev.pendingCount, h]

/-- What is left of a pocket by a taken report: as after its move. -/
theorem Dev.reported_moved (he : (d.merged p payload im).reportMove p check = e) :
    (d.reported p payload check im).psq = e.psq ∧ (d.reported p payload check im).tmb = e.tmb ∧
    (d.reported p payload check im).bkd = e.bkd := by
  subst he
  simp [Dev.reported, Dev.takeReport_eq]

/-- A move that closed the pocket leaves no image, and the count reads 0 (R170). -/
theorem Dev.reported_image_of_none (he : (d.merged p payload im).reportMove p check = e) (h : e.image.get p = none) :
    (d.takeReport p payload check im).pendingCount p = 0 ∧ (d.reported p payload check im).image.get p = none := by
  have htaken : (d.takeReport p payload check im).image.get p = none := by
    rw [Dev.takeReport_eq, he, Dev.pendingLimit_image_of_none h, h]
  exact ⟨Dev.pendingCount_of_none htaken, (Dev.answered_leaves _).image.1 htaken⟩

/-- The image after a taken report, from the one its move leaves. -/
theorem Dev.reported_image (he : (d.merged p payload im).reportMove p check = e)
    {im1 : Image} (him : e.image.get p = some im1) :
    (d.takeReport p payload check im).pendingCount p = im1.pending ∧
    ∃ im', (d.reported p payload check im).image.get p = some im' ∧ im'.body = im1.body ∧
      (∀ k, im1.commit = .queued k → im'.commit = .queued k ∨ im'.commit = .inFlight k) ∧
      (im.pending = 14 → e.journalFailed p = false → im1.commit = .none →
        im'.commit = .queued .progress ∨ im'.commit = .inFlight .progress) := by
  subst he
  obtain ⟨im2, him2, hbody, hpending, hqueued, hprogress⟩ := Dev.pendingLimit_image (n := im.pending + 1) him
  rw [← Dev.takeReport_eq] at him2
  refine ⟨(Dev.pendingCount_of_some him2).trans hpending, ?_⟩
  obtain ⟨im', him', hkept, hselected, _⟩ := Dev.select_commit (p := p) (im := im2)
    (d := (d.takeReport p payload check im).answer .report p (if reportClamped payload im.body then .clamped else .ok)
      (byte1 ((d.takeReport p payload check im).pendingCount p))) (by simpa using him2)
  refine ⟨im', him', (Image.keptOrTaken_body hkept).1.trans hbody, fun k hk => ?_, fun hn hj hc => ?_⟩
  · exact (hselected k (hqueued k hk)).imp_right fun h => h.1
  · exact (hselected _ (hprogress (by omega) hj hc)).imp_right fun h => h.1

end Taken

/-! ### The phase field (R35) -/

section Field
variable {payload : List Byte} {d : Dev} {state : PocketState}

/-- A phase field that passed check 6 holds 1, 2 or 3 (R164). -/
theorem Admitted.phaseField (had : Admitted .report payload d) {ph : Nat} (h : reportField payload 0 = some ph) :
    ph = 1 ∨ ph = 2 ∨ ph = 3 := by
  have henums := had.enums
  simp only [Request.enumsOk, h] at henums
  unfold phaseOfCode at henums
  split at henums <;> simp_all

theorem phaseCheck_of_none (h : reportField payload 0 = none) : phaseCheck state (reportField payload 0) = .stay := by
  rw [h]
  rfl

theorem phaseCheck_of_same (h : reportField payload 0 = some state.code) :
    phaseCheck state (reportField payload 0) = .stay := by
  rw [h]
  cases state <;> rfl

theorem phaseCheck_cooling (h : reportField payload 0 = some 2) :
    phaseCheck .drying (reportField payload 0) = .move .cooling := by
  rw [h]
  rfl

theorem phaseCheck_anticrease (h : reportField payload 0 = some 3) :
    phaseCheck .cooling (reportField payload 0) = .move .anticrease := by
  rw [h]
  rfl

/-- Every other field asks for an illegal move. -/
theorem phaseCheck_illegal {ph : Nat} (hactive : state.active = true) (hph : ph = 1 ∨ ph = 2 ∨ ph = 3)
    (hne : ph ≠ state.code) (hcool : ¬(state = .drying ∧ ph = 2)) (hanti : ¬(state = .cooling ∧ ph = 3))
    (h : reportField payload 0 = some ph) : phaseCheck state (reportField payload 0) = .illegal := by
  rw [h]
  cases state with
  | drying => rcases hph with rfl | rfl | rfl <;> simp_all [PocketState.code, phaseCheck, phaseOfCode, Phase.pocketState]
  | cooling => rcases hph with rfl | rfl | rfl <;> simp_all [PocketState.code, phaseCheck, phaseOfCode, Phase.pocketState]
  | anticrease =>
    rcases hph with rfl | rfl | rfl <;> simp_all [PocketState.code, phaseCheck, phaseOfCode, Phase.pocketState]
  | _ => simp [PocketState.active] at hactive

end Field

/-! ### The owner (R35, R62) -/

section Owner
variable {p : Pocket} {payload : List Byte} {d : Dev} {im : Image}

theorem reportOwner_of_closed (h : (d.psq.get p).open = false) :
    reportOwner payload p d = d.refuse .report payload .state := by simp [reportOwner, h]

variable (h : (d.psq.get p).open = true) (him : d.image.get p = some im)
include h him

theorem reportOwner_of_illegal (hc : phaseCheck (d.psq.get p).state (reportField payload 0) = .illegal) :
    reportOwner payload p d = d.refuse .report payload .order := by simp [reportOwner, h, him, hc]

theorem reportOwner_of_full (hc : phaseCheck (d.psq.get p).state (reportField payload 0) ≠ .illegal)
    (hfull : 15 ≤ im.pending) : reportOwner payload p d = d.refuse .report payload .busy := by
  simp [reportOwner, h, him, hc, pendingTop, hfull]

theorem reportOwner_of_taken {check : PhaseCheck}
    (hc : phaseCheck (d.psq.get p).state (reportField payload 0) = check) (hne : check ≠ .illegal)
    (hroom : im.pending < 15) : reportOwner payload p d = d.reported p payload check im := by
  subst hc
  simp [reportOwner, h, him, hne, pendingTop, Nat.not_le.2 hroom, Dev.reported, Dev.answered]

end Owner

end Sys2Proof.Machine

namespace Sys2Proof.Proofs

open Sys2Proof.Machine

/-- Settles O41: the refusals in their order, and a taken report by the move its phase field asks for. -/
theorem report : Obligations.Report := by
  unfold Obligations.Report
  intro s p payload had hp
  have hserve := had.next_servePocket hp (reportOwner payload)
  have hrefuse (r : Result) (hr : r ≠ .unknown) : (s.dev.setReceiver .hunting).refuse .report payload r =
      s.dev.replied 0x83 [r.byte, pocketIndexByte p, BitVec.ofNat 8 (s.dev.pendingCount p)] := by
    rw [Dev.refuse, Dev.refusal_report r hr hp]
    rfl
  refine ⟨fun hclosed => ?_, fun im hactive hmark him => ?_⟩
  · rw [reportOwner_of_closed (d := s.dev.setReceiver .hunting) ((Sequencer.open_eq_false_iff _).2 hclosed),
      hrefuse _ (by decide)] at hserve
    exact hserve
  have hopen : ((s.dev.setReceiver .hunting).psq.get p).open = true := (Sequencer.open_iff _).2 ⟨hactive, hmark⟩
  have hcount : s.dev.pendingCount p = im.pending := Dev.pendingCount_of_some him
  refine ⟨fun ph hfield hne hcool hanti => ?_, fun hlegal => ?_⟩
  · rw [reportOwner_of_illegal (d := s.dev.setReceiver .hunting) hopen him
      (phaseCheck_illegal hactive (had.phaseField hfield) hne hcool hanti hfield), hrefuse _ (by decide), hcount] at hserve
    exact hserve
  have htaken : ∃ check, phaseCheck (s.dev.psq.get p).state (reportField payload 0) = check ∧ check ≠ .illegal := by
    refine ⟨_, rfl, ?_⟩
    rcases hlegal with h | h | ⟨hs, h⟩ | ⟨hs, h⟩
    · simp [phaseCheck_of_none h]
    · simp [phaseCheck_of_same h]
    · simp [hs, phaseCheck_cooling h]
    · simp [hs, phaseCheck_anticrease h]
  obtain ⟨check, hcheck, hne⟩ := htaken
  refine ⟨fun hfull => ?_, fun hroom => ?_⟩
  · rw [reportOwner_of_full (d := s.dev.setReceiver .hunting) hopen him (by rwa [← hcheck] at hne) hfull,
      hrefuse _ (by decide), hcount] at hserve
    exact hserve
  rw [reportOwner_of_taken (d := s.dev.setReceiver .hunting) hopen him hcheck hne hroom] at hserve
  have himage : ((s.dev.setReceiver .hunting).merged p payload im).image.get p =
      some (im.report (s.dev.psq.get p).blocking.journalFail payload) := by
    simp
    rfl
  have hfailed : ((s.dev.setReceiver .hunting).merged p payload im).journalFailed p =
      (s.dev.psq.get p).blocking.journalFail := by simp [Dev.journalFailed]
  refine ⟨_, hserve, ?_, fun hstay => ?_, fun hs hf => ?_, fun hs hf => ?_, fun x hx => ?_,
    Dev.linkServed_of_answers (Dev.reported_answers ..), by apply Dev.ext <;> simp⟩
  · refine Dev.reported_mem _ ?_
    split
    next hclosed =>
      obtain ⟨hs, hf, hdoor, hj⟩ := hclosed
      obtain rfl : check = .move .anticrease := by rw [← hcheck, hs]; exact phaseCheck_anticrease hf
      obtain ⟨_, _, hvacates⟩ := Dev.movePhase_anticrease_open himage (by simpa using hdoor)
      exact (Dev.reported_image_of_none (check := .move .anticrease) rfl (hvacates (hfailed.trans hj)).2).1
    next hnot =>
      have hmoved : ∃ im1, (((s.dev.setReceiver .hunting).merged p payload im).reportMove p check).image.get p = some im1 ∧
          im1.pending = im.pending + 1 := by
        rcases hlegal with h | h | ⟨hs, hf⟩ | ⟨hs, hf⟩
        · obtain rfl : check = .stay := by rw [← hcheck]; exact phaseCheck_of_none h
          exact ⟨_, himage, by simp⟩
        · obtain rfl : check = .stay := by rw [← hcheck]; exact phaseCheck_of_same h
          exact ⟨_, himage, by simp⟩
        · obtain rfl : check = .move .cooling := by rw [← hcheck, hs]; exact phaseCheck_cooling hf
          exact ⟨_, Dev.phaseMoved_image himage, by simp⟩
        · obtain rfl : check = .move .anticrease := by rw [← hcheck, hs]; exact phaseCheck_anticrease hf
          cases hdoor : (s.dev.psq.get p).doorOpen with
          | false =>
            obtain ⟨_, _, _, im1, him1, hpending, _⟩ := Dev.movePhase_anticrease_closed himage (by simpa using hdoor)
            exact ⟨im1, him1, by simpa using hpending⟩
          | true =>
            have hj : (s.dev.psq.get p).blocking.journalFail = false :=
              Bool.eq_false_iff.2 fun hj => hnot ⟨hs, hf, hdoor, hj⟩
            obtain ⟨im1, him1, hpending⟩ :=
              ((Dev.movePhase_anticrease_open himage (by simpa using hdoor)).2.1 (hfailed.trans hj)).2
            exact ⟨im1, him1, by simpa using hpending⟩
      obtain ⟨im1, him1, hpending⟩ := hmoved
      rw [(Dev.reported_image rfl him1).1, hpending]
  · obtain rfl : check = .stay := by
      rw [← hcheck]
      exact hstay.elim phaseCheck_of_none phaseCheck_of_same
    obtain ⟨hpsq, htmb, hbkd⟩ := Dev.reported_moved (p := p) (payload := payload) (check := .stay) (im := im)
      (d := s.dev.setReceiver .hunting) rfl
    obtain ⟨_, im', him', hbody, _, hlimit⟩ := Dev.reported_image (p := p) (payload := payload) (check := .stay) (im := im)
      (d := s.dev.setReceiver .hunting) rfl himage
    refine ⟨by simpa using hpsq, by simpa using htmb, by simpa using hbkd, im', him', by simpa using hbody,
      fun hn hc hj => hlimit hn (hfailed.trans hj) (by simpa using hc)⟩
  · obtain rfl : check = .move .cooling := by rw [← hcheck, hs]; exact phaseCheck_cooling hf
    have hmove : ((s.dev.setReceiver .hunting).merged p payload im).reportMove p (.move .cooling) =
        ((s.dev.setReceiver .hunting).merged p payload im).phaseMoved p .cooling := Dev.movePhase_cooling ..
    obtain ⟨hpsq, htmb, hbkd⟩ := Dev.reported_moved hmove
    obtain ⟨_, im', him', hbody, hqueued, _⟩ := Dev.reported_image hmove (Dev.phaseMoved_image himage)
    refine ⟨by simpa [Phase.pocketState] using hpsq, by simpa using htmb, by simpa using hbkd, ?_, im', him',
      by simpa using hbody, fun hc hj => hqueued .phase (Image.triggeredUnless_none (hfailed.trans hj) (by simpa using hc))⟩
    simp [Dev.heatPermit, hpsq, Phase.pocketState]
  · obtain rfl : check = .move .anticrease := by rw [← hcheck, hs]; exact phaseCheck_anticrease hf
    obtain ⟨hpsq, htmb, hbkd⟩ := Dev.reported_moved (p := p) (payload := payload) (check := .move .anticrease) (im := im)
      (d := s.dev.setReceiver .hunting) rfl
    refine ⟨fun hdoor => ?_, fun hdoor => ?_⟩
    · obtain ⟨hpsq1, hbkd1, htmb1, im1, him1, _, hbody1⟩ := Dev.movePhase_anticrease_closed himage (by simpa using hdoor)
      obtain ⟨_, im', him', hbody, _⟩ := Dev.reported_image (check := .move .anticrease) rfl him1
      refine ⟨?_, ?_, ?_, im', him', ?_⟩
      · rw [hpsq]
        simpa using hpsq1
      · rw [hbkd]
        simpa using hbkd1
      · rw [htmb]
        refine htmb1.trans ?_
        have hmains : ((s.dev.setReceiver .hunting).merged p payload im).mainsPresent = true ↔
            s.dev.bkd.monitor.state = .present := by simp [Dev.mainsPresent]
        by_cases hpresent : s.dev.bkd.monitor.state = .present
        · rw [if_pos hpresent, if_pos (hmains.2 hpresent)]
          simp [mergeReport_guard]
        · rw [if_neg hpresent, if_neg (mt hmains.1 hpresent)]
          simp [mergeReport_guard]
      · rw [hbody, hbody1]
        simp [mergeReport_guard]
    · obtain ⟨hidle, hmarked, hvacates⟩ := Dev.movePhase_anticrease_open himage (by simpa using hdoor)
      refine ⟨?_, fun hj => ?_, fun hj => ?_⟩
      · rw [htmb]
        exact congrArg Tumbler.state hidle
      · rw [hpsq]
        simpa using (hmarked (hfailed.trans hj)).1
      · rw [hpsq]
        obtain ⟨hvacant, hnone⟩ := hvacates (hfailed.trans hj)
        exact ⟨hvacant, (Dev.reported_image_of_none (check := .move .anticrease) rfl hnone).2⟩
  · have hleaves := Dev.reported_leaves (payload := payload) (check := check) (im := im) (s.dev.setReceiver .hunting) hx
    exact ⟨hleaves.psq, hleaves.facts, by simp, hleaves.tmb, by simp⟩

end Sys2Proof.Proofs
end

section
/-! The engine's selection in RUN, as `Dev.selects` spells it out (R85, R86, R88, R97, R100). -/

namespace Sys2Proof.Machine

/-! ### The oldest entry of a kind (R85) -/

/-- The first element that passes a test is found, and taken out at its place. -/
theorem find?_of_first {α : Type} [DecidableEq α] {l : List α} {f : α → Bool} {n : Nat} {x : α} (hn : l[n]? = some x)
    (hx : f x = true) (hfirst : ∀ m y, l[m]? = some y → f y = true → n ≤ m) :
    l.find? f = some x ∧ l.erase x = l.eraseIdx n := by
  induction l generalizing n with
  | nil => simp at hn
  | cons y ys ih =>
    cases n with
    | zero =>
      obtain rfl : y = x := by simpa using hn
      exact ⟨List.find?_cons_of_pos hx, by simp⟩
    | succ n =>
      have hy : f y = false := Bool.eq_false_iff.2 fun hy => absurd (hfirst 0 y rfl hy) (by omega)
      have hne : y ≠ x := fun h => by rw [h, hx] at hy; exact absurd hy (by decide)
      obtain ⟨hfind, herase⟩ := ih (n := n) (by simpa using hn) fun m z hz hfz => by
        have := hfirst (m + 1) z (by simpa using hz) hfz
        omega
      refine ⟨?_, ?_⟩
      · rw [List.find?_cons_of_neg (by rw [hy]; decide)]
        exact hfind
      · rw [List.erase_cons_tail (by simpa using hne), List.eraseIdx_cons_succ, herase]

section Oldest
variable {d : Dev} {f : Work → Bool} {n : Nat} {e : Entry} (hn : d.engine.queue[n]? = some e) (he : f e.work = true)
  (hfirst : ∀ m x, d.engine.queue[m]? = some x → f x.work = true → n ≤ m)
include hn he hfirst

theorem Dev.oldest_of_first : d.oldest f = some e :=
  (find?_of_first (f := fun e : Entry => f e.work) hn he hfirst).1

theorem Dev.dequeue_of_first : d.dequeue e = d.setEngine { d.engine with queue := d.engine.queue.eraseIdx n } := by
  rw [Dev.dequeue, (find?_of_first (f := fun e : Entry => f e.work) hn he hfirst).2]

end Oldest

theorem Dev.oldest_of_none {d : Dev} {f : Work → Bool} (h : d.anyEntry f = false) : d.oldest f = none := by
  rw [Dev.oldest, List.find?_eq_none]
  exact fun e he => by simpa using List.any_eq_false.1 h e he

/-! ### The branches of a selection (R85, R86) -/

section Branches
variable {d : Dev} {e : Entry} (hr : d.runningFree = true) (hfree : d.engine.inFlight = none)
  (hservice : d.engine.service = none)
include hr hfree hservice

theorem Dev.select_of_commit {q : Pocket} (hold : d.oldest Work.isCommit = some e) (hw : e.work = .commit q) :
    d.select = (d.dequeue e).serve ⟨q, none⟩ := by
  simp [Dev.select, hr, hfree, hservice, hold, hw, Work.commitPocket]

theorem Dev.select_of_no_commit (hnone : d.anyEntry Work.isCommit = false) :
    d.select = if d.mainsPresent then d.selectBackground else d := by
  simp [Dev.select, hr, hfree, hservice, Dev.oldest_of_none hnone]

end Branches

section Background
variable {d : Dev} {e : Entry}

theorem Dev.selectBackground_of_param {second : Bool} (hold : d.oldest Work.isParam = some e) (hw : e.work = .param second) :
    d.selectBackground = (d.dequeue e).startOperation (.param (Params.image d.link.params) second e.age) := by
  simp [Dev.selectBackground, hold, hw]

theorem Dev.selectBackground_of_erase {q : Pocket} {slot : Fin 16} (hnone : d.anyEntry Work.isParam = false)
    (hold : d.oldest Work.isErase = some e) (hw : e.work = .erase q slot) :
    d.selectBackground = (d.dequeue e).startOperation (.erase q slot .entry) := by
  simp [Dev.selectBackground, Dev.oldest_of_none hnone, hold, hw]

theorem Dev.selectBackground_of_format {q : Pocket} {next : Fin 16} {failed : Bool} (hnone : d.anyEntry Work.isParam = false)
    (hnone' : d.anyEntry Work.isErase = false) (hold : d.oldest Work.isFormat = some e)
    (hw : e.work = .format q next failed) : d.selectBackground = d.formatStep q failed (slotsFrom next) := by
  simp [Dev.selectBackground, Dev.oldest_of_none hnone, Dev.oldest_of_none hnone', hold, hw]

theorem Dev.selectBackground_of_empty (h : d.engine.queue = []) : d.selectBackground = d := by
  simp [Dev.selectBackground, Dev.oldest, h]

end Background

/-! ### A commit is served (R68, R88) -/

theorem Per.set_get_other {α : Type} (x : Per α) (p : Pocket) (v : α) : (x.set p v).get p.other = x.get p.other :=
  Per.set_get_of_ne _ _ p.other_ne

section Serve
variable {d : Dev} {p : Pocket} {im : Image} {k : Kind}

theorem Dev.targetBlank_iff (d : Dev) (p : Pocket) : d.targetBlank p = true ↔ d.writable p := Iff.rfl

/-- A queued commit's write starts with a snapshot of its image, and moves nothing of the other pocket. -/
theorem Dev.writeStart_startsWrite (him : d.image.get p = some im) (hc : im.commit = .queued k)
    (hno : d.hasCommit p = false) :
    d.startsWrite p im k (d.writeStart ⟨p, none⟩) ∧ (d.writeStart ⟨p, none⟩).engine.queue = d.engine.queue ∧
    (d.writeStart ⟨p, none⟩).image.get p.other = d.image.get p.other ∧
    (d.writeStart ⟨p, none⟩).ring.get p.other = d.ring.get p.other := by
  have hstart : d.writeStart ⟨p, none⟩ = (d.setImage p (some (im.taken k))).writeSnapshot p (im.snapshot k) := by
    simp [Dev.writeStart, him, hc]
  rw [hstart]
  refine ⟨⟨rfl, ?_, ?_, ?_, hno, rfl⟩, rfl, Per.set_get_other .., Per.set_get_other ..⟩
  · simp [Dev.writeSnapshot, Dev.startOperation, Dev.setService, Ring.nextSeq]
  · simp [Dev.writeSnapshot, Dev.startOperation, Dev.setService]
  · simp [Dev.writeSnapshot, Dev.startOperation, Dev.setService, Image.taken]

theorem Dev.writeStart_service (him : d.image.get p = some im) (hc : im.commit = .queued k) :
    (d.writeStart ⟨p, none⟩).engine.service = some ⟨p, some (im.snapshot k)⟩ := by
  simp [Dev.writeStart, him, hc, Dev.writeSnapshot, Dev.startOperation, Dev.setService]

/-- What a write starts from does not depend on the entries. -/
theorem Dev.startsWrite_of_setEngine {e : Engine} {d' : Dev} (h : (d.setEngine e).startsWrite p im k d') :
    d.startsWrite p im k d' := by
  obtain ⟨hflight, hseq, hblank, himage, hno, hframe⟩ := h
  exact ⟨hflight, hseq, hblank, himage, hno, by rw [hframe]; rfl⟩

end Serve

/-! ### The parameter image (R97) -/

theorem Params.image_spec (p : Params) :
    (Params.image p).length = 41 ∧ (Params.image p).take 40 = p.toList ∧ (Params.image p).foldl (· + ·) 0 = 0 := by
  have hlength : p.toList.length = 40 := p.length_toList
  refine ⟨by simp [Params.image], ?_, ?_⟩
  · rw [Params.image, List.take_append_of_le_length (Nat.le_of_eq hlength.symm), List.take_of_length_le (Nat.le_of_eq hlength)]
  · rw [Params.image, List.foldl_append]
    show wordSum p.toList + (0 - wordSum p.toList) = 0
    bv_omega

/-! ### The next slot of a FORMAT entry (R100) -/

theorem slotsFrom_head : ∀ next : Fin 16, (slotsFrom next).head? = some next := by decide

theorem Dev.formatStep_erase {d : Dev} {q : Pocket} {next : Fin 16} {failed : Bool}
    (hblank : (d.ring.get q).blank[next] = false) :
    d.formatStep q failed (slotsFrom next) = (d.updateFormat q next failed).startOperation (.erase q next .format) := by
  obtain ⟨rest, hrest⟩ : ∃ rest, slotsFrom next = next :: rest := by
    have hhead := slotsFrom_head next
    cases h : slotsFrom next with
    | nil => simp [h] at hhead
    | cons x rest =>
      obtain rfl : x = next := by simpa [h] using hhead
      exact ⟨rest, rfl⟩
  rw [hrest, Dev.formatStep, hblank, if_neg Bool.false_ne_true]

/-- A FORMAT entry, the only one, that is where it was put already. -/
theorem Dev.updateFormat_of_same {d : Dev} {q : Pocket} {next : Fin 16} {failed : Bool}
    (h : ∀ e ∈ d.engine.queue, e.work.isFormat = true → e.work = .format q next failed) :
    d.updateFormat q next failed = d := by
  have hmap : (d.engine.queue.map fun e => if e.work.isFormatOf q then { e with work := .format q next failed } else e) =
      d.engine.queue := by
    rw [List.map_congr_left (g := id), List.map_id]
    intro e he
    split
    · next hformat =>
      have hwork := h e he (by cases hw : e.work <;> simp_all [Work.isFormatOf, Work.isFormat])
      rw [← hwork]
      rfl
    · rfl
  rw [Dev.updateFormat, hmap]
  rfl

/-! ### The selection -/

section Selects
variable {d : Dev} (hr : d.runningFree = true) (hfree : d.engine.inFlight = none) (hservice : d.engine.service = none)
include hr hfree hservice

section Commit
variable {n : Nat} {e : Entry} (hn : d.engine.queue[n]? = some e) {q : Pocket} (hw : e.work = .commit q)
  (hfirst : ∀ m x, d.engine.queue[m]? = some x → x.work.isCommit = true → n ≤ m)
include hn hw hfirst

/-- The oldest COMMIT entry is served, once it has left the queue. -/
theorem Dev.select_serves :
    d.select = (d.setEngine { d.engine with queue := d.engine.queue.eraseIdx n }).serve ⟨q, none⟩ := by
  have hcommit : e.work.isCommit = true := by rw [hw]; rfl
  rw [Dev.select_of_commit hr hfree hservice (Dev.oldest_of_first hn hcommit hfirst) hw,
    Dev.dequeue_of_first hn hcommit hfirst]

theorem Dev.select_writes (hwritable : d.writable q) :
    d.select = (d.setEngine { d.engine with queue := d.engine.queue.eraseIdx n }).writeStart ⟨q, none⟩ := by
  rw [Dev.select_serves hr hfree hservice hn hw hfirst]
  exact if_pos hwritable

theorem Dev.select_erasesTarget (hnot : ¬d.writable q) :
    d.select = { d with engine := { d.engine with
      inFlight := some (.erase q (d.ring.get q).writePos .target), service := some ⟨q, none⟩
      queue := (d.engine.queue.eraseIdx n).filter fun x => x.work != .erase q (d.ring.get q).writePos } } := by
  rw [Dev.select_serves hr hfree hservice hn hw hfirst]
  exact if_neg hnot

theorem Dev.select_startsWrite (hwritable : d.writable q) {im : Image} {k : Kind} (him : d.image.get q = some im)
    (hc : im.commit = .queued k) (honly : ∀ m x, d.engine.queue[m]? = some x → x.work = .commit q → m = n) :
    d.startsWrite q im k d.select ∧ d.select.engine.queue = d.engine.queue.eraseIdx n ∧
    d.select.image.get q.other = d.image.get q.other ∧ d.select.ring.get q.other = d.ring.get q.other := by
  have hno : (d.setEngine { d.engine with queue := d.engine.queue.eraseIdx n }).hasCommit q = false := by
    rw [Dev.hasCommit, Dev.anyEntry, List.any_eq_false]
    intro x hx hxq
    obtain ⟨m, hmn, hm⟩ := List.mem_eraseIdx_iff_getElem?.1 hx
    exact hmn (honly m x hm (by simpa using hxq))
  obtain ⟨hstarts, hqueue, hother, hring⟩ := Dev.writeStart_startsWrite (p := q)
    (d := d.setEngine { d.engine with queue := d.engine.queue.eraseIdx n }) him hc hno
  rw [Dev.select_writes hr hfree hservice hn hw hfirst hwritable]
  exact ⟨Dev.startsWrite_of_setEngine hstarts, hqueue, hother, hring⟩

end Commit

/-- The engine's selection is the one that `Dev.selects` spells out. -/
theorem Dev.select_selects : d.selects d.select := by
  refine ⟨fun _ n e hn q im hw him k hc honly hfirst =>
    ⟨fun hwritable => Dev.select_startsWrite hr hfree hservice hn hw hfirst hwritable him hc honly,
      Dev.select_erasesTarget hr hfree hservice hn hw hfirst⟩, fun hnone => ?_⟩
  have hselect := Dev.select_of_no_commit hr hfree hservice hnone
  refine ⟨fun hdip => ?_, fun hpresent => ?_⟩
  · rw [hselect, if_neg]
    simp [Dev.mainsPresent, hdip]
  rw [if_pos ((Dev.mainsPresent_iff d).2 hpresent)] at hselect
  refine ⟨fun n e hn second hw hfirst => ?_, fun hparam => ⟨fun n e hn q slot hw hfirst => ?_,
    fun herase => ⟨fun n e hn q next failed hw honly hblank => ?_, fun hempty => ?_⟩⟩⟩
  · have his : e.work.isParam = true := by rw [hw]; rfl
    obtain ⟨hlength, htake, hsum⟩ := Params.image_spec d.link.params
    refine ⟨_, hlength, htake, hsum, ?_⟩
    rw [hselect, Dev.selectBackground_of_param (Dev.oldest_of_first hn his hfirst) hw, Dev.dequeue_of_first hn his hfirst]
    rfl
  · have his : e.work.isErase = true := by rw [hw]; rfl
    rw [hselect, Dev.selectBackground_of_erase hparam (Dev.oldest_of_first hn his hfirst) hw,
      Dev.dequeue_of_first hn his hfirst]
    rfl
  · have his : e.work.isFormat = true := by rw [hw]; rfl
    have hfirst (m : Nat) (x : Entry) (hm : d.engine.queue[m]? = some x) (hx : x.work.isFormat = true) : n ≤ m :=
      Nat.le_of_eq (honly m x hm hx).symm
    rw [hselect, Dev.selectBackground_of_format hparam herase (Dev.oldest_of_first hn his hfirst) hw,
      Dev.formatStep_erase hblank, Dev.updateFormat_of_same]
    · rfl
    · intro x hx hformat
      obtain ⟨m, hm⟩ := List.mem_iff_getElem?.1 hx
      rw [honly m x hm hformat, hn] at hm
      rw [← Option.some.inj hm, hw]
  · rw [hselect, Dev.selectBackground_of_empty hempty]

end Selects

end Sys2Proof.Machine
end

section
/-! A zero-cross edge, and the recovery of a dip (O4). -/

namespace Sys2Proof.Machine

section StartTests
variable {p x : Pocket} {d : Dev}

/-- No start test is made on a pocket outside WAITSTART (R139). -/
theorem Dev.startTest_of_not_waitstart (h : (d.psq.get p).state ≠ .waitstart) : d.startTest p = d := by
  rcases d.startTest_cases p with heq | ⟨_, hstate, _⟩
  · exact heq
  · exact absurd hstate h

/-- The start tests of both pockets leave one that is not in WAITSTART. -/
theorem Dev.startTests_leaves (h : (d.psq.get x).state ≠ .waitstart) : d.LeavesPocket x d.startTests := by
  cases x with
  | a =>
    rw [Dev.startTests, Dev.startTest_of_not_waitstart h]
    exact d.startTest_leaves (by decide)
  | b =>
    have ha : d.LeavesPocket .b (d.startTest .a) := d.startTest_leaves (by decide)
    rw [Dev.startTests, Dev.startTest_of_not_waitstart (p := .b) (by rwa [ha.psq])]
    exact ha

theorem Dev.startTests_of_none_waits (h : ∀ p, (d.psq.get p).state ≠ .waitstart) : d.startTests = d := by
  rw [Dev.startTests, Dev.startTest_of_not_waitstart (h .a), Dev.startTest_of_not_waitstart (h .b)]

end StartTests

/-- The part in which a dip has been recovered, before the start tests and the selection (R3, R159). -/
def Dev.dipRecovered (d : Dev) : Dev :=
  (((((d.setMonitor { d.bkd.monitor with state := .present, absence := 0 }).lowerConfidence 2).restartInterval).raiseIfPowered
    .supply).beginSettle).mapTumblers Tumbler.unpause

/-- What is selected from a part is selected from it under another writing. -/
theorem Dev.selects_of_eq {d e d' : Dev} (h : d = e) (hs : d.selects d') : e.selects d' := h ▸ hs

section Recovered
variable {p : Pocket} {d : Dev}

theorem Dev.recoverDip_eq (d : Dev) : d.recoverDip = d.dipRecovered.startTests.select := rfl

@[simp] theorem Dev.dipRecovered_frame (d : Dev) :
    d.dipRecovered.pins = d.pins ∧ d.dipRecovered.run = d.run ∧ d.dipRecovered.reserve = d.reserve ∧
    d.dipRecovered.adc = d.adc ∧ d.dipRecovered.faults = d.faults ∧ d.dipRecovered.sns = d.sns ∧
    d.dipRecovered.psq = d.psq ∧ d.dipRecovered.image = d.image ∧ d.dipRecovered.engine = d.engine ∧
    d.dipRecovered.ring = d.ring ∧ d.dipRecovered.scan = d.scan ∧ d.dipRecovered.journal = d.journal ∧
    d.dipRecovered.plan = d.plan ∧ d.dipRecovered.arbiter = d.arbiter ∧ d.dipRecovered.freeCount = d.freeCount ∧
    d.dipRecovered.bkd = { d.bkd with
      monitor := { d.bkd.monitor with state := .present, absence := 0 }
      confidence := d.bkd.confidence - 2, interval := 0 } := by
  simp [Dev.dipRecovered, Dev.lowerConfidence, Dev.restartInterval, Dev.setMonitor]

theorem Dev.dipRecovered_tmb (p : Pocket) (d : Dev) : d.dipRecovered.tmb.get p = (d.tmb.get p).unpause := by
  rw [Dev.dipRecovered, Dev.mapTumblers_get]
  simp

/-- With the main domain powered SUPPLY is raised and settle begins (R3, R6). -/
theorem Dev.dipRecovered_powered (h : d.run ≠ .backup) : d.dipRecovered.settle = ⟨true, 0⟩ ∧
    d.dipRecovered.link = { d.link with attention := { d.link.attention with supply := true } } := by
  have hbegin (e : Dev) (he : e.run ≠ .backup) : e.beginSettle.settle = ⟨true, 0⟩ := by
    simp [Dev.beginSettle, Dev.powered, he]
  refine ⟨?_, ?_⟩
  · rw [Dev.dipRecovered, Dev.mapTumblers_frame .. |>.2.2.2.1, hbegin _ (by simpa using h)]
  · simp [Dev.dipRecovered, Dev.raiseIfPowered, Dev.powered, h, Dev.raiseCause, Attention.add]

theorem Dev.dipRecovered_answers (d : Dev) : d.link.Answers d.dipRecovered.link := by
  by_cases h : d.run = .backup
  · exact .of_eq (by simp [Dev.dipRecovered, Dev.raiseIfPowered, Dev.powered, h])
  · rw [(Dev.dipRecovered_powered h).2]
    exact ⟨rfl, List.prefix_rfl, Attention.grows_add _ .supply⟩

theorem Dev.dipRecovered_waitsAlike (p : Pocket) (d : Dev) : d.WaitsAlike p d.dipRecovered :=
  ⟨by simp, by simp, by simp, by simp⟩

theorem Dev.dipRecovered_mainsPresent (d : Dev) : d.dipRecovered.mainsPresent = true := by
  simp [Dev.mainsPresent]

theorem Dev.dipRecovered_resetHold (d : Dev) : d.dipRecovered.link.resetHold = d.link.resetHold :=
  d.dipRecovered_answers.resetHold

theorem Dev.recoverDip_factsOnly (d : Dev) :
    d.recoverDip.bkd = { d.dipRecovered.bkd with facts := d.recoverDip.bkd.facts } := by
  have h := Dev.startTests_factsOnly d.dipRecovered
  rw [Dev.recoverDip_eq, Dev.select_frame .. |>.2.1]
  exact h

theorem Dev.recoverDip_leaves (h : (d.psq.get p).state ≠ .waitstart) : d.dipRecovered.LeavesPocket p d.recoverDip :=
  (Dev.startTests_leaves (by simpa using h)).trans (Dev.select_leaves _ _)

end Recovered

/-- The two moves that an edge outside DIP can make (R2, R4). -/
theorem zeroCross_of_not_dip {d : Dev} (hpow : d.bkd.powered = true) (h : d.bkd.monitor.state ≠ .dip) :
    zeroCross d = d.setMonitor (if d.bkd.monitor.state = .absent then
      { d.bkd.monitor with state := .qualifying, absence := 0, qualification := 0 }
      else { d.bkd.monitor with absence := 0 }) := by
  cases hm : d.bkd.monitor.state with
  | dip => exact absurd hm h
  | _ => simp [zeroCross, hpow, hm]

end Sys2Proof.Machine

namespace Sys2Proof.Proofs

open Sys2Proof.Machine

/-- Settles O4: the edge outside DIP, and in DIP the recovery with its start tests and its selection. -/
theorem zeroCrossEdge : Obligations.ZeroCrossEdge := by
  unfold Obligations.ZeroCrossEdge
  intro s hpow
  refine ⟨fun hnot => ?_, fun hdip => ⟨s.dev.recoverDip, ?_, ?_⟩⟩
  · refine congrArg (fun d => Host.Outcome.next { s with dev := d }) ?_
    exact zeroCross_of_not_dip hpow hnot
  · refine congrArg (fun d => Host.Outcome.next { s with dev := d }) ?_
    simp [zeroCross, hpow, hdip]
  have hbkd := s.dev.recoverDip_factsOnly
  refine ⟨by rw [hbkd]; simp, by rw [hbkd]; simp, by rw [hbkd]; simp, fun hrun => ⟨?_, ?_⟩, fun p hp hpaused => ?_,
    fun p hrun hhold hready => ?_, fun hnot => ?_, fun hrun hnone => ?_, by rw [hbkd]; simp, by
      apply Dev.ext <;> simp [Dev.recoverDip_eq]⟩
  · simpa [Dev.recoverDip_eq] using (Dev.dipRecovered_powered hrun).1
  · have hsupply : s.dev.dipRecovered.link.attention.supply = true := by rw [(Dev.dipRecovered_powered hrun).2]
    exact ((Dev.startTests_answers _).trans (Dev.select_answers _)).causes.supply hsupply
  · rw [(Dev.recoverDip_leaves hp).tmb, Dev.dipRecovered_tmb]
    exact ⟨fun h => by simp [Tumbler.unpause, hpaused, h], fun h => by simp [Tumbler.unpause, hpaused, h]⟩
  · refine (s.dev.dipRecovered_waitsAlike p).startTested (Dev.startTests_tested ?_ s.dev.dipRecovered_mainsPresent
      (by simpa using hready) (fun _ => Dev.select_leaves _ _) p)
    exact (Dev.runningFree_iff _).2 ⟨by simpa using hrun, s.dev.dipRecovered_resetHold.trans hhold⟩
  · have hstays : s.dev.dipRecovered.startTests = s.dev.dipRecovered := by
      refine Dev.startTests_of_not (hnot.elim (fun h => .inl ?_) fun h => h.elim (fun h => .inl ?_) fun h => .inr (.inr ?_))
      · simp [Dev.runningFree, h]
      · simp [Dev.runningFree, s.dev.dipRecovered_resetHold, h]
      · simpa using h
    simp [Dev.recoverDip_eq, hstays]
  · have hstays : s.dev.dipRecovered.startTests = s.dev.dipRecovered :=
      Dev.startTests_of_none_waits (by simpa using hnone)
    have hrecover : s.dev.recoverDip = s.dev.dipRecovered.select := by rw [Dev.recoverDip_eq, hstays]
    rw [hrecover]
    refine ⟨fun hhold hfree hservice => ?_, fun hbusy => ?_⟩
    · have hselects := Dev.select_selects (d := s.dev.dipRecovered)
        ((Dev.runningFree_iff _).2 ⟨by simpa using hrun, s.dev.dipRecovered_resetHold.trans hhold⟩) (by simpa using hfree)
        (by simpa using hservice)
      refine Dev.selects_of_eq ?_ hselects
      apply Dev.ext <;> simp [(Dev.dipRecovered_powered (d := s.dev) (by simp [hrun])).2]
    · rcases hbusy with h | h
      · rw [Dev.select_of_hold (s.dev.dipRecovered_resetHold.trans h)]
        simp
      · rw [Dev.select_of_busy (.inr (by simpa using h))]
        simp

end Sys2Proof.Proofs
end

section
/-! The expiry of a merge window (O27). -/

namespace Sys2Proof.Machine

/-- An image whose window has stopped, with the trigger of the expiry (R65, R66). -/
def Image.expired (journalFailed : Bool) (im : Image) : Image :=
  Image.triggeredUnless journalFailed .progress none { im with window := none }

/-- The part after the trigger, before the selection. -/
def Dev.expired (p : Pocket) (d : Dev) : Dev := (d.modImage p fun im => { im with window := none }).trigger p .progress none

section Expiry
variable {p : Pocket} {d : Dev} {im : Image}

@[simp] theorem Dev.expired_frame (p : Pocket) (d : Dev) :
    (d.expired p).pins = d.pins ∧ (d.expired p).bkd = d.bkd ∧ (d.expired p).run = d.run ∧
    (d.expired p).settle = d.settle ∧ (d.expired p).reserve = d.reserve ∧ (d.expired p).adc = d.adc ∧
    (d.expired p).faults = d.faults ∧ (d.expired p).sns = d.sns ∧ (d.expired p).psq = d.psq ∧
    (d.expired p).ring = d.ring ∧ (d.expired p).scan = d.scan ∧ (d.expired p).journal = d.journal ∧
    (d.expired p).plan = d.plan ∧ (d.expired p).arbiter = d.arbiter ∧ (d.expired p).tmb = d.tmb ∧
    (d.expired p).link = d.link ∧ (d.expired p).freeCount = d.freeCount := by
  simp [Dev.expired]

theorem Dev.expired_image (him : d.image.get p = some im) :
    (d.expired p).image = d.image.set p (some (im.expired (d.journalFailed p))) := by
  rw [Dev.expired, Dev.trigger_image_eq (im := { im with window := none })]
  · simp [Dev.modImage, Per.set_set, Image.expired, Dev.journalFailed]
  · simp [Dev.modImage, him]

theorem Dev.expired_inFlight (p : Pocket) (d : Dev) : (d.expired p).engine.inFlight = d.engine.inFlight := by
  rw [Dev.expired, Dev.trigger_inFlight]
  simp

/-- A pocket without an entry gets one (R66). -/
theorem Dev.expired_engine (hj : d.journalFailed p = false) (him : d.image.get p = some im) (hc : im.commit = .none) :
    (d.expired p).engine = { d.engine with
      queue := d.engine.queue ++ [⟨d.engine.nextAge, .commit p⟩], nextAge := d.engine.nextAge + 1 } := by
  have hj' : (d.modImage p fun im => { im with window := none }).journalFailed p = false := hj
  have him' : (d.modImage p fun im => { im with window := none }).image.get p = some { im with window := none } := by
    simp [Dev.modImage, him]
  simp [Dev.expired, Dev.trigger, hj', him', hc, Dev.enqueue]

theorem Image.expired_of_none (hc : im.commit = .none) :
    im.expired false = { im with window := none, commit := .queued .progress } := by
  obtain ⟨body, cycle, pending, dirty, window, commit, recommit, closeReason, ref, resume⟩ := im
  obtain rfl : commit = .none := hc
  cases closeReason <;> rfl

theorem Image.expired_frame (j : Bool) (im : Image) : (im.expired j).window = none ∧ (im.expired j).body = im.body := by
  cases j <;> exact ⟨rfl, rfl⟩

theorem mergeWindowExpiry_of_due {n : Nat} (hrun : d.run = .run) (him : d.image.get p = some im) (hw : im.window = some n)
    (hdue : d.mergeLength ≤ n) : mergeWindowExpiry p d = (d.expired p).select := by
  simp [mergeWindowExpiry, Dev.windowDue, hrun, him, hw, hdue, Dev.expired]

theorem mergeWindowExpiry_of_early {n : Nat} (him : d.image.get p = some im) (hw : im.window = some n)
    (hdue : n < d.mergeLength) : mergeWindowExpiry p d = d := by
  simp [mergeWindowExpiry, Dev.windowDue, him, hw, Nat.not_le.2 hdue]

theorem Dev.mergeLength_eq (d : Dev) : d.mergeLength = if 8 ≤ d.bkd.confidence then 30 else 10 := by
  simp [Dev.mergeLength, Dev.steady]

/-- A selection keeps a stopped window stopped. -/
theorem Image.keptOrTaken_window {im' : Image} (h : im.keptOrTaken im') (hw : im.window = none) : im'.window = none := by
  rcases h with rfl | ⟨k, _, rfl⟩
  · exact hw
  · rfl

/-- The write that starts after the expiry is one of the image as it was. -/
theorem Dev.expired_startsWrite {d' : Dev}
    (h : (d.expired p).startsWrite p { im with window := none, commit := .queued .progress } .progress d') :
    d.startsWrite p im .progress d' := by
  obtain ⟨hflight, hseq, hblank, himage, hno, hframe⟩ := h
  have hring : (d.expired p).ring = d.ring := by simp
  rw [hring] at hflight hseq
  simp only [hring] at hblank
  refine ⟨hflight, hseq, hblank, himage, hno, hframe.trans ?_⟩
  apply Dev.ext <;> simp

/-- The only COMMIT entry is the one that the expiry queued. -/
theorem Dev.expired_commit_only {q : Pocket} (hengine : (d.expired p).engine = { d.engine with
      queue := d.engine.queue ++ [⟨d.engine.nextAge, .commit p⟩], nextAge := d.engine.nextAge + 1 })
    (hnone : ∀ q, d.hasCommit q = false) {m : Nat} {x : Entry} (hm : (d.expired p).engine.queue[m]? = some x)
    (hx : x.work = .commit q) : m = d.engine.queue.length := by
  rw [hengine] at hm
  rcases Nat.lt_or_ge m d.engine.queue.length with hlt | hge
  · rw [List.getElem?_append_left hlt] at hm
    have hno := List.any_eq_false.1 (hnone q) x (List.mem_of_getElem? hm)
    exact absurd (by simp [hx]) hno
  · have hlt := (List.getElem?_eq_some_iff.1 hm).1
    simp only [List.length_append, List.length_singleton] at hlt
    omega

end Expiry

end Sys2Proof.Machine

namespace Sys2Proof.Proofs

open Sys2Proof.Machine

/-- Settles O27: the trigger, and the selection that serves the new entry in the same step. -/
theorem mergeWindowExpiry : Obligations.MergeWindowExpiry := by
  unfold Obligations.MergeWindowExpiry
  intro s p im n hrun him hw
  rw [← Dev.mergeLength_eq]
  refine ⟨fun hearly => ?_, fun hdue => ?_⟩
  · exact congrArg (fun d => Host.Outcome.next { s with dev := d }) (mergeWindowExpiry_of_early him hw hearly)
  have hexec : exec (.mergeWindowExpiry p) s = .next { s with dev := (s.dev.expired p).select } := by
    refine congrArg (fun d => Host.Outcome.next { s with dev := d }) ?_
    exact mergeWindowExpiry_of_due hrun him hw hdue
  have himage : (s.dev.expired p).image.get p = some (im.expired (s.dev.psq.get p).blocking.journalFail) := by
    rw [Dev.expired_image him, Per.set_get_self]
    rfl
  obtain ⟨im', him', hkept, hqueued, hsame⟩ := Dev.select_commit himage
  obtain ⟨hbody, _, _, _, hrecommit, _⟩ := Image.keptOrTaken_body hkept
  refine ⟨_, im', hexec, him', Image.keptOrTaken_window hkept (Image.expired_frame ..).1,
    hbody.trans (Image.expired_frame ..).2, fun hj => ⟨fun hc => ?_, fun k hc => ?_, fun k hc => ?_⟩, fun hj hc => ?_,
    fun hj => ?_, by apply Dev.ext <;> simp⟩
  · rw [hj] at hqueued
    exact (hqueued .progress (by rw [Image.expired_of_none hc])).imp_right fun h => h.1
  · exact (hqueued k (Image.triggeredUnless_queued hc)).imp_right fun h => h.1
  · have hexpired : im.expired false = { im with window := none, recommit := some (im.recommit.getD .progress) } := by
      rw [Image.expired, Image.triggeredUnless, if_neg Bool.false_ne_true,
        Image.triggered_progress_of_inFlight (im := { im with window := none }) hc]
    rw [hj, hexpired] at hsame
    rw [hsame fun k' => by rw [hc]; exact CommitStatus.noConfusion]
    refine ⟨hc, ?_⟩
    cases im.recommit <;> rfl
  · have hengine := Dev.expired_engine (p := p) hj him hc
    rw [hj, Image.expired_of_none hc] at himage
    refine ⟨fun hbusy => ?_, fun _ hhold hfree hservice hnone => ?_⟩
    · have hstays : (s.dev.expired p).select = s.dev.expired p := by
        rcases hbusy with h | h
        · exact Dev.select_of_hold (by simpa using h)
        · exact Dev.select_of_busy (.inr (by rwa [Dev.expired_inFlight]))
      rw [hstays] at him' ⊢
      exact ⟨Option.some.inj (him'.symm.trans himage), hengine⟩
    · have hr : (s.dev.expired p).runningFree = true := (Dev.runningFree_iff _).2 ⟨by simpa using hrun, by simpa using hhold⟩
      have hfree' : (s.dev.expired p).engine.inFlight = none := by rwa [Dev.expired_inFlight]
      have hservice' : (s.dev.expired p).engine.service = none := by rw [hengine]; exact hservice
      have hn : (s.dev.expired p).engine.queue[s.dev.engine.queue.length]? = some ⟨s.dev.engine.nextAge, .commit p⟩ := by
        rw [hengine]
        simp
      have honly (q : Pocket) (m : Nat) (x : Entry) (hm : (s.dev.expired p).engine.queue[m]? = some x)
          (hx : x.work = .commit q) : m = s.dev.engine.queue.length := Dev.expired_commit_only hengine hnone hm hx
      have hfirst (m : Nat) (x : Entry) (hm : (s.dev.expired p).engine.queue[m]? = some x)
          (hx : x.work.isCommit = true) : s.dev.engine.queue.length ≤ m := by
        cases hw : x.work with
        | commit q => exact Nat.le_of_eq (honly q m x hm hw).symm
        | _ => simp [hw, Work.isCommit] at hx
      have hrest : (s.dev.expired p).engine.queue.eraseIdx s.dev.engine.queue.length = s.dev.engine.queue := by
        rw [hengine, List.eraseIdx_append_of_length_le (Nat.le_refl _)]
        simp
      have hring : (s.dev.expired p).ring = s.dev.ring := by simp
      refine ⟨fun hwritable => ?_, fun hnot => ?_⟩
      · have hwritable' : (s.dev.expired p).writable p := by
          simpa only [Dev.writable, hring] using hwritable
        obtain ⟨hstarts, hqueue, hother, hringOther⟩ :=
          Dev.select_startsWrite hr hfree' hservice' hn rfl hfirst hwritable' himage rfl (honly p)
        refine ⟨?_, hqueue.trans hrest, ?_, ?_, ?_⟩
        · exact Dev.expired_startsWrite hstarts
        · rw [Dev.select_writes hr hfree' hservice' hn rfl hfirst hwritable']
          exact Dev.writeStart_service (d := (s.dev.expired p).setEngine _)
            (im := { im with window := none, commit := .queued .progress }) himage rfl
        · rw [hother, Dev.expired_image him, Per.set_get_other]
        · rw [hringOther, hring]
      · have hnot' : ¬(s.dev.expired p).writable p := by
          simpa only [Dev.writable, hring] using hnot
        have herases := Dev.select_erasesTarget hr hfree' hservice' hn rfl hfirst hnot'
        have hsame' : (s.dev.expired p).select.image = (s.dev.expired p).image := by rw [herases]
        refine ⟨?_, ?_⟩
        · rw [hsame', himage] at him'
          exact (Option.some.inj him').symm
        · rw [hsame', herases]
          rw [hrest]
          apply Dev.ext <;> simp [hengine]
  · rw [hrecommit, hj]
    rfl

end Sys2Proof.Proofs
end

section
/-! FORMAT and PARAM_STORE at the engine (O51). -/

namespace Sys2Proof.Machine

/-! ### A reply that is owed and sent in the same step (R165) -/

theorem Dev.undefer_defer {q : Request} {x : Option Pocket} {e : Deferred} {d : Dev} (hnone : d.owed q x = none)
    (he : Deferred.isFor q x e = true) : (d.defer e).undefer q x = d := by
  have hkeep : (d.link.deferred.filter fun e => !(Deferred.isFor q x e)) = d.link.deferred :=
    List.filter_eq_self.2 fun a ha => by simpa using List.find?_eq_none.1 hnone a ha
  simp [Dev.undefer, Dev.defer, Dev.setLink, List.filter_append, hkeep, he]

theorem Dev.release_defer {q : Request} {x : Option Pocket} {e : Deferred} {d : Dev} {bytes : List Byte}
    (hnone : d.owed q x = none) (he : Deferred.isFor q x e = true) : (d.defer e).release q x bytes = d.reply q bytes := by
  rcases Dev.release_cases q x bytes (d.defer e) with ⟨h, _⟩ | ⟨_, _, h⟩
  · have := List.find?_eq_none.1 h e (by simp [Dev.defer])
    exact absurd he this
  · rw [h, Dev.undefer_defer hnone he]

/-! ### FORMAT (R99, R100) -/

section
variable {d : Dev} {p : Pocket}

/-- A FORMAT entry over a ring whose slots are all blank is done at once. -/
theorem Dev.formatStep_allBlank (hblank : (d.ring.get p).blank = Vector.replicate 16 true) (failed : Bool) (l : List (Fin 16)) :
    d.formatStep p failed l = d.finishFormat p failed := by
  induction l with
  | nil => rfl
  | cons i rest ih => rw [Dev.formatStep, if_pos (by simp [hblank]), ih]

theorem Dev.select_of_present (hr : d.runningFree = true) (hfree : d.engine.inFlight = none)
    (hservice : d.engine.service = none) (hnone : d.anyEntry Work.isCommit = false) (hpresent : d.bkd.monitor.state = .present) :
    d.select = d.selectBackground := by
  rw [Dev.select_of_no_commit hr hfree hservice hnone, if_pos ((Dev.mainsPresent_iff d).2 hpresent)]

/-- The FORMAT entry joins the queue in place of the pocket's ERASE entries, and its reply is owed (R99). -/
def Dev.formatQueued (p : Pocket) (d : Dev) : Dev :=
  ((d.keepEntries fun w => !w.isEraseOf p).enqueue (.format p 0 false)).defer ⟨.format, some p, false, 0⟩

@[simp] theorem Dev.formatQueued_frame (p : Pocket) (d : Dev) :
    (d.formatQueued p).bkd = d.bkd ∧ (d.formatQueued p).run = d.run ∧ (d.formatQueued p).ring = d.ring ∧
    (d.formatQueued p).engine.inFlight = d.engine.inFlight ∧ (d.formatQueued p).engine.service = d.engine.service ∧
    (d.formatQueued p).link.resetHold = d.link.resetHold :=
  ⟨rfl, rfl, rfl, rfl, rfl, rfl⟩

theorem Dev.formatQueued_anyEntry {f : Work → Bool} (h : d.anyEntry f = false) (hformat : f (.format p 0 false) = false) :
    (d.formatQueued p).anyEntry f = false := by
  rw [Dev.anyEntry, List.any_eq_false] at h ⊢
  intro e he
  rcases List.mem_append.1 he with he | he
  · exact h e (List.mem_filter.1 he).1
  · obtain rfl := List.mem_singleton.1 he
    simp [hformat]

/-- The only entry that is queued is served over its slots, slot 0 first. -/
theorem Dev.formatQueued_select (hr : d.runningFree = true) (hfree : d.engine.inFlight = none)
    (hservice : d.engine.service = none) (hempty : d.engine.queue = []) (hpresent : d.bkd.monitor.state = .present) :
    (d.formatQueued p).select = (d.formatQueued p).formatStep p false (slotsFrom 0) := by
  have hnone (f : Work → Bool) : d.anyEntry f = false := by rw [Dev.anyEntry, hempty]; rfl
  have hqueue : (d.formatQueued p).engine.queue[0]? = some ⟨d.engine.nextAge, .format p 0 false⟩ := by
    simp [Dev.formatQueued, Dev.defer, Dev.enqueue, Dev.keepEntries, hempty]
  rw [Dev.select_of_present (d := d.formatQueued p) hr hfree hservice (Dev.formatQueued_anyEntry (hnone _) rfl) hpresent,
    Dev.selectBackground_of_format (Dev.formatQueued_anyEntry (hnone _) rfl) (Dev.formatQueued_anyEntry (hnone _) rfl)
      (Dev.oldest_of_first hqueue rfl fun _ _ _ _ => Nat.zero_le _) rfl]

/-- The queue after the entry has joined an empty one. -/
theorem Dev.formatQueued_queue (hempty : d.engine.queue = []) :
    (d.formatQueued p).engine.queue = [⟨d.engine.nextAge, .format p 0 false⟩] := by
  simp [Dev.formatQueued, Dev.defer, Dev.enqueue, Dev.keepEntries, hempty]

theorem Dev.formatQueued_erases (hempty : d.engine.queue = []) (hblank : (d.ring.get p).blank[0] = false) :
    (d.formatQueued p).formatStep p false (slotsFrom 0) = (d.formatQueued p).startOperation (.erase p 0 .format) := by
  rw [Dev.formatStep_erase (d := d.formatQueued p) hblank, Dev.updateFormat_of_same]
  intro e he _
  rw [Dev.formatQueued_queue hempty] at he
  rw [List.mem_singleton.1 he]

/-- With no slot to erase the numbering, the basis and the history are reset and the reply is sent, all at once. -/
theorem Dev.formatQueued_finishes (howed : d.owed .format (some p) = none) (hempty : d.engine.queue = [])
    (hblank : (d.ring.get p).blank = Vector.replicate 16 true) :
    (d.formatQueued p).formatStep p false (slotsFrom 0) = Dev.reply .format (pocketReply .ok p []) { d with
      engine := { d.engine with nextAge := d.engine.nextAge + 1 }
      ring := d.ring.set p ⟨0, (d.ring.get p).blank, 0, none, 0, none, 0⟩
      journal := d.journal.set p { d.journal.get p with basis := none, history := [] } } := by
  rw [Dev.formatStep_allBlank (d := d.formatQueued p) hblank]
  have hfinish : (d.formatQueued p).finishFormat p false = (Dev.defer ⟨.format, some p, false, 0⟩ { d with
      engine := { d.engine with nextAge := d.engine.nextAge + 1 }
      ring := d.ring.set p ⟨0, (d.ring.get p).blank, 0, none, 0, none, 0⟩
      journal := d.journal.set p { d.journal.get p with basis := none, history := [] } }).release .format (some p)
        (pocketReply .ok p []) := by
    rw [Dev.finishFormat]
    simp [Dev.formatQueued, Dev.keepEntries, Dev.enqueue, Dev.defer, Dev.setEngine, Dev.setRing, Dev.setJournal,
      Dev.setLink, hempty, Work.isFormat, Work.isEraseOf]
  rw [hfinish]
  exact Dev.release_defer howed (by simp [Deferred.isFor])

end

/-- In DIP, with no commit queued, a selection starts nothing (R86). -/
theorem Dev.select_of_dip {d : Dev} (hdip : d.bkd.monitor.state = .dip) (hfree : d.engine.inFlight = none)
    (hservice : d.engine.service = none) (hnone : d.anyEntry Work.isCommit = false) : d.select = d := by
  by_cases hr : d.runningFree = true
  · rw [Dev.select_of_no_commit hr hfree hservice hnone, if_neg]
    simp [Dev.mainsPresent, hdip]
  · simp [Dev.select, hr]

section Format
variable {s : State} {payload : List Byte} {p : Pocket} {d : Dev}

theorem formatOwner_of_state (h : (d.psq.get p).state ≠ .vacant ∨ (d.psq.get p).mark ≠ none) :
    formatOwner payload p d = d.refuse .format payload .state :=
  if_pos (by simpa [Option.isSome_iff_ne_none] using h)

theorem formatOwner_of_vacant (hvacant : (d.psq.get p).state = .vacant) (hmark : (d.psq.get p).mark = none) :
    formatOwner payload p d = if d.anyEntry Work.isFormat then d.refuse .format payload .busy else (d.formatQueued p).select :=
  if_neg (by simp [hvacant, hmark])

/-- FORMAT that is taken. -/
theorem Admitted.format_taken (had : Admitted .format payload s.dev) (hp : pocketOf payload = some p)
    (hvacant : (s.dev.psq.get p).state = .vacant) (hmark : (s.dev.psq.get p).mark = none)
    (hnone : s.dev.anyEntry Work.isFormat = false) :
    exec (.format payload) s = .next { s with dev := ((s.dev.setReceiver .hunting).formatQueued p).select } := by
  have hserve := had.next_servePocket hp (formatOwner payload)
  have hnone' : ¬(s.dev.setReceiver .hunting).anyEntry Work.isFormat = true := ne_true_of_eq_false hnone
  rw [formatOwner_of_vacant (d := s.dev.setReceiver .hunting) hvacant hmark, if_neg hnone'] at hserve
  exact hserve

/-- FORMAT that is refused, with STATE or with BUSY. -/
theorem Admitted.format_refused (had : Admitted .format payload s.dev) (hp : pocketOf payload = some p) :
    ((s.dev.psq.get p).state ≠ .vacant ∨ (s.dev.psq.get p).mark ≠ none →
      exec (.format payload) s = .next { s with dev := s.dev.replied 0x8B [2, pocketIndexByte p] }) ∧
    ((s.dev.psq.get p).state = .vacant → (s.dev.psq.get p).mark = none → s.dev.anyEntry Work.isFormat = true →
      exec (.format payload) s = .next { s with dev := s.dev.replied 0x8B [4, pocketIndexByte p] }) := by
  have hserve := had.next_servePocket hp (formatOwner payload)
  refine ⟨fun hstate => ?_, fun hvacant hmark hany => ?_⟩
  · rw [formatOwner_of_state (d := s.dev.setReceiver .hunting) hstate, Dev.refuse_pocket _ _ rfl (by decide) hp] at hserve
    exact hserve
  · have hany' : (s.dev.setReceiver .hunting).anyEntry Work.isFormat = true := hany
    rw [formatOwner_of_vacant (d := s.dev.setReceiver .hunting) hvacant hmark, if_pos hany',
      Dev.refuse_pocket _ _ rfl (by decide) hp] at hserve
    exact hserve

end Format

section ParamStore
variable {s : State} {payload : List Byte}

/-- The PARAM entry joins the queue, and its reply is owed (R97). -/
def Dev.paramQueued (d : Dev) : Dev := (d.enqueue (.param false)).defer ⟨.paramStore, none, false, 0⟩

theorem Admitted.paramStore_refused (had : Admitted .paramStore payload s.dev) (hany : s.dev.anyEntry Work.isParam = true) :
    exec (.paramStore payload) s = .next { s with dev := s.dev.replied 0x8E [4] } := by
  have hserve := had.next_serve (paramStoreOwner payload)
  have hany' : (s.dev.setReceiver .hunting).anyEntry Work.isParam = true := hany
  rw [paramStoreOwner, if_pos hany', Dev.refuse_device _ rfl] at hserve
  exact hserve

theorem Admitted.paramStore_taken (had : Admitted .paramStore payload s.dev) (hnone : s.dev.anyEntry Work.isParam = false) :
    exec (.paramStore payload) s = .next { s with dev := (s.dev.setReceiver .hunting).paramQueued.select } := by
  have hserve := had.next_serve (paramStoreOwner payload)
  have hnone' : ¬(s.dev.setReceiver .hunting).anyEntry Work.isParam = true := ne_true_of_eq_false hnone
  rw [paramStoreOwner, if_neg hnone'] at hserve
  exact hserve

/-- The only entry that is queued is started with the words in force. -/
theorem Dev.paramQueued_select {d : Dev} (hr : d.runningFree = true) (hfree : d.engine.inFlight = none)
    (hservice : d.engine.service = none) (hempty : d.engine.queue = []) (hpresent : d.bkd.monitor.state = .present) :
    d.paramQueued.select = ((d.setEngine { d.engine with nextAge := d.engine.nextAge + 1 }).defer
      ⟨.paramStore, none, false, 0⟩).startOperation (.param (Params.image d.link.params) false d.engine.nextAge) := by
  have hqueue : d.paramQueued.engine.queue[0]? = some ⟨d.engine.nextAge, .param false⟩ := by
    simp [Dev.paramQueued, Dev.enqueue, hempty]
  have hcommit : d.paramQueued.anyEntry Work.isCommit = false := by
    simp [Dev.paramQueued, Dev.enqueue, Dev.anyEntry, hempty, Work.isCommit]
  have hfirst (m : Nat) (x : Entry) (_ : d.paramQueued.engine.queue[m]? = some x) (_ : x.work.isParam = true) : 0 ≤ m :=
    Nat.zero_le m
  rw [Dev.select_of_present (d := d.paramQueued) hr hfree hservice hcommit hpresent,
    Dev.selectBackground_of_param (Dev.oldest_of_first hqueue rfl hfirst) rfl, Dev.dequeue_of_first hqueue rfl hfirst]
  simp [Dev.paramQueued, Dev.enqueue, Dev.defer, Dev.setEngine, Dev.startOperation, Dev.setLink, hempty]

end ParamStore

end Sys2Proof.Machine

namespace Sys2Proof.Proofs

open Sys2Proof.Machine

/-- Settles O51: the refusals, then the entry queued, the ring all blank, the first erase, and DIP. -/
theorem formatAndParamStore : Obligations.FormatAndParamStore := by
  unfold Obligations.FormatAndParamStore
  intro s payload
  have hr (hrun : s.dev.run = .run) (hfree : s.dev.linkFree) : (s.dev.setReceiver .hunting).runningFree = true :=
    (Dev.runningFree_iff _).2 ⟨hrun, hfree.1⟩
  refine ⟨fun had p hp => ⟨(had.format_refused hp).1, fun hvacant hmark => ⟨(had.format_refused hp).2 hvacant hmark,
    fun hnone hbusy => ?_, fun hfree hservice hempty hpresent hblank => ?_,
    fun hfree hservice hempty hpresent hblank => ?_, fun hfree hservice hcommit hnone hdip => ?_⟩⟩,
    fun had => ⟨had.paramStore_refused, fun hnone hbusy => ?_, fun hfree hservice hempty hpresent => ?_,
      fun hfree hservice hcommit hnone hdip => ?_⟩⟩
  · rw [had.format_taken hp hvacant hmark hnone, Dev.select_of_busy (.inr (by simpa using hbusy))]
    rfl
  · rw [had.format_taken hp hvacant hmark (by simp [Dev.anyEntry, hempty]),
      Dev.formatQueued_select (d := s.dev.setReceiver .hunting) (hr had.running had.free) hfree hservice hempty hpresent,
      Dev.formatQueued_finishes (d := s.dev.setReceiver .hunting) (had.not_owed rfl rfl hp) hempty hblank]
    rfl
  · rw [had.format_taken hp hvacant hmark (by simp [Dev.anyEntry, hempty]),
      Dev.formatQueued_select (d := s.dev.setReceiver .hunting) (hr had.running had.free) hfree hservice hempty hpresent,
      Dev.formatQueued_erases (d := s.dev.setReceiver .hunting) hempty hblank]
    simp [Dev.startOperation, Dev.setEngine, Dev.formatQueued_queue (d := s.dev.setReceiver .hunting) hempty]
    simp [Dev.formatQueued, Dev.defer, Dev.enqueue, Dev.keepEntries, Dev.setReceiver, Dev.setLink, Dev.setEngine]
  · rw [had.format_taken hp hvacant hmark hnone,
      Dev.select_of_dip (d := (s.dev.setReceiver .hunting).formatQueued p) hdip hfree hservice
        (Dev.formatQueued_anyEntry hcommit rfl)]
    rfl
  · rw [had.paramStore_taken hnone,
      Dev.select_of_busy (d := (s.dev.setReceiver .hunting).paramQueued) (.inr hbusy)]
    rfl
  · obtain ⟨hlength, htake, hsum⟩ := Params.image_spec s.dev.link.params
    refine ⟨_, ?_, hlength, htake, hsum⟩
    rw [had.paramStore_taken (by simp [Dev.anyEntry, hempty]),
      Dev.paramQueued_select (d := s.dev.setReceiver .hunting) (hr had.running had.free) hfree hservice hempty hpresent]
    rfl
  · have hnone' : (s.dev.setReceiver .hunting).paramQueued.anyEntry Work.isCommit = false := by
      have happend : (s.dev.setReceiver .hunting).paramQueued.anyEntry Work.isCommit =
          (s.dev.engine.queue ++ [(⟨s.dev.engine.nextAge, .param false⟩ : Entry)]).any fun e => e.work.isCommit := rfl
      rw [happend, List.any_append, Bool.or_eq_false_iff]
      exact ⟨hcommit, rfl⟩
    rw [had.paramStore_taken hnone, Dev.select_of_dip (d := (s.dev.setReceiver .hunting).paramQueued) hdip hfree hservice hnone']
    rfl

end Sys2Proof.Proofs
end

section
/-! The work of the engine in LOSS_COMMIT, as `Dev.lossWorks` spells it out (R16, R17, R95, R96). -/

namespace Sys2Proof.Machine

/-! ### What a skip leaves -/

section Skip
variable (p : Pocket) (d : Dev)

@[simp] theorem Dev.skipCommit_engine :
    (d.skipCommit p).engine.inFlight = d.engine.inFlight ∧ (d.skipCommit p).engine.service = none ∧
    (d.skipCommit p).engine.queue = d.engine.queue.filter fun e => e.work != .commit p :=
  ⟨rfl, rfl, rfl⟩

/-- The entries of other work stay. -/
theorem Dev.keepEntries_hasCommit (q : Pocket) :
    (d.keepEntries fun w => w != .commit p).hasCommit q = (d.hasCommit q && q != p) := by
  have hqueue : (d.keepEntries fun w => w != .commit p).engine.queue = d.engine.queue.filter fun e => e.work != .commit p := rfl
  rw [Bool.eq_iff_iff, Dev.hasCommit, Dev.anyEntry, hqueue, List.any_filter]
  simp only [Dev.hasCommit, Dev.anyEntry, List.any_eq_true, Bool.and_eq_true, beq_iff_eq, bne_iff_ne, ne_eq]
  refine ⟨fun ⟨e, he, hnot, hq⟩ => ⟨⟨e, he, hq⟩, fun h => hnot (by rw [hq, h])⟩,
    fun ⟨⟨e, he, hq⟩, hne⟩ => ⟨e, he, fun h => hne ?_, hq⟩⟩
  exact Work.commit.inj (hq.symm.trans h)

theorem Dev.skipCommit_hasCommit (q : Pocket) : (d.skipCommit p).hasCommit q = (d.hasCommit q && q != p) :=
  d.keepEntries_hasCommit p q

theorem Dev.skipCommit_image : (d.skipCommit p).image.get p = (d.image.get p).map fun im => { im with commit := .none } := by
  rw [Dev.skipCommit, Dev.modImage]
  cases h : d.image.get p <;> simp [h]

theorem Dev.skipCommit_other :
    (d.skipCommit p).image.get p.other = d.image.get p.other ∧ (d.skipCommit p).ring.get p.other = d.ring.get p.other := by
  rw [Dev.skipCommit, Dev.modImage]
  cases h : d.image.get p <;> simp [h, Per.set_get_other]

@[simp] theorem Dev.skipAll_inFlight : d.skipAll.engine.inFlight = d.engine.inFlight := by
  simp only [Dev.skipAll]
  (repeat' split) <;> simp

end Skip

/-! ### The loss-time order (R95) -/

theorem Phase.lossRank_inj {x y : Phase} (h : x.lossRank = y.lossRank) : x = y := by
  cases x <;> cases y <;> simp_all [Phase.lossRank]

/-- The keys compare as the rule says: by the phase, and within a phase by the age of the completion. -/
theorem Dev.lossBefore_iff {d : Dev} {p q : Pocket} {x y : Image} (hx : d.image.get p = some x) (hy : d.image.get q = some y) :
    d.lossBefore p q ↔ (d.lossKey p).1 < (d.lossKey q).1 ∨
      (d.lossKey p).1 = (d.lossKey q).1 ∧ (d.lossKey p).2 < (d.lossKey q).2 := by
  have hphase : (x.body.phase = .drying ∧ y.body.phase ≠ .drying ∨ x.body.phase = .cooling ∧ y.body.phase = .anticrease) ↔
      x.body.phase.lossRank < y.body.phase.lossRank := by
    cases x.body.phase <;> cases y.body.phase <;> simp [Phase.lossRank]
  have hsame : x.body.phase = y.body.phase ↔ x.body.phase.lossRank = y.body.phase.lossRank :=
    ⟨fun h => by rw [h], Phase.lossRank_inj⟩
  have hage : ((d.ring.get p).completionAge = none ∧ (d.ring.get q).completionAge ≠ none ∨
      ∃ m n, (d.ring.get p).completionAge = some m ∧ (d.ring.get q).completionAge = some n ∧ m < n) ↔
      (d.lossKey p).2 < (d.lossKey q).2 := by
    cases hm : (d.ring.get p).completionAge <;> cases hn : (d.ring.get q).completionAge <;>
      simp [Dev.lossKey, hm, hn]
  have hp : (d.lossKey p).1 = x.body.phase.lossRank := by simp [Dev.lossKey, hx]
  have hq : (d.lossKey q).1 = y.body.phase.lossRank := by simp [Dev.lossKey, hy]
  rw [hp, hq, ← hage, ← hphase, ← hsame]
  refine ⟨fun ⟨x', y', hx', hy', h⟩ => ?_, fun h => ⟨x, y, hx, hy, by rwa [or_assoc] at h⟩⟩
  obtain rfl : x' = x := Option.some.inj (hx'.symm.trans hx)
  obtain rfl : y' = y := Option.some.inj (hy'.symm.trans hy)
  rwa [or_assoc]

theorem Dev.bBeforeA_iff {d : Dev} {x y : Image} (hx : d.image.get .a = some x) (hy : d.image.get .b = some y) :
    d.bBeforeA = true ↔ d.lossBefore .b .a := by
  rw [Dev.lossBefore_iff hy hx]
  simp [Dev.bBeforeA]

theorem Dev.lossNext_of_first {d : Dev} {p : Pocket} {im : Image} (hfirst : d.lossFirst p) (him : d.image.get p = some im)
    (hother : d.hasCommit p.other = true → d.image.get p.other ≠ none) : d.lossNext = some p := by
  obtain ⟨hp, hbefore⟩ := hfirst
  cases hq : d.hasCommit p.other with
  | false => cases p <;> simp_all [Dev.lossNext, Pocket.other]
  | true =>
    obtain ⟨y, hy⟩ := Option.ne_none_iff_exists'.1 (hother hq)
    have hbefore' := hbefore.resolve_left (by simp [hq])
    cases p with
    | a =>
      have hnot : ¬d.lossBefore Pocket.a.other .a := by
        rcases hbefore' with h | ⟨_, h⟩
        · rw [Dev.lossBefore_iff hy him]
          have h' := (Dev.lossBefore_iff him hy).1 h
          omega
        · exact h
      have hb : d.bBeforeA = false := Bool.eq_false_iff.2 fun h => hnot ((Dev.bBeforeA_iff him hy).1 h)
      simp only [Pocket.other] at hq
      simp [Dev.lossNext, hp, hq, hb]
    | b =>
      have hb : d.bBeforeA = true := (Dev.bBeforeA_iff hy him).2 (hbefore'.resolve_right (by simp))
      simp only [Pocket.other] at hq
      simp [Dev.lossNext, hp, hq, hb]

theorem Dev.lossNext_of_none {d : Dev} (h : ∀ q, d.hasCommit q = false) : d.lossNext = none := by
  simp [Dev.lossNext, h]

theorem Dev.lossNext_of_only {d : Dev} {p : Pocket} (hp : d.hasCommit p = true) (hother : d.hasCommit p.other = false) :
    d.lossNext = some p := by
  cases p <;> simp_all [Dev.lossNext, Pocket.other]

/-! ### After a skip -/

theorem Pocket.other_other (p : Pocket) : p.other.other = p := by cases p <;> rfl

section Skipped
variable {d : Dev} {p : Pocket}

theorem Dev.skipCommit_none (hq : d.hasCommit p.other = false) (q : Pocket) : (d.skipCommit p).hasCommit q = false := by
  rw [Dev.skipCommit_hasCommit]
  cases p <;> cases q <;> simp_all [Pocket.other]

/-- The other pocket's commit is the one left. -/
theorem Dev.skipCommit_next (hq : d.hasCommit p.other = true) : (d.skipCommit p).lossNext = some p.other := by
  refine Dev.lossNext_of_only ?_ ?_
  · simp [Dev.skipCommit_hasCommit, hq, p.other_ne]
  · rw [Pocket.other_other]
    simp [Dev.skipCommit_hasCommit]

theorem Dev.skipCommit_writable : (d.skipCommit p).writable p.other ↔ d.writable p.other := by
  simp only [Dev.writable, (d.skipCommit_other p).2]

/-- What the other pocket's write starts from does not depend on the skipped commit. -/
theorem Dev.startsWrite_of_skipCommit {im : Image} {k : Kind} {d' : Dev} (h : (d.skipCommit p).startsWrite p.other im k d') :
    d.startsWrite p.other im k d' := by
  obtain ⟨hflight, hseq, hblank, himage, hno, hframe⟩ := h
  have hring := (d.skipCommit_other p).2
  rw [hring] at hflight hseq
  simp only [hring] at hblank
  exact ⟨hflight, hseq, hblank, himage, hno, by rw [hframe]; rfl⟩

end Skipped

/-! ### The branches of the work -/

theorem Dev.powersDown_powerDown {d x : Dev} (hbkd : x.bkd = d.bkd) (hpins : x.pins = d.pins) : d.powersDown x.powerDown :=
  ⟨rfl, rfl, hbkd, hpins⟩

section Branches
variable {n : Nat} {d : Dev} {p : Pocket} (hfree : d.engine.inFlight = none) (hservice : d.engine.service = none)
include hfree hservice

theorem Dev.lossSelect_of_none (hnext : d.lossNext = none) : Dev.lossSelect (n + 1) d = d := by
  simp [Dev.lossSelect, hfree, hservice, hnext]

theorem Dev.lossSelect_of_low (hnext : d.lossNext = some p) (hlow : d.reserve.level < 360) :
    Dev.lossSelect (n + 1) d = d.skipAll := by
  simp [Dev.lossSelect, hfree, hservice, hnext, vWrite, hlow]

theorem Dev.lossSelect_of_write (hnext : d.lossNext = some p) (hlevel : 360 ≤ d.reserve.level) (hwritable : d.writable p) :
    Dev.lossSelect (n + 1) d = (d.keepEntries fun w => w != .commit p).writeStart ⟨p, none⟩ := by
  simp [Dev.lossSelect, hfree, hservice, hnext, vWrite, Nat.not_lt.2 hlevel, (d.targetBlank_iff p).2 hwritable]

theorem Dev.lossSelect_of_skip (hnext : d.lossNext = some p) (hlevel : 360 ≤ d.reserve.level) (hnot : ¬d.writable p) :
    Dev.lossSelect (n + 1) d = Dev.lossSelect n (d.skipCommit p) := by
  simp [Dev.lossSelect, hfree, hservice, hnext, vWrite, Nat.not_lt.2 hlevel, mt (d.targetBlank_iff p).1 hnot]

omit hservice in
theorem Dev.lossWork_eq :
    d.lossWork = if (Dev.lossSelect 3 d).engine.inFlight.isSome then Dev.lossSelect 3 d else (Dev.lossSelect 3 d).powerDown := by
  simp [Dev.lossWork, hfree]

end Branches

/-- The write of a queued commit in LOSS_COMMIT. -/
theorem Dev.lossWrite_startsWrite {d : Dev} {p : Pocket} {im : Image} {k : Kind} (him : d.image.get p = some im)
    (hc : im.commit = .queued k) :
    d.startsWrite p im k ((d.keepEntries fun w => w != .commit p).writeStart ⟨p, none⟩) ∧
    ((d.keepEntries fun w => w != .commit p).writeStart ⟨p, none⟩).image.get p.other = d.image.get p.other ∧
    ((d.keepEntries fun w => w != .commit p).writeStart ⟨p, none⟩).hasCommit p.other = d.hasCommit p.other := by
  obtain ⟨hstarts, hqueue, hother, _⟩ := Dev.writeStart_startsWrite (p := p) (d := d.keepEntries fun w => w != .commit p) him hc
    (by simp [Dev.keepEntries_hasCommit])
  refine ⟨Dev.startsWrite_of_setEngine hstarts, hother, ?_⟩
  rw [Dev.hasCommit, Dev.anyEntry, hqueue]
  exact (d.keepEntries_hasCommit p p.other).trans (by simp [p.other_ne])

section Works
variable {d : Dev} (hfree : d.engine.inFlight = none)

section
include hfree

/-- Where the work comes to a part with nothing in flight, LOSS_COMMIT ends. -/
theorem Dev.lossWork_of_idle {x : Dev} (hselect : Dev.lossSelect 3 d = x) (hx : x.engine.inFlight = none) :
    d.powersDown d.lossWork := by
  have hframe := Dev.lossSelect_frame 3 d
  rw [Dev.lossWork_eq hfree, hselect, hx, if_neg (by simp)]
  rw [hselect] at hframe
  exact Dev.powersDown_powerDown hframe.2.1 hframe.1

theorem Dev.lossWork_of_write {x : Dev} {p : Pocket} {im : Image} {k : Kind} (hselect : Dev.lossSelect 3 d = x)
    (hx : d.startsWrite p im k x) : d.lossWork = x := by
  rw [Dev.lossWork_eq hfree, hselect, hx.1, if_pos (by simp)]

end

variable (hservice : d.engine.service = none)
include hfree hservice

/-- The part with no commit left, or one below V_WRITE. -/
theorem Dev.lossWork_of_none (hnone : ∀ q, d.hasCommit q = false) : d.powersDown d.lossWork :=
  Dev.lossWork_of_idle hfree (Dev.lossSelect_of_none hfree hservice (Dev.lossNext_of_none hnone)) hfree

theorem Dev.lossWork_of_low (hlow : d.reserve.level < 360) : d.powersDown d.lossWork := by
  cases hnext : d.lossNext with
  | none => exact Dev.lossWork_of_idle hfree (Dev.lossSelect_of_none hfree hservice hnext) hfree
  | some p => exact Dev.lossWork_of_idle hfree (Dev.lossSelect_of_low hfree hservice hnext hlow) (by simpa using hfree)

section First
variable {p : Pocket} (hlevel : 360 ≤ d.reserve.level) (hnext : d.lossNext = some p)
include hlevel hnext

/-- The first commit of the order goes into a blank target. -/
theorem Dev.lossWork_of_writable {im : Image} {k : Kind} (him : d.image.get p = some im) (hc : im.commit = .queued k)
    (hwritable : d.writable p) :
    d.startsWrite p im k d.lossWork ∧ d.lossWork.image.get p.other = d.image.get p.other ∧
    d.lossWork.hasCommit p.other = d.hasCommit p.other := by
  have hwrite := Dev.lossWrite_startsWrite him hc
  rw [Dev.lossWork_of_write hfree (Dev.lossSelect_of_write hfree hservice hnext hlevel hwritable) hwrite.1]
  exact hwrite

variable (hnot : ¬d.writable p)
include hnot

/-- With the first one skipped, the work goes on with the other pocket alone. -/
theorem Dev.lossSelect_skips : Dev.lossSelect 3 d = Dev.lossSelect 2 (d.skipCommit p) :=
  Dev.lossSelect_of_skip hfree hservice hnext hlevel hnot

/-- The first one skipped, and nothing that could be written after it. -/
theorem Dev.lossWork_of_skips (hother : d.hasCommit p.other = false ∨ ¬d.writable p.other) : d.powersDown d.lossWork := by
  have hskip := Dev.lossSelect_skips hfree hservice hlevel hnext hnot
  have hfree1 : (d.skipCommit p).engine.inFlight = none := by simpa using hfree
  cases hq : d.hasCommit p.other with
  | false =>
    exact Dev.lossWork_of_idle hfree
      (hskip.trans (Dev.lossSelect_of_none hfree1 (by simp) (Dev.lossNext_of_none (d.skipCommit_none hq)))) hfree1
  | true =>
    have hnot1 : ¬(d.skipCommit p).writable p.other := by
      rw [Dev.skipCommit_writable]
      exact hother.resolve_left (by simp [hq])
    have hskip1 := Dev.lossSelect_of_skip (n := 1) hfree1 (by simp) (d.skipCommit_next hq) (by simpa using hlevel) hnot1
    have hfree2 : ((d.skipCommit p).skipCommit p.other).engine.inFlight = none := by simpa using hfree
    have hnone := (d.skipCommit p).skipCommit_none (p := p.other)
      (by rw [Pocket.other_other]; simp [Dev.skipCommit_hasCommit])
    exact Dev.lossWork_of_idle hfree
      ((hskip.trans hskip1).trans (Dev.lossSelect_of_none hfree2 (by simp) (Dev.lossNext_of_none hnone))) hfree2

/-- The first one skipped, and the other pocket's written. -/
theorem Dev.lossWork_of_other {im : Image} {k : Kind} (hq : d.hasCommit p.other = true) (him : d.image.get p.other = some im)
    (hc : im.commit = .queued k) (hwritable : d.writable p.other) :
    d.startsWrite p.other im k d.lossWork ∧
    d.lossWork.image.get p = (d.image.get p).map (fun im => { im with commit := .none }) ∧
    d.lossWork.hasCommit p = false := by
  have hskip := Dev.lossSelect_skips hfree hservice hlevel hnext hnot
  have hfree1 : (d.skipCommit p).engine.inFlight = none := by simpa using hfree
  have hselect := Dev.lossSelect_of_write (n := 1) hfree1 (by simp) (d.skipCommit_next hq) (by simpa using hlevel)
    ((d.skipCommit_writable).2 hwritable)
  obtain ⟨hwrite, himage, hhas⟩ := Dev.lossWrite_startsWrite (d := d.skipCommit p) ((d.skipCommit_other p).1.trans him) hc
  rw [Pocket.other_other] at himage hhas
  have hstarts := Dev.startsWrite_of_skipCommit hwrite
  rw [Dev.lossWork_of_write hfree (hskip.trans hselect) hstarts]
  exact ⟨hstarts, himage.trans (d.skipCommit_image p), hhas.trans (by simp [Dev.skipCommit_hasCommit])⟩

end First

/-- The work of the engine is the one that `Dev.lossWorks` spells out. -/
theorem Dev.lossWork_lossWorks : d.lossWorks d.lossWork := by
  refine ⟨fun ha hb => Dev.lossWork_of_none hfree hservice (by rintro (_ | _) <;> assumption), Dev.lossWork_of_low hfree hservice,
    fun p im k hlevel hfirst him hc hother => ?_⟩
  have hnext := Dev.lossNext_of_first hfirst him hother
  refine ⟨Dev.lossWork_of_writable hfree hservice hlevel hnext him hc, fun hnot =>
    ⟨Dev.lossWork_of_skips hfree hservice hlevel hnext hnot, fun im2 k2 hq him2 hc2 hwritable => ?_⟩⟩
  have hwork := Dev.lossWork_of_other hfree hservice hlevel hnext hnot hq him2 hc2 hwritable
  rwa [him] at hwork

end Works

end Sys2Proof.Machine
end

section
/-! The end of a PARAM operation and of a FORMAT's erase (O31, O32). -/

namespace Sys2Proof.Machine

/-! ### After an operation (R85, R96) -/

theorem Dev.afterOperation_of_run {d : Dev} (hrun : d.run = .run) (hhold : d.link.resetHold = false) :
    d.afterOperation = d.select := by
  simp [Dev.afterOperation, hrun, hhold]

theorem Dev.afterOperation_of_loss {d : Dev} (hrun : d.run = .lossCommit) : d.afterOperation = d.lossWork := by
  simp [Dev.afterOperation, hrun]

@[simp] theorem Dev.endOperation_engine (d : Dev) : d.endOperation.engine = { d.engine with inFlight := none } := rfl

/-! ### The release of a reply (R165, R166) -/

section Release
variable {q : Request} {x : Option Pocket} {bytes : List Byte} {d : Dev}

theorem Dev.release_of_none (h : d.owed q x = none) : d.release q x bytes = d := by
  simp [Dev.release, h]

theorem Dev.release_of_owed {e : Deferred} (h : d.owed q x = some e) :
    d.release q x bytes = (d.undefer q x).reply q bytes := by
  simp [Dev.release, h]

theorem Dev.release_sent {e : Deferred} (h : d.owed q x = some e) :
    (⟨q.replyType, bytes⟩ : Reply) ∈ (d.release q x bytes).link.transmit := by
  simp [Dev.release_of_owed h, Dev.reply, Dev.send]

/-- A released reply is owed no more. -/
theorem Dev.release_owed : (d.release q x bytes).owed q x = none := by
  cases h : d.owed q x with
  | none => rw [Dev.release_of_none h, h]
  | some e =>
    rw [Dev.release_of_owed h]
    simp [Dev.owed, Dev.reply, Dev.send, Dev.undefer, List.find?_eq_none]

end Release

/-! ### The end of a PARAM operation (R97, R98) -/

section Param
variable {d : Dev} {second : Bool} {age : Nat}

theorem insertByAge_mem {e x : Entry} {l : List Entry} : x ∈ insertByAge e l ↔ x = e ∨ x ∈ l := by
  induction l with
  | nil => simp [insertByAge]
  | cons y ys ih =>
    rw [insertByAge]
    split
    · simp
    · simp only [List.mem_cons, ih]
      exact or_left_comm

theorem Dev.paramEnded_engine (d : Dev) (matched : Bool) (h : matched = true ∨ second = true) :
    (d.paramEnded matched second age).engine = d.engine := by
  rcases h with rfl | rfl
  · simp [Dev.paramEnded]
  · cases matched <;> simp [Dev.paramEnded]

theorem Dev.paramEnded_faults (d : Dev) (matched : Bool) : (d.paramEnded matched second age).faults =
    if matched then { d.faults with paramDefault := false } else d.faults := by
  cases matched <;> cases second <;> simp [Dev.paramEnded, Dev.clearDevice, DeviceFaults.put]

theorem Dev.paramEnded_answers (d : Dev) (matched : Bool) : d.link.Answers (d.paramEnded matched second age).link := by
  cases matched
  · cases second
    · exact .of_eq rfl
    · exact Dev.release_answers ..
  · exact Dev.release_answers ..

theorem Dev.paramEnded_link (d : Dev) (matched : Bool) (h : d.link.deferred = []) :
    (d.paramEnded matched second age).link = d.link := by
  have howed : d.owed .paramStore none = none := by simp [Dev.owed, h]
  cases matched <;> cases second <;> simp [Dev.paramEnded, Dev.release_of_none howed]

/-- The first failure puts the entry back into the queue. -/
theorem Dev.paramEnded_of_retry (d : Dev) : d.paramEnded false false age =
    d.setEngine { d.engine with queue := insertByAge ⟨age, .param true⟩ d.engine.queue } := rfl

theorem Dev.paramEnded_hasCommit (d : Dev) (matched : Bool) (q : Pocket) :
    (d.paramEnded matched second age).hasCommit q = d.hasCommit q := by
  rw [Bool.eq_iff_iff]
  cases hm : matched
  · cases hs : second
    · simp [Dev.paramEnded_of_retry, Dev.hasCommit, Dev.anyEntry, insertByAge_mem]
    · simp only [Dev.hasCommit, Dev.anyEntry, d.paramEnded_engine false (.inr rfl)]
  · simp only [Dev.hasCommit, Dev.anyEntry, d.paramEnded_engine true (.inl rfl)]

theorem Dev.paramEnded_idle {matched : Bool} (hservice : d.engine.service = none) :
    (d.endOperation.paramEnded matched second age).engine.inFlight = none ∧
    (d.endOperation.paramEnded matched second age).engine.service = none := by
  cases matched <;> cases second <;> simp [Dev.paramEnded, hservice]

/-- The entry that went back is the PARAM entry that is selected next, with mains PRESENT and no commit waiting. -/
theorem Dev.paramRetry_select (hr : d.runningFree = true) (hfree : d.engine.inFlight = none)
    (hservice : d.engine.service = none) (hcommit : d.anyEntry Work.isCommit = false)
    (hnone : d.anyEntry Work.isParam = false) (hpresent : d.bkd.monitor.state = .present) :
    (d.paramEnded false false age).select.engine.inFlight = some (.param (Params.image d.link.params) true age) ∧
    (d.paramEnded false false age).select.link = d.link := by
  have hno (f : Work → Bool) (h : d.anyEntry f = false) (hf : f (.param true) = false) :
      (d.paramEnded false false age).anyEntry f = false := by
    rw [Dev.anyEntry, List.any_eq_false] at h ⊢
    intro e he
    rcases insertByAge_mem.1 he with rfl | he
    · simp [hf]
    · exact h e he
  have hold : (d.paramEnded false false age).oldest Work.isParam = some ⟨age, .param true⟩ := by
    cases hfind : (d.paramEnded false false age).oldest Work.isParam with
    | none =>
      have := List.find?_eq_none.1 hfind ⟨age, .param true⟩ (insertByAge_mem.2 (.inl rfl))
      exact absurd rfl this
    | some e =>
      obtain ⟨hparam, hmem⟩ := Dev.oldest_some hfind
      rcases insertByAge_mem.1 hmem with rfl | hmem
      · rfl
      · exact absurd hparam (List.any_eq_false.1 hnone e hmem)
  rw [Dev.select_of_present (d := d.paramEnded false false age) hr hfree hservice (hno _ hcommit rfl) hpresent,
    Dev.selectBackground_of_param hold rfl]
  exact ⟨rfl, rfl⟩

end Param

theorem exec_paramOperationDone {s : State} {ws : List Word} {second : Bool} {age : Nat} {damage : List Host.Cell}
    {page : List Byte} (hflight : s.dev.engine.inFlight = some (.param ws second age))
    (hpage : page = overlay (pageOf (imageBytes ws)) damage) :
    exec (.paramOperationDone damage) s = .next { s with
      array := s.array.setPage 32 page
      dev := (s.dev.endOperation.paramEnded (page = pageOf (imageBytes ws)) second age).afterOperation } := by
  have hexec : exec (.paramOperationDone damage) s = execParamOperationDone damage s := rfl
  rw [hexec, execParamOperationDone]
  simp only [hflight, ← hpage, paramPage]

end Sys2Proof.Machine

namespace Sys2Proof.Proofs

open Sys2Proof.Machine

/-- Settles O32: the outcome of the operation, and then the selection in RUN or the work in LOSS_COMMIT. -/
theorem paramOperationEnds : Obligations.ParamOperationEnds := by
  unfold Obligations.ParamOperationEnds
  intro s ws second age damage page hflight hpage
  have hexec := exec_paramOperationDone hflight hpage
  generalize hd1 : s.dev.endOperation.paramEnded (page = pageOf (imageBytes ws)) second age = d1 at hexec
  have hfaults : d1.faults = if page = pageOf (imageBytes ws) then { s.dev.faults with paramDefault := false } else s.dev.faults := by
    simp [← hd1, Dev.paramEnded_faults]
  have hanswers : s.dev.link.Answers d1.link := hd1 ▸ Dev.paramEnded_answers s.dev.endOperation _
  have hframe : d1 = { s.dev with faults := d1.faults, engine := d1.engine, link := d1.link } := by
    rw [← hd1]
    apply Dev.ext <;> simp
  refine ⟨fun hrun hhold => ?_, fun hrun hservice => ?_⟩
  · rw [Dev.afterOperation_of_run (by rw [hframe]; exact hrun) (hanswers.resetHold.trans hhold)] at hexec
    have hselect := d1.select_answers
    refine ⟨_, hexec, rfl, rfl, by rw [(hanswers.trans hselect).frame], fun heq => ⟨?_, fun e he => ?_⟩, fun hne => ?_,
      fun hne hsecond e he => ?_, fun hne hsecond hservice hcommit hparam hpresent => ?_, ?_⟩
    · simp [hfaults, heq]
    · refine hselect.sent.subset ?_
      rw [← hd1, decide_eq_true heq]
      exact Dev.release_sent (q := .paramStore) (d := s.dev.endOperation) he
    · simp [hfaults, hne]
    · refine hselect.sent.subset ?_
      rw [← hd1, decide_eq_false hne, hsecond]
      exact Dev.release_sent (q := .paramStore) (d := s.dev.endOperation) he
    · have hr : s.dev.endOperation.runningFree = true := (Dev.runningFree_iff _).2 ⟨hrun, hhold⟩
      rw [← hd1, decide_eq_false hne, hsecond]
      exact Dev.paramRetry_select hr rfl hservice hcommit hparam hpresent
    · rw [← hd1]
      apply Dev.ext <;> simp
  · rw [Dev.afterOperation_of_loss (by rw [hframe]; exact hrun)] at hexec
    have hidle : d1.engine.inFlight = none ∧ d1.engine.service = none := by
      rw [← hd1]
      exact Dev.paramEnded_idle hservice
    exact ⟨_, d1, hexec, rfl, rfl, Dev.lossWork_lossWorks hidle.1 hidle.2, hfaults,
      fun q => hd1 ▸ Dev.paramEnded_hasCommit s.dev.endOperation _ q, hidle.1, hidle.2,
      fun hnone => hd1 ▸ Dev.paramEnded_link s.dev.endOperation _ hnone, hframe⟩

end Sys2Proof.Proofs
end

section
/-! The blank check at the end of an erase, and the end of a FORMAT's erase (R91, R100; O31). -/

namespace Sys2Proof.Machine

/-! ### The blank check (R91) -/

/-- The slot takes its place in the blank map; a check that fails raises WRITE_RETRY. -/
def Dev.blankChecked (p : Pocket) (slot : Fin 16) (passed : Bool) (d : Dev) : Dev :=
  if passed then d.markBlank p slot true else (d.markBlank p slot false).raiseFault p .writeRetry

section Check
variable (p : Pocket) (slot : Fin 16) (passed : Bool) (d : Dev)

theorem Dev.eraseEnded_entry : d.eraseEnded p slot .entry passed = d.blankChecked p slot passed := rfl

theorem Dev.eraseEnded_format :
    d.eraseEnded p slot .format passed = (d.blankChecked p slot passed).formatSlotDone p slot passed := rfl

@[simp] theorem Dev.blankChecked_frame :
    (d.blankChecked p slot passed).pins = d.pins ∧ (d.blankChecked p slot passed).bkd = d.bkd ∧
    (d.blankChecked p slot passed).run = d.run ∧ (d.blankChecked p slot passed).settle = d.settle ∧
    (d.blankChecked p slot passed).reserve = d.reserve ∧ (d.blankChecked p slot passed).adc = d.adc ∧
    (d.blankChecked p slot passed).faults = d.faults ∧ (d.blankChecked p slot passed).sns = d.sns ∧
    (d.blankChecked p slot passed).image = d.image ∧ (d.blankChecked p slot passed).engine = d.engine ∧
    (d.blankChecked p slot passed).scan = d.scan ∧ (d.blankChecked p slot passed).journal = d.journal ∧
    (d.blankChecked p slot passed).plan = d.plan ∧ (d.blankChecked p slot passed).arbiter = d.arbiter ∧
    (d.blankChecked p slot passed).tmb = d.tmb ∧ (d.blankChecked p slot passed).freeCount = d.freeCount := by
  rw [Dev.blankChecked]
  split <;> simp

theorem Dev.blankChecked_ring : (d.blankChecked p slot passed).ring =
    d.ring.set p { d.ring.get p with blank := (d.ring.get p).blank.set slot passed } := by
  cases passed <;> simp [Dev.blankChecked, Dev.markBlank]

theorem Dev.blankChecked_psq : (d.blankChecked p slot passed).psq =
    if passed then d.psq else d.psq.set p ((d.psq.get p).put .writeRetry true) := by
  cases passed <;> simp [Dev.blankChecked, Dev.raiseFault_psq]

/-- The check moves nothing of the link but the cause FAULT, which a new WRITE_RETRY raises. -/
theorem Dev.blankChecked_link :
    (d.blankChecked p slot passed).link = { d.link with attention := { d.link.attention with
      fault := (d.blankChecked p slot passed).link.attention.fault } } ∧
    (passed = true → (d.blankChecked p slot passed).link = d.link) ∧
    (passed = false → (d.psq.get p).advisory.writeRetry = false →
      (d.blankChecked p slot passed).link.attention.fault = true) := by
  cases passed
  · obtain ⟨hlink, hfault⟩ := (d.markBlank p slot false).raiseFault_attention p .writeRetry
    simp only [Dev.markBlank_frame] at hlink hfault
    exact ⟨hlink, by simp, fun _ => hfault⟩
  · simp [Dev.blankChecked]

theorem Dev.raiseFault_answers (f : PocketFault) : d.link.Answers (d.raiseFault p f).link := by
  rcases d.raiseFault_cases p f with ⟨_, heq⟩ | ⟨_, heq⟩ <;> rw [heq]
  · exact .of_eq rfl
  · exact Dev.raiseCause_answers .fault (d.setPsq p ((d.psq.get p).put f true))

theorem Dev.blankChecked_answers : d.link.Answers (d.blankChecked p slot passed).link := by
  rw [Dev.blankChecked]
  split
  · exact .of_eq (by simp)
  · exact Dev.raiseFault_answers p (d.markBlank p slot false) .writeRetry

end Check

theorem exec_eraseDone {s : State} {p : Pocket} {slot : Fin 16} {purpose : ErasePurpose} {residue : List Host.Cell}
    {page : List Byte} (hflight : s.dev.engine.inFlight = some (.erase p slot purpose))
    (hpage : page = overlay (List.replicate 128 0xFF) residue) :
    exec (.eraseDone residue) s = .next { s with
      array := s.array.setPage (slotPage p slot) page
      dev := (s.dev.endOperation.eraseEnded p slot purpose (erasedPage page)).afterOperation } := by
  have hexec : exec (.eraseDone residue) s = execEraseDone residue s := rfl
  have hblank : pageOf [] = List.replicate 128 0xFF := by decide
  rw [hexec, execEraseDone]
  simp only [hflight, hblank, ← hpage]

/-- A slot's place in the map is not the next slot's. -/
theorem blankMap_set_next (v : Vector Bool 16) (slot : Fin 16) (x : Bool) : (v.set slot x)[slot + 1] = v[slot + 1] := by
  have hne : slot.val ≠ (slot + 1).val := by omega
  exact Vector.getElem_set_ne _ _ hne

/-! ### A FORMAT's erase (R100) -/

section Format
variable {d : Dev} {p : Pocket} {slot next : Fin 16} {failed passed : Bool} {age : Nat}

theorem Dev.formatSlotDone_of_only (hqueue : d.engine.queue = [⟨age, .format p next failed⟩]) :
    d.formatSlotDone p slot passed =
      if slot.val = 15 then d.finishFormat p (failed || !passed) else d.updateFormat p (slot + 1) (failed || !passed) := by
  have hold : d.oldest (Work.isFormatOf p) = some ⟨age, .format p next failed⟩ := by
    simp [Dev.oldest, hqueue, Work.isFormatOf]
  simp [Dev.formatSlotDone, hold]

/-- What a FORMAT that ends leaves: the numbering from the start, no basis and no history, and the reply sent. -/
theorem Dev.finishFormat_spec (p : Pocket) (failed : Bool) (d : Dev) :
    (d.finishFormat p failed).engine = (d.keepEntries fun w => !w.isFormat).engine ∧
    (d.finishFormat p failed).ring.get p = ⟨0, (d.ring.get p).blank, 0, none, 0, none, 0⟩ ∧
    (d.finishFormat p failed).journal.get p = { d.journal.get p with basis := none, history := [] } ∧
    (d.finishFormat p failed).owed .format (some p) = none ∧
    ∀ e, d.owed .format (some p) = some e →
      (⟨0x8B, [if failed then 5 else 0, pocketIndexByte p]⟩ : Reply) ∈ (d.finishFormat p failed).link.transmit := by
  refine ⟨by simp [Dev.finishFormat], by simp [Dev.finishFormat], by simp [Dev.finishFormat], Dev.release_owed, fun e he => ?_⟩
  cases failed <;> exact Dev.release_sent (q := .format) he

theorem Dev.updateFormat_queue (hqueue : d.engine.queue = [⟨age, .format p next failed⟩]) (next' : Fin 16) (failed' : Bool) :
    (d.updateFormat p next' failed').engine = { d.engine with queue := [⟨age, .format p next' failed'⟩] } := by
  simp [Dev.updateFormat, hqueue, Work.isFormatOf]

end Format

/-! ### A selection with no commit to serve -/

section NoCommit
variable {d : Dev} (hfree : d.engine.inFlight = none) (hservice : d.engine.service = none)
include hfree hservice

theorem Dev.select_image_of_no_commit (hnone : d.anyEntry Work.isCommit = false) : d.select.image = d.image := by
  by_cases hr : d.runningFree = true
  · rw [Dev.select_of_no_commit hr hfree hservice hnone]
    split <;> simp
  · simp [Dev.select, hr]

theorem Dev.select_of_empty (hempty : d.engine.queue = []) : d.select = d := by
  by_cases hr : d.runningFree = true
  · rw [Dev.select_of_no_commit hr hfree hservice (by simp [Dev.anyEntry, hempty]), Dev.selectBackground_of_empty hempty,
      ite_self]
  · simp [Dev.select, hr]

/-- A FORMAT entry that is alone goes on with the erase of a slot that is not blank. -/
theorem Dev.select_of_format {p : Pocket} {next : Fin 16} {failed : Bool} {age : Nat} (hr : d.runningFree = true)
    (hpresent : d.bkd.monitor.state = .present) (hqueue : d.engine.queue = [⟨age, .format p next failed⟩])
    (hblank : (d.ring.get p).blank[next] = false) : d.select = d.startOperation (.erase p next .format) := by
  have hno (f : Work → Bool) (hf : f (.format p next failed) = false) : d.anyEntry f = false := by
    simp [Dev.anyEntry, hqueue, hf]
  have hold : d.oldest Work.isFormat = some ⟨age, .format p next failed⟩ := by simp [Dev.oldest, hqueue, Work.isFormat]
  have hsame : d.updateFormat p next failed = d := Dev.updateFormat_of_same fun e he _ => by
    rw [hqueue] at he
    rw [List.mem_singleton.1 he]
  rw [Dev.select_of_present hr hfree hservice (hno _ rfl) hpresent,
    Dev.selectBackground_of_format (hno _ rfl) (hno _ rfl) hold rfl, Dev.formatStep_erase hblank, hsame]

end NoCommit

end Sys2Proof.Machine

namespace Sys2Proof.Proofs

open Sys2Proof.Machine

/-- Settles O31: the blank check, the entry's progress, and the selection after it. -/
theorem formatEnds : Obligations.FormatEnds := by
  unfold Obligations.FormatEnds
  intro s p slot next failed age residue passed hflight hrun hhold hservice hqueue hpassed
  have hexec := exec_eraseDone hflight rfl (residue := residue)
  rw [Dev.eraseEnded_format, ← hpassed] at hexec
  generalize hd : s.dev.endOperation.blankChecked p slot passed = d at hexec
  obtain ⟨hdbkd, hdrun, hdimage, hdjournal, hdplan⟩ : d.bkd = s.dev.bkd ∧ d.run = s.dev.run ∧ d.image = s.dev.image ∧
      d.journal = s.dev.journal ∧ d.plan = s.dev.plan := by
    rw [← hd]
    simp
  have hdengine : d.engine = { s.dev.engine with inFlight := none } := by
    rw [← hd]
    simp
  have hdring : d.ring = s.dev.ring.set p { s.dev.ring.get p with blank := (s.dev.ring.get p).blank.set slot passed } :=
    hd ▸ Dev.blankChecked_ring ..
  have hdanswers : s.dev.link.Answers d.link := hd ▸ Dev.blankChecked_answers p slot passed s.dev.endOperation
  have hddeferred : d.link.deferred = s.dev.link.deferred := by
    rw [← hd, (Dev.blankChecked_link ..).1]
    rfl
  have hdqueue : d.engine.queue = [⟨age, .format p next failed⟩] := by rw [hdengine]; exact hqueue
  have hdidle : d.engine.inFlight = none ∧ d.engine.service = none := by rw [hdengine]; exact ⟨rfl, hservice⟩
  rw [Dev.formatSlotDone_of_only hdqueue] at hexec
  by_cases hslot : slot.val = 15
  · rw [if_pos hslot] at hexec
    obtain ⟨hengine, hring, hjournal, howed, hsent⟩ := d.finishFormat_spec p (failed || !passed)
    have hqueue' : (d.finishFormat p (failed || !passed)).engine = { d.engine with queue := [] } := by
      rw [hengine]
      simp [Dev.keepEntries, hdqueue, Work.isFormat]
    have hidle : (d.finishFormat p (failed || !passed)).engine.inFlight = none ∧
        (d.finishFormat p (failed || !passed)).engine.service = none ∧
        (d.finishFormat p (failed || !passed)).engine.queue = [] := by
      rw [hqueue']
      exact ⟨hdidle.1, hdidle.2, rfl⟩
    rw [Dev.afterOperation_of_run (by simpa [hdrun] using hrun)
      ((hdanswers.trans (d.finishFormat_link p _).answers).resetHold.trans hhold),
      Dev.select_of_empty hidle.1 hidle.2.1 hidle.2.2] at hexec
    obtain rfl : slot = 15 := Fin.ext hslot
    refine ⟨_, hexec, rfl, fun _ => ⟨hidle.1, hidle.2.2, ?_, ?_, fun e he => ⟨hsent e ?_, howed⟩⟩, fun hlt => ?_, ?_, ?_, ?_⟩
    · rw [hring, hdring, Per.set_get_self]
      rfl
    · rw [hjournal, hdjournal]
    · rwa [Dev.owed, hddeferred]
    · exact absurd hslot (Nat.ne_of_lt hlt)
    all_goals simp [hdimage, hdbkd, hdplan]
  · rw [if_neg hslot] at hexec
    have hengine := Dev.updateFormat_queue (p := p) hdqueue (slot + 1) (failed || !passed)
    have hidle : (d.updateFormat p (slot + 1) (failed || !passed)).engine.inFlight = none ∧
        (d.updateFormat p (slot + 1) (failed || !passed)).engine.service = none ∧
        (d.updateFormat p (slot + 1) (failed || !passed)).engine.queue = [⟨age, .format p (slot + 1) (failed || !passed)⟩] := by
      rw [hengine]
      exact ⟨hdidle.1, hdidle.2, rfl⟩
    have hhold' : d.link.resetHold = false := hdanswers.resetHold.trans hhold
    rw [Dev.afterOperation_of_run (by simpa [hdrun] using hrun) (by simpa using hhold')] at hexec
    refine ⟨_, hexec, rfl, fun h => absurd (congrArg Fin.val h) hslot, fun _ hpresent hblank => ?_, ?_, ?_, ?_⟩
    · have hr : (d.updateFormat p (slot + 1) (failed || !passed)).runningFree = true :=
        (Dev.runningFree_iff _).2 ⟨by simpa [hdrun] using hrun, by simpa using hhold'⟩
      have hblank' : ((d.updateFormat p (slot + 1) (failed || !passed)).ring.get p).blank[slot + 1] = false := by
        simpa only [Dev.updateFormat_frame, hdring, Per.set_get_self, blankMap_set_next] using hblank
      rw [Dev.select_of_format hidle.1 hidle.2.1 hr (by simpa [hdbkd] using hpresent) hidle.2.2 hblank']
      exact ⟨rfl, hidle.2.2, by simpa using hdjournal, by simpa using hddeferred⟩
    · rw [Dev.select_image_of_no_commit hidle.1 hidle.2.1 (by simp [Dev.anyEntry, hidle.2.2, Work.isCommit])]
      simpa using hdimage
    all_goals simp [hdbkd, hdplan]

end Sys2Proof.Proofs
end

section
/-! How a commit ends without a record: JOURNAL_FAIL (R93), and the end of a commit of before a loss (R94, R96). -/

namespace Sys2Proof.Machine

/-! ### What an operation of one pocket leaves of the other -/

/-- Every other pocket's sequencer, facts, image, ring and journal are as before. -/
structure Dev.TouchesOnly (p : Pocket) (d d' : Dev) : Prop where
  psq : ∀ q, q ≠ p → d'.psq.get q = d.psq.get q
  facts : ∀ q, q ≠ p → d'.bkd.facts.get q = d.bkd.facts.get q
  image : ∀ q, q ≠ p → d'.image.get q = d.image.get q
  ring : ∀ q, q ≠ p → d'.ring.get q = d.ring.get q
  journal : ∀ q, q ≠ p → d'.journal.get q = d.journal.get q

section TouchesOnly
variable {p : Pocket} {d d' e : Dev}

theorem Dev.TouchesOnly.of_eq (hpsq : d'.psq = d.psq) (hfacts : d'.bkd.facts = d.bkd.facts) (himage : d'.image = d.image)
    (hring : d'.ring = d.ring) (hjournal : d'.journal = d.journal) : d.TouchesOnly p d' :=
  ⟨fun _ _ => by rw [hpsq], fun _ _ => by rw [hfacts], fun _ _ => by rw [himage], fun _ _ => by rw [hring],
    fun _ _ => by rw [hjournal]⟩

theorem Dev.TouchesOnly.trans (h : d.TouchesOnly p d') (h' : d'.TouchesOnly p e) : d.TouchesOnly p e :=
  ⟨fun q hq => (h'.psq q hq).trans (h.psq q hq), fun q hq => (h'.facts q hq).trans (h.facts q hq),
    fun q hq => (h'.image q hq).trans (h.image q hq), fun q hq => (h'.ring q hq).trans (h.ring q hq),
    fun q hq => (h'.journal q hq).trans (h.journal q hq)⟩

theorem Dev.TouchesOnly.spares (h : d.TouchesOnly p d') (hplan : d'.plan = d.plan) (htmb : d'.tmb = d.tmb)
    (hsns : d'.sns = d.sns) : d.sparesOther p d' :=
  fun q hq => ⟨h.psq q hq, h.facts q hq, by rw [hplan], by rw [htmb], by rw [hsns]⟩

/-- A selection after it leaves the other pocket alone likewise, but for its commit. -/
theorem Dev.TouchesOnly.spares_select (h : d.TouchesOnly p d') (hplan : d'.plan = d.plan) (htmb : d'.tmb = d.tmb)
    (hsns : d'.sns = d.sns) : d.sparesOther p d'.select :=
  fun q hq => ⟨by simpa using h.psq q hq, by simpa using h.facts q hq, by simp [hplan], by simp [htmb], by simp [hsns]⟩

end TouchesOnly

/-! ### The closure of a marked pocket (R39, R43) -/

section Closure
variable (p : Pocket) (r : Result) (d : Dev)

theorem Dev.startupClosureEnds_psq :
    (d.startupClosureEnds p).psq = d.psq.set p { d.psq.get p with mark := none } := by
  simp [Dev.startupClosureEnds]

theorem Dev.finishClosure_image : (d.finishClosure p r).image = d.image.set p none := by
  rw [Dev.finishClosure]
  split
  · simp [Dev.startupClosureEnds]
  · exact Dev.closureEffect_image ..

theorem Dev.finishClosure_answers : d.link.Answers (d.finishClosure p r).link := by
  rw [Dev.finishClosure]
  split
  · exact .of_eq (by simp)
  · exact Dev.closureEffect_answers ..

theorem Dev.finishClosure_touchesOnly : d.TouchesOnly p (d.finishClosure p r) := by
  have himage := d.finishClosure_image p r
  refine ⟨fun q hq => ?_, fun q hq => ?_, fun q hq => by rw [himage, Per.set_get_of_ne _ _ hq], fun _ _ => by simp,
    fun _ _ => by simp⟩
  all_goals
    rw [Dev.finishClosure]
    split
  · rw [Dev.startupClosureEnds_psq, Per.set_get_of_ne _ _ hq]
  · rw [Dev.closureEffect_psq, Per.set_get_of_ne _ _ hq]
  · simp
  · rw [Dev.closureEffect_facts, Per.set_get_of_ne _ _ hq]

/-- A closure moves the state, the mark, the choice and the start kind of its pocket, and no fault. -/
theorem Dev.finishClosure_faults :
    ((d.finishClosure p r).psq.get p).advisory = (d.psq.get p).advisory ∧
    ((d.finishClosure p r).psq.get p).blocking = (d.psq.get p).blocking := by
  rw [Dev.finishClosure]
  split
  · simp [Dev.startupClosureEnds_psq]
  · simp [Dev.closureEffect_psq]

theorem Dev.finishClosure_of_vacant (h : (d.psq.get p).state = .vacant) :
    d.finishClosure p r = d.startupClosureEnds p := by
  simp [Dev.finishClosure, h]

theorem Dev.finishClosure_of_not_vacant (h : (d.psq.get p).state ≠ .vacant) :
    d.finishClosure p r = d.closureEffect p r := by
  simp [Dev.finishClosure, h]

/-- A closure that takes effect answers the END that is owed (R39). -/
theorem Dev.closureEffect_sent {e : Deferred} (h : d.owed .endCycle (some p) = some e) :
    (⟨0x85, [r.byte, pocketIndexByte p]⟩ : Reply) ∈ (d.closureEffect p r).link.transmit := by
  have hsent (x : Dev) (hx : x.link = d.link) :
      (⟨0x85, [r.byte, pocketIndexByte p]⟩ : Reply) ∈ (x.release .endCycle (some p) (pocketReply r p [])).link.transmit :=
    Dev.release_sent (q := .endCycle) (e := e) (by rw [Dev.owed, hx]; exact h)
  simp only [Dev.closureEffect]
  (repeat' split) <;> exact hsent _ rfl

end Closure

/-! ### The engine's part of an ERASE that is asked for (R83) -/

section AskErase
variable (p : Pocket) (slot : Fin 16) (d : Dev)

theorem Dev.askErase_engine : (d.askErase p slot).engine = { d.engine with
    queue := (d.askErase p slot).engine.queue, nextAge := (d.askErase p slot).engine.nextAge } := by
  rcases d.askErase_cases p slot with ⟨_, heq⟩ | ⟨_, _, _, heq⟩ <;> rw [heq]
  rfl

theorem Dev.askErase_hasCommit (q : Pocket) : (d.askErase p slot).hasCommit q = d.hasCommit q := by
  rcases d.askErase_cases p slot with ⟨_, heq⟩ | ⟨_, _, _, heq⟩ <;> rw [heq]
  simp [Dev.hasCommit, Dev.anyEntry, Dev.enqueue]

theorem Dev.askErase_isFormatOf (q : Pocket) :
    (d.askErase p slot).anyEntry (Work.isFormatOf q) = d.anyEntry (Work.isFormatOf q) := by
  rcases d.askErase_cases p slot with ⟨_, heq⟩ | ⟨_, _, _, heq⟩ <;> rw [heq]
  simp [Dev.anyEntry, Dev.enqueue, Work.isFormatOf]

end AskErase

/-- What is owed to another request stays. -/
theorem Dev.undefer_owed_other {q q' : Request} {x y : Option Pocket} {d : Dev} (h : q' ≠ q) :
    (d.undefer q x).owed q' y = d.owed q' y := by
  have hfilter : (d.undefer q x).link.deferred = d.link.deferred.filter fun e => !(Deferred.isFor q x e) := rfl
  rw [Dev.owed, hfilter, List.find?_filter]
  refine congrFun (congrArg _ (funext fun e => ?_)) _
  cases hq : Deferred.isFor q' y e with
  | false => simp
  | true =>
    have hreq : e.request = q' := by
      simp only [Deferred.isFor, Bool.and_eq_true, beq_iff_eq] at hq
      exact hq.1
    simp [Deferred.isFor, hreq, h]

theorem Dev.release_owed_other {q q' : Request} {x y : Option Pocket} {bytes : List Byte} {d : Dev} (h : q' ≠ q) :
    (d.release q x bytes).owed q' y = d.owed q' y := by
  rcases d.release_cases q x bytes with ⟨_, heq⟩ | ⟨_, _, heq⟩ <;> rw [heq]
  exact Dev.undefer_owed_other h

/-! ### JOURNAL_FAIL (R93) -/

/-- An image whose commit has ended in JOURNAL_FAIL. -/
def Image.uncommitted (im : Image) : Image :=
  { im with commit := .none, recommit := none, closeReason := none, window := none }

/-- The part after the failure of the commit with this cycle number, before a marked pocket closes. -/
def Dev.commitFailed (p : Pocket) (slot : Fin 16) (cycle : Nat) (failedWrite : Bool) (d : Dev) : Dev :=
  let d1 := d.raiseFault p .journalFail
  let d2 := if failedWrite then d1.askErase p slot else d1
  let d3 := (d2.setRing p { d2.ring.get p with writePos := slot + 1, failures := 0 }).setService none
  let d4 := (d3.release .start (some p) (pocketReply .faulted p (leBytes 2 cycle ++ leBytes 2 0))).release
    .checkpoint (some p) (pocketReply .faulted p [])
  d4.modImage p Image.uncommitted

/-- A marked pocket closes without a record. -/
def Dev.closeMarked (p : Pocket) (d : Dev) : Dev := if (d.psq.get p).mark.isSome then d.finishClosure p .faulted else d

/-- The reply to START carries the cycle of the snapshot, and of the image where no snapshot was taken. -/
theorem Dev.journalFail_eq (p : Pocket) (slot : Fin 16) (snap : Option Snapshot) (failedWrite : Bool) (d : Dev) :
    ∃ cycle, (∀ x, snap = some x → cycle = x.cycle) ∧ (∀ im, snap = none → d.image.get p = some im → cycle = im.cycle) ∧
      d.journalFail p slot snap failedWrite = (d.commitFailed p slot cycle failedWrite).closeMarked p := by
  cases snap with
  | some x => exact ⟨x.cycle, fun _ h => by rw [Option.some.inj h], fun _ h => absurd h (Option.some_ne_none x), rfl⟩
  | none =>
    cases him : d.image.get p with
    | some im =>
      refine ⟨im.cycle, fun _ h => absurd h.symm (Option.some_ne_none _), fun _ _ h => by rw [Option.some.inj h], ?_⟩
      simp only [Dev.journalFail, him]
      rfl
    | none =>
      refine ⟨0, fun _ h => absurd h.symm (Option.some_ne_none _), fun _ _ h => absurd h.symm (Option.some_ne_none _), ?_⟩
      simp only [Dev.journalFail, him]
      rfl

section Failed
variable (p : Pocket) (slot : Fin 16) (cycle : Nat) (failedWrite : Bool) (d : Dev)

/-- The ERASE that the failure of a write asks for. -/
def Dev.failedAsks (p : Pocket) (slot : Fin 16) (failedWrite : Bool) (d : Dev) : Dev :=
  if failedWrite then (d.raiseFault p .journalFail).askErase p slot else d.raiseFault p .journalFail

theorem Dev.commitFailed_parts :
    (d.commitFailed p slot cycle failedWrite).bkd = d.bkd ∧
    (d.commitFailed p slot cycle failedWrite).psq = d.psq.set p ((d.psq.get p).put .journalFail true) ∧
    (d.commitFailed p slot cycle failedWrite).ring = d.ring.set p { d.ring.get p with writePos := slot + 1, failures := 0 } ∧
    (d.commitFailed p slot cycle failedWrite).image = d.image.set p ((d.image.get p).map Image.uncommitted) ∧
    (d.commitFailed p slot cycle failedWrite).journal = d.journal ∧
    (d.commitFailed p slot cycle failedWrite).engine = { (d.failedAsks p slot failedWrite).engine with service := none } := by
  cases failedWrite <;> simp [Dev.commitFailed, Dev.failedAsks, Dev.raiseFault_psq, Dev.modImage, Dev.setService]

/-- Nothing of the link moves but the cause FAULT. -/
theorem Dev.failedAsks_link :
    (d.failedAsks p slot failedWrite).link = (d.raiseFault p .journalFail).link ∧
    (d.failedAsks p slot failedWrite).link.deferred = d.link.deferred := by
  have hlink : (d.failedAsks p slot failedWrite).link = (d.raiseFault p .journalFail).link := by
    rw [Dev.failedAsks]
    split
    · simp
    · rfl
  exact ⟨hlink, by rw [hlink, (d.raiseFault_attention p .journalFail).1]⟩

@[simp] theorem Dev.failedAsks_engine :
    (d.failedAsks p slot failedWrite).engine.inFlight = d.engine.inFlight ∧
    (d.failedAsks p slot failedWrite).engine.service = d.engine.service := by
  rw [Dev.failedAsks]
  split
  · rw [Dev.askErase_engine]
    simp
  · simp

theorem Dev.failedAsks_hasCommit (q : Pocket) : (d.failedAsks p slot failedWrite).hasCommit q = d.hasCommit q := by
  rw [Dev.failedAsks]
  split
  · rw [Dev.askErase_hasCommit]
    simp [Dev.hasCommit, Dev.anyEntry]
  · simp [Dev.hasCommit, Dev.anyEntry]

theorem Dev.failedAsks_isFormatOf (q : Pocket) :
    (d.failedAsks p slot failedWrite).anyEntry (Work.isFormatOf q) = d.anyEntry (Work.isFormatOf q) := by
  rw [Dev.failedAsks]
  split
  · rw [Dev.askErase_isFormatOf]
    simp [Dev.anyEntry]
  · simp [Dev.anyEntry]

/-- The link after the replies to START and CHECKPOINT. -/
theorem Dev.commitFailed_link : ∃ x : Dev, x.link = (d.failedAsks p slot failedWrite).link ∧
    (d.commitFailed p slot cycle failedWrite).link = ((x.release .start (some p) (pocketReply .faulted p
      (leBytes 2 cycle ++ leBytes 2 0))).release .checkpoint (some p) (pocketReply .faulted p [])).link := by
  refine ⟨((d.failedAsks p slot failedWrite).setRing p { (d.failedAsks p slot failedWrite).ring.get p with
    writePos := slot + 1, failures := 0 }).setService none, rfl, ?_⟩
  cases failedWrite <;> rfl

theorem Dev.commitFailed_answers_raised :
    (d.raiseFault p .journalFail).link.Answers (d.commitFailed p slot cycle failedWrite).link := by
  obtain ⟨x, hx, hlink⟩ := d.commitFailed_link p slot cycle failedWrite
  rw [hlink, ← (d.failedAsks_link p slot failedWrite).1, ← hx]
  exact (Dev.release_answers ..).trans (Dev.release_answers ..)

theorem Dev.commitFailed_answers : d.link.Answers (d.commitFailed p slot cycle failedWrite).link :=
  (d.raiseFault_answers p .journalFail).trans (d.commitFailed_answers_raised p slot cycle failedWrite)

/-- A START that waits is answered FAULTED with the cycle, and so is a CHECKPOINT (R34, R72). -/
theorem Dev.commitFailed_sent :
    (∀ e, d.owed .start (some p) = some e →
      (⟨0x82, [5, pocketIndexByte p] ++ leBytes 2 cycle ++ [0, 0]⟩ : Reply) ∈
        (d.commitFailed p slot cycle failedWrite).link.transmit) ∧
    (∀ e, d.owed .checkpoint (some p) = some e →
      (⟨0x84, [5, pocketIndexByte p]⟩ : Reply) ∈ (d.commitFailed p slot cycle failedWrite).link.transmit) ∧
    (d.commitFailed p slot cycle failedWrite).owed .endCycle (some p) = d.owed .endCycle (some p) := by
  obtain ⟨x, hx, hlink⟩ := d.commitFailed_link p slot cycle failedWrite
  have howed (q : Request) : x.owed q (some p) = d.owed q (some p) := by
    rw [Dev.owed, hx, (d.failedAsks_link p slot failedWrite).2]
    rfl
  rw [hlink]
  refine ⟨fun e he => ?_, fun e he => ?_, ?_⟩
  · exact (Dev.release_answers ..).sent.subset (Dev.release_sent (q := .start) ((howed .start).trans he))
  · refine Dev.release_sent (q := .checkpoint) (e := e) ?_
    rw [Dev.release_owed_other (by decide), howed, he]
  · rw [Dev.owed, hlink, ← Dev.owed, Dev.release_owed_other (by decide), Dev.release_owed_other (by decide), howed]

theorem Dev.commitFailed_touchesOnly : d.TouchesOnly p (d.commitFailed p slot cycle failedWrite) := by
  obtain ⟨hbkd, hpsq, hring, himage, hjournal, _⟩ := d.commitFailed_parts p slot cycle failedWrite
  exact ⟨fun q hq => by rw [hpsq, Per.set_get_of_ne _ _ hq], fun q _ => by rw [hbkd],
    fun q hq => by rw [himage, Per.set_get_of_ne _ _ hq], fun q hq => by rw [hring, Per.set_get_of_ne _ _ hq],
    fun q _ => by rw [hjournal]⟩

/-- What is left where JOURNAL_FAIL ends the commit of an unmarked pocket, and of a marked one. -/
theorem Dev.closeMarked_of_unmarked {d : Dev} {p : Pocket} (h : (d.psq.get p).mark = none) : d.closeMarked p = d := by
  simp [Dev.closeMarked, h]

theorem Dev.closeMarked_of_marked {d : Dev} {p : Pocket} (h : (d.psq.get p).mark ≠ none) :
    d.closeMarked p = d.finishClosure p .faulted := by
  simp [Dev.closeMarked, Option.isSome_iff_ne_none.2 h]

theorem Dev.closeMarked_answers (d : Dev) : d.link.Answers (d.closeMarked p).link := by
  rw [Dev.closeMarked]
  split
  · exact Dev.finishClosure_answers ..
  · exact .of_eq rfl

theorem Dev.closeMarked_touchesOnly (d : Dev) : d.TouchesOnly p (d.closeMarked p) := by
  rw [Dev.closeMarked]
  split
  · exact Dev.finishClosure_touchesOnly ..
  · exact .of_eq rfl rfl rfl rfl rfl

theorem Dev.closeMarked_faults (d : Dev) :
    ((d.closeMarked p).psq.get p).advisory = (d.psq.get p).advisory ∧
    ((d.closeMarked p).psq.get p).blocking = (d.psq.get p).blocking := by
  rw [Dev.closeMarked]
  split
  · exact Dev.finishClosure_faults ..
  · exact ⟨rfl, rfl⟩

@[simp] theorem Dev.closeMarked_frame (d : Dev) :
    (d.closeMarked p).engine = d.engine ∧ (d.closeMarked p).ring = d.ring := by
  rw [Dev.closeMarked]
  split <;> simp

end Failed

section JournalFail
variable (p : Pocket) (slot : Fin 16) (snap : Option Snapshot) (failedWrite : Bool) (d : Dev)

theorem Dev.journalFail_answers : d.link.Answers (d.journalFail p slot snap failedWrite).link := by
  obtain ⟨cycle, _, _, heq⟩ := d.journalFail_eq p slot snap failedWrite
  rw [heq]
  exact (d.commitFailed_answers p slot cycle failedWrite).trans (Dev.closeMarked_answers ..)

theorem Dev.journalFail_touchesOnly : d.TouchesOnly p (d.journalFail p slot snap failedWrite) := by
  obtain ⟨cycle, _, _, heq⟩ := d.journalFail_eq p slot snap failedWrite
  rw [heq]
  exact (d.commitFailed_touchesOnly p slot cycle failedWrite).trans (Dev.closeMarked_touchesOnly ..)

theorem Dev.journalFail_ring : (d.journalFail p slot snap failedWrite).ring =
    d.ring.set p { d.ring.get p with writePos := slot + 1, failures := 0 } := by
  obtain ⟨cycle, _, _, heq⟩ := d.journalFail_eq p slot snap failedWrite
  simp [heq, d.commitFailed_parts p slot cycle failedWrite]

theorem Dev.journalFail_engine : (d.journalFail p slot snap failedWrite).engine =
    { (d.failedAsks p slot failedWrite).engine with service := none } := by
  obtain ⟨cycle, _, _, heq⟩ := d.journalFail_eq p slot snap failedWrite
  simp [heq, d.commitFailed_parts p slot cycle failedWrite]

theorem Dev.journalFail_faults :
    ((d.journalFail p slot snap failedWrite).psq.get p).advisory = (d.psq.get p).advisory ∧
    ((d.journalFail p slot snap failedWrite).psq.get p).blocking.journalFail = true := by
  obtain ⟨cycle, _, _, heq⟩ := d.journalFail_eq p slot snap failedWrite
  obtain ⟨_, hpsq, _⟩ := d.commitFailed_parts p slot cycle failedWrite
  rw [heq, (Dev.closeMarked_faults ..).1, (Dev.closeMarked_faults ..).2, hpsq, Per.set_get_self]
  exact ⟨rfl, rfl⟩

/-- A new JOURNAL_FAIL raises FAULT (R56). -/
theorem Dev.journalFail_raises (h : (d.psq.get p).blocking.journalFail = false) :
    (d.journalFail p slot snap failedWrite).link.attention.fault = true := by
  obtain ⟨cycle, _, _, heq⟩ := d.journalFail_eq p slot snap failedWrite
  rw [heq]
  exact (Dev.closeMarked_answers ..).causes.fault
    ((d.commitFailed_answers_raised p slot cycle failedWrite).causes.fault ((d.raiseFault_attention p .journalFail).2 h))

/-- An unmarked pocket keeps its items, its image without an entry (R93). -/
theorem Dev.journalFail_of_unmarked (h : (d.psq.get p).mark = none) :
    (d.journalFail p slot snap failedWrite).bkd = d.bkd ∧
    (d.journalFail p slot snap failedWrite).psq = d.psq.set p ((d.psq.get p).put .journalFail true) ∧
    (d.journalFail p slot snap failedWrite).image = d.image.set p ((d.image.get p).map Image.uncommitted) := by
  obtain ⟨cycle, _, _, heq⟩ := d.journalFail_eq p slot snap failedWrite
  obtain ⟨hbkd, hpsq, _, himage, _⟩ := d.commitFailed_parts p slot cycle failedWrite
  rw [heq, Dev.closeMarked_of_unmarked (by rw [hpsq, Per.set_get_self]; exact h)]
  exact ⟨hbkd, hpsq, himage⟩

/-- A marked pocket closes without a record (R39, R93). -/
theorem Dev.journalFail_of_marked (h : (d.psq.get p).mark ≠ none) (hstate : (d.psq.get p).state ≠ .vacant) :
    ((d.journalFail p slot snap failedWrite).psq.get p).state = .vacant ∧
    ((d.journalFail p slot snap failedWrite).psq.get p).mark = none ∧
    (d.journalFail p slot snap failedWrite).image.get p = none ∧
    (d.journalFail p slot snap failedWrite).bkd.facts.get p = .clear ∧
    ∀ e, d.owed .endCycle (some p) = some e →
      (⟨0x85, [5, pocketIndexByte p]⟩ : Reply) ∈ (d.journalFail p slot snap failedWrite).link.transmit := by
  obtain ⟨cycle, _, _, heq⟩ := d.journalFail_eq p slot snap failedWrite
  obtain ⟨_, hpsq, _⟩ := d.commitFailed_parts p slot cycle failedWrite
  have hsame : ((d.commitFailed p slot cycle failedWrite).psq.get p).mark = (d.psq.get p).mark ∧
      ((d.commitFailed p slot cycle failedWrite).psq.get p).state = (d.psq.get p).state := by
    rw [hpsq, Per.set_get_self]
    exact ⟨rfl, rfl⟩
  rw [heq, Dev.closeMarked_of_marked (by rwa [hsame.1]), Dev.finishClosure_of_not_vacant _ _ _ (by rwa [hsame.2])]
  refine ⟨by simp [Dev.closureEffect_psq], by simp [Dev.closureEffect_psq], by simp [Dev.closureEffect_image],
    by simp [Dev.closureEffect_facts], fun e he => Dev.closureEffect_sent (r := .faulted) p _ (e := e) ?_⟩
  exact (d.commitFailed_sent p slot cycle failedWrite).2.2.trans he

/-- The replies to START and CHECKPOINT carry FAULTED. -/
theorem Dev.journalFail_sent :
    (∀ e, d.owed .start (some p) = some e → ∃ cycle, (∀ x, snap = some x → cycle = x.cycle) ∧
      (∀ im, snap = none → d.image.get p = some im → cycle = im.cycle) ∧
      (⟨0x82, [5, pocketIndexByte p] ++ leBytes 2 cycle ++ [0, 0]⟩ : Reply) ∈
        (d.journalFail p slot snap failedWrite).link.transmit) ∧
    (∀ e, d.owed .checkpoint (some p) = some e →
      (⟨0x84, [5, pocketIndexByte p]⟩ : Reply) ∈ (d.journalFail p slot snap failedWrite).link.transmit) := by
  obtain ⟨cycle, hsome, hnone, heq⟩ := d.journalFail_eq p slot snap failedWrite
  obtain ⟨hstart, hcheckpoint, _⟩ := d.commitFailed_sent p slot cycle failedWrite
  rw [heq]
  exact ⟨fun e he => ⟨cycle, hsome, hnone, (Dev.closeMarked_answers ..).sent.subset (hstart e he)⟩,
    fun e he => (Dev.closeMarked_answers ..).sent.subset (hcheckpoint e he)⟩

end JournalFail

/-! ### The end of a commit of before a loss (R94, R96) -/

/-- The image of a commit that ends without a record: the close reason of a CLOSE goes, and the recommit request queues
its entry. -/
def Image.endedUnwritten (kind : Kind) (im : Image) : Image :=
  { im with
    commit := (im.recommit.map CommitStatus.queued).getD .none, recommit := none
    closeReason := if kind = .close then none else im.closeReason }

section EndWithoutRecord
variable (p : Pocket) (kind : Kind) (d : Dev)

/-- The part once the service and the mark of a CLOSE are gone. -/
def Dev.unserved (p : Pocket) (kind : Kind) (d : Dev) : Dev :=
  let d1 := (d.setRing p { d.ring.get p with failures := 0 }).setService none
  if kind = .close then d1.dropMark p else d1

theorem Dev.unserved_parts :
    (d.unserved p kind).ring = d.ring.set p { d.ring.get p with failures := 0 } ∧
    (d.unserved p kind).engine = { d.engine with service := none } ∧
    (d.unserved p kind).psq = d.psq.set p { d.psq.get p with
      mark := if kind = .close then none else (d.psq.get p).mark } ∧
    (d.unserved p kind).image = d.image.set p ((d.image.get p).map fun im => { im with
      closeReason := if kind = .close then none else im.closeReason }) := by
  by_cases hk : kind = .close
  · simp [Dev.unserved, hk, Dev.dropMark, Dev.setService, Dev.modImage]
  · simp [Dev.unserved, hk, Dev.setService]
    exact (Per.set_get_same _ _).symm

/-- The commit status and the entry come after that. -/
theorem Dev.unserved_eq : (if kind = .close then ((d.setRing p { d.ring.get p with failures := 0 }).setService none).dropMark p
    else (d.setRing p { d.ring.get p with failures := 0 }).setService none) = d.unserved p kind := rfl

theorem Dev.endWithoutRecord_of_none (him : d.image.get p = none) : d.endWithoutRecord p kind = d.unserved p kind := by
  have himage : (d.unserved p kind).image.get p = none := by simp [(d.unserved_parts p kind).2.2.2, him]
  simp only [Dev.endWithoutRecord, Dev.unserved_eq, himage]

theorem Dev.endWithoutRecord_of_some {im : Image} (him : d.image.get p = some im) :
    d.endWithoutRecord p kind = if im.recommit = none then (d.unserved p kind).setImage p (some (im.endedUnwritten kind))
      else ((d.unserved p kind).setImage p (some (im.endedUnwritten kind))).enqueue (.commit p) := by
  have himage : (d.unserved p kind).image.get p = some { im with
      closeReason := if kind = .close then none else im.closeReason } := by
    simp [(d.unserved_parts p kind).2.2.2, him]
  simp only [Dev.endWithoutRecord, Dev.unserved_eq, himage]
  cases hr : im.recommit <;> simp [Image.endedUnwritten, hr]

/-- The image loses its commit, or queues its recommit request; nothing of the other pocket moves. -/
theorem Dev.endWithoutRecord_parts :
    (d.endWithoutRecord p kind).ring = d.ring.set p { d.ring.get p with failures := 0 } ∧
    (d.endWithoutRecord p kind).psq = d.psq.set p { d.psq.get p with
      mark := if kind = .close then none else (d.psq.get p).mark } ∧
    (d.endWithoutRecord p kind).image = d.image.set p ((d.image.get p).map (Image.endedUnwritten kind)) ∧
    (d.endWithoutRecord p kind).engine.inFlight = d.engine.inFlight ∧
    (d.endWithoutRecord p kind).engine.service = none := by
  obtain ⟨hring, hengine, hpsq, himage⟩ := d.unserved_parts p kind
  cases him : d.image.get p with
  | none =>
    rw [d.endWithoutRecord_of_none p kind him]
    simp [hring, hengine, hpsq, himage, him]
  | some im =>
    rw [d.endWithoutRecord_of_some p kind him]
    split <;> simp [hring, hengine, hpsq, himage, Per.set_set, Dev.enqueue]

/-- An entry is queued exactly for a recommit request. -/
theorem Dev.endWithoutRecord_hasCommit :
    (∀ q, q ≠ p → (d.endWithoutRecord p kind).hasCommit q = d.hasCommit q) ∧
    (∀ im k, d.image.get p = some im → im.recommit = some k → (d.endWithoutRecord p kind).hasCommit p = true) ∧
    (∀ im, d.image.get p = some im → im.recommit = none → (d.endWithoutRecord p kind).hasCommit p = d.hasCommit p) := by
  have hsame (q : Pocket) : (d.unserved p kind).hasCommit q = d.hasCommit q := by
    rw [Dev.hasCommit, Dev.anyEntry, (d.unserved_parts p kind).2.1]
    rfl
  have hjoin (x : Dev) (q : Pocket) : (x.enqueue (.commit p)).hasCommit q = (x.hasCommit q || p == q) := by
    have hwork : (Work.commit p == .commit q) = (p == q) := by
      rw [Bool.eq_iff_iff]
      simp
    simp [Dev.hasCommit, Dev.anyEntry, Dev.enqueue, hwork]
  refine ⟨fun q hq => ?_, fun im k him hr => ?_, fun im him hr => ?_⟩
  · cases him : d.image.get p with
    | none => rw [d.endWithoutRecord_of_none p kind him, hsame]
    | some im =>
      rw [d.endWithoutRecord_of_some p kind him]
      split
      · exact hsame q
      · rw [hjoin, Bool.or_eq_left_iff_imp.2 fun h => absurd (beq_iff_eq.1 h).symm hq]
        exact hsame q
  · rw [d.endWithoutRecord_of_some p kind him, if_neg (by simp [hr]), hjoin]
    simp
  · rw [d.endWithoutRecord_of_some p kind him, if_pos hr]
    exact hsame p

theorem Dev.endWithoutRecord_touchesOnly : d.TouchesOnly p (d.endWithoutRecord p kind) := by
  obtain ⟨hring, hpsq, himage, _, _⟩ := d.endWithoutRecord_parts p kind
  exact ⟨fun q hq => by rw [hpsq, Per.set_get_of_ne _ _ hq], fun q _ => by simp,
    fun q hq => by rw [himage, Per.set_get_of_ne _ _ hq], fun q hq => by rw [hring, Per.set_get_of_ne _ _ hq],
    fun q _ => by simp⟩

end EndWithoutRecord

end Sys2Proof.Machine
end

section
/-! The service of a commit, and what a selection leaves of a pocket that has no commit to serve (R85, R88). -/

namespace Sys2Proof.Machine

/-! ### The commit in service -/

section Service
variable {d : Dev} {p : Pocket} {v : Service}

theorem Dev.select_of_service (hr : d.runningFree = true) (hfree : d.engine.inFlight = none)
    (hservice : d.engine.service = some v) : d.select = d.serve v := by
  simp [Dev.select, hr, hfree, hservice]

theorem Dev.serve_of_writable (h : d.writable v.pocket) : d.serve v = d.writeStart v := if_pos h

theorem Dev.serve_of_not_writable (h : ¬d.writable v.pocket) :
    d.serve v = { d with engine := { d.engine with
      inFlight := some (.erase v.pocket (d.ring.get v.pocket).writePos .target), service := some v
      queue := d.engine.queue.filter fun e => e.work != .erase v.pocket (d.ring.get v.pocket).writePos } } := if_neg h

theorem Dev.writeStart_of_queued {im : Image} {k : Kind} (him : d.image.get p = some im) (hc : im.commit = .queued k) :
    d.writeStart ⟨p, none⟩ = (d.setImage p (some (im.taken k))).writeSnapshot p (im.snapshot k) := by
  simp [Dev.writeStart, him, hc]

theorem Dev.writeStart_of_retry (snap : Snapshot) : d.writeStart ⟨p, some snap⟩ = d.writeSnapshot p snap := rfl

/-- A write of a snapshot: the next number, the slot no longer blank, and nothing of the other pocket. -/
theorem Dev.writeSnapshot_parts (p : Pocket) (snap : Snapshot) (d : Dev) :
    (d.writeSnapshot p snap).engine.inFlight =
      some (.write p (d.ring.get p).writePos snap ((d.ring.get p).lastSeq + 1) false) ∧
    (d.writeSnapshot p snap).ring = d.ring.set p { d.ring.get p with
      lastSeq := (d.ring.get p).lastSeq + 1, blank := (d.ring.get p).blank.set (d.ring.get p).writePos false } ∧
    (d.writeSnapshot p snap).engine.service = some ⟨p, some snap⟩ ∧
    (d.writeSnapshot p snap).engine.queue = d.engine.queue ∧ (d.writeSnapshot p snap).image = d.image :=
  ⟨rfl, rfl, rfl, rfl, rfl⟩

end Service

/-! ### What the service of one pocket leaves -/

section ServeLeaves
variable (v : Service) (d : Dev)

/-- The ways a write starts: with a snapshot, or not at all. -/
theorem Dev.writeStart_cases : (∃ (snap : Snapshot) (x : Option Image),
      d.writeStart v = (d.setImage v.pocket x).writeSnapshot v.pocket snap) ∨ d.writeStart v = d.setService none := by
  obtain ⟨p, snap⟩ := v
  cases snap with
  | some snap =>
    refine .inl ⟨snap, d.image.get p, ?_⟩
    rw [Dev.writeStart_of_retry, Dev.setImage, Per.set_get_same]
  | none =>
    cases him : d.image.get p with
    | none => exact .inr (by simp [Dev.writeStart, him])
    | some im =>
      cases hc : im.commit with
      | queued k => exact .inl ⟨im.snapshot k, _, Dev.writeStart_of_queued him hc⟩
      | none => exact .inr (by simp [Dev.writeStart, him, hc])
      | inFlight k => exact .inr (by simp [Dev.writeStart, him, hc])

theorem Dev.serve_ring_other {q : Pocket} (hq : q ≠ v.pocket) : (d.serve v).ring.get q = d.ring.get q := by
  by_cases h : d.writable v.pocket
  · rw [Dev.serve_of_writable h]
    rcases d.writeStart_cases v with ⟨snap, x, heq⟩ | heq <;> rw [heq]
    · exact Per.set_get_of_ne _ _ hq
    · rfl
  · rw [Dev.serve_of_not_writable h]

/-- The commit in service is of the same pocket, if any. -/
theorem Dev.serve_service {w : Service} (h : (d.serve v).engine.service = some w) : w.pocket = v.pocket := by
  by_cases hw : d.writable v.pocket
  · rw [Dev.serve_of_writable hw] at h
    rcases d.writeStart_cases v with ⟨snap, x, heq⟩ | heq <;> rw [heq] at h
    · obtain rfl := Option.some.inj h
      rfl
    · exact absurd h.symm (Option.some_ne_none w)
  · rw [Dev.serve_of_not_writable hw] at h
    exact congrArg Service.pocket (Option.some.inj h).symm

theorem Dev.serve_queue : ∀ e ∈ (d.serve v).engine.queue, e ∈ d.engine.queue := by
  by_cases h : d.writable v.pocket
  · rw [Dev.serve_of_writable h]
    rcases d.writeStart_cases v with ⟨snap, x, heq⟩ | heq <;> rw [heq] <;> exact fun _ he => he
  · rw [Dev.serve_of_not_writable h]
    exact fun e he => (List.mem_filter.1 he).1

end ServeLeaves

/-! ### A selection with no commit in service -/

theorem Dev.select_cases (d : Dev) (hservice : d.engine.service = none) :
    d.select = d ∨ (∃ e q, e ∈ d.engine.queue ∧ e.work = .commit q ∧ d.select = (d.dequeue e).serve ⟨q, none⟩) ∨
    d.select = d.selectBackground := by
  by_cases hr : d.runningFree = true
  · cases hfree : d.engine.inFlight with
    | some op => exact .inl (Dev.select_of_busy (.inr (by simp [hfree])))
    | none =>
      cases hold : d.oldest Work.isCommit with
      | none =>
        have hnone : d.anyEntry Work.isCommit = false := List.any_eq_false.2 (List.find?_eq_none.1 hold)
        rw [Dev.select_of_no_commit hr hfree hservice hnone]
        split
        · exact .inr (.inr rfl)
        · exact .inl rfl
      | some e =>
        obtain ⟨hcommit, hmem⟩ := Dev.oldest_some hold
        cases hw : e.work with
        | commit q => exact .inr (.inl ⟨e, q, hmem, hw, Dev.select_of_commit hr hfree hservice hold hw⟩)
        | _ => simp [hw, Work.isCommit] at hcommit
  · exact .inl (by simp [Dev.select, hr])

/-- An entry that is no FORMAT entry is only ever taken out. -/
theorem Dev.formatStep_queue (d : Dev) (p : Pocket) (failed : Bool) (l : List (Fin 16)) :
    ∀ e ∈ (Dev.formatStep p failed l d).engine.queue, e.work.isFormat = false → e ∈ d.engine.queue := by
  induction l with
  | nil =>
    intro e he _
    rw [Dev.formatStep, (d.finishFormat_spec p failed).1] at he
    exact (List.mem_filter.1 he).1
  | cons i l ih =>
    rw [Dev.formatStep]
    split
    · exact ih
    · intro e he hformat
      obtain ⟨x, hx, rfl⟩ := List.mem_map.1 he
      split at hformat
      · simp [Work.isFormat] at hformat
      · next h => rwa [if_neg h]

theorem Dev.formatStep_service (d : Dev) (p : Pocket) (failed : Bool) (l : List (Fin 16)) :
    (Dev.formatStep p failed l d).engine.service = d.engine.service := by
  induction l with
  | nil =>
    rw [Dev.formatStep, (d.finishFormat_spec p failed).1]
    rfl
  | cons i l ih =>
    rw [Dev.formatStep]
    split
    · exact ih
    · rfl

/-- The PARAM entry or the oldest ERASE entry leaves the queue for its operation, or a FORMAT entry goes on. -/
theorem Dev.selectBackground_cases (d : Dev) : d.selectBackground = d ∨
    (∃ e op, (e.work.isErase = false ∨ ∃ q slot, e.work = .erase q slot ∧ op = .erase q slot .entry) ∧
      d.selectBackground = (d.dequeue e).startOperation op) ∨
    d.oldest Work.isErase = none ∧ ∃ q failed l, d.selectBackground = Dev.formatStep q failed l d := by
  unfold Dev.selectBackground
  split
  · split
    · next hw => exact .inr (.inl ⟨_, _, .inl (by simp [hw, Work.isErase]), rfl⟩)
    all_goals exact .inl rfl
  · split
    · split
      · next hw => exact .inr (.inl ⟨_, _, .inr ⟨_, _, hw, rfl⟩, rfl⟩)
      all_goals exact .inl rfl
    · next herase =>
      split
      · split
        · exact .inr (.inr ⟨herase, _, _, _, rfl⟩)
        all_goals exact .inl rfl
      · exact .inl rfl

theorem Dev.selectBackground_queue (d : Dev) :
    (∀ e ∈ d.selectBackground.engine.queue, e.work.isFormat = false → e ∈ d.engine.queue) ∧
    d.selectBackground.engine.service = d.engine.service := by
  rcases d.selectBackground_cases with heq | ⟨x, op, _, heq⟩ | ⟨_, q, failed, l, heq⟩ <;> rw [heq]
  · exact ⟨fun _ he _ => he, rfl⟩
  · exact ⟨fun e he _ => List.mem_of_mem_erase he, rfl⟩
  · exact ⟨d.formatStep_queue q failed l, d.formatStep_service q failed l⟩

section Absent
variable {d : Dev} {p : Pocket} (hservice : d.engine.service = none)
include hservice

theorem Dev.select_queue : ∀ e ∈ d.select.engine.queue, e.work.isFormat = false → e ∈ d.engine.queue := by
  rcases d.select_cases hservice with heq | ⟨x, q, _, _, heq⟩ | heq <;> rw [heq]
  · exact fun _ he _ => he
  · exact fun e he _ => List.mem_of_mem_erase (Dev.serve_queue _ _ e he)
  · exact d.selectBackground_queue.1

/-- No entry appears in a selection, but for a FORMAT entry that moves on. -/
theorem Dev.select_anyEntry {w : Work} (hw : w.isFormat = false) (h : d.select.anyEntry (· == w) = true) :
    d.anyEntry (· == w) = true := by
  obtain ⟨e, he, heq⟩ := List.any_eq_true.1 h
  obtain rfl := beq_iff_eq.1 heq
  exact List.any_eq_true.2 ⟨e, Dev.select_queue hservice e he hw, heq⟩

variable (hno : d.hasCommit p = false)
include hno

theorem Dev.select_hasCommit_of_absent : d.select.hasCommit p = false :=
  Bool.eq_false_iff.2 fun h => Bool.eq_false_iff.1 hno (Dev.select_anyEntry hservice rfl h)

omit hservice in
theorem Dev.select_served_of_absent {e : Entry} {q : Pocket} (he : e ∈ d.engine.queue) (hw : e.work = .commit q) : p ≠ q := by
  rintro rfl
  exact absurd (by simp [hw]) (List.any_eq_false.1 hno e he)

/-- The commit that a selection takes into service is another pocket's. -/
theorem Dev.select_service_of_absent {v : Service} (h : d.select.engine.service = some v) : v.pocket ≠ p := by
  rcases d.select_cases hservice with heq | ⟨e, q, he, hw, heq⟩ | heq <;> rw [heq] at h
  · exact absurd (hservice.symm.trans h) (Option.some_ne_none v).symm
  · rw [Dev.serve_service _ _ h]
    exact (Dev.select_served_of_absent hno he hw).symm
  · rw [d.selectBackground_queue.2, hservice] at h
    exact absurd h.symm (Option.some_ne_none v)

/-- The ring of a pocket without a commit and without a FORMAT entry is as before. -/
theorem Dev.select_ring_of_absent (hformat : d.anyEntry (Work.isFormatOf p) = false) :
    d.select.ring.get p = d.ring.get p := by
  rcases d.select_cases hservice with heq | ⟨e, q, he, hw, heq⟩ | heq <;> rw [heq]
  · exact (Dev.serve_ring_other ⟨q, none⟩ _ (Dev.select_served_of_absent hno he hw)).trans (by simp)
  · exact (Dev.selectBackground_other p d hformat).1

end Absent

end Sys2Proof.Machine
end

section
/-! The end of an erase (O30). -/

namespace Sys2Proof.Machine

/-! ### A selection with no commit keeps the blank map -/

theorem Dev.finishFormat_blank (p q : Pocket) (failed : Bool) (d : Dev) :
    ((d.finishFormat p failed).ring.get q).blank = (d.ring.get q).blank := by
  by_cases hq : q = p
  · rw [hq, (d.finishFormat_spec p failed).2.1]
  · simp [Dev.finishFormat, Per.set_get_of_ne _ _ hq]

theorem Dev.formatStep_blank (q p : Pocket) (failed : Bool) (l : List (Fin 16)) (d : Dev) :
    ((Dev.formatStep q failed l d).ring.get p).blank = (d.ring.get p).blank := by
  induction l with
  | nil => exact d.finishFormat_blank q p failed
  | cons i l ih =>
    rw [Dev.formatStep]
    split
    · exact ih
    · rfl

theorem Dev.select_blank_of_no_commit {d : Dev} {p : Pocket} (hservice : d.engine.service = none)
    (hnone : d.anyEntry Work.isCommit = false) : (d.select.ring.get p).blank = (d.ring.get p).blank := by
  rcases d.select_cases hservice with heq | ⟨e, q, he, hw, _⟩ | heq
  · rw [heq]
  · exact absurd (by simp [hw, Work.isCommit]) (List.any_eq_false.1 hnone e he)
  · rw [heq]
    rcases d.selectBackground_cases with heq | ⟨x, op, _, heq⟩ | ⟨_, q, failed, l, heq⟩ <;> rw [heq]
    · rfl
    · exact d.formatStep_blank q p failed l

/-! ### A slot of a FORMAT entry is done -/

theorem Dev.formatSlotDone_cases (p : Pocket) (slot : Fin 16) (passed : Bool) (d : Dev) :
    d.formatSlotDone p slot passed = d ∨
    (∃ failed, d.formatSlotDone p slot passed = d.finishFormat p failed) ∨
    ∃ next failed, d.formatSlotDone p slot passed = d.updateFormat p next failed := by
  unfold Dev.formatSlotDone
  split
  · exact .inl rfl
  · split
    · split
      · exact .inr (.inl ⟨_, rfl⟩)
      · exact .inr (.inr ⟨_, _, rfl⟩)
    all_goals exact .inl rfl

/-- Without a FORMAT entry of the pocket there is nothing to move. -/
theorem Dev.formatSlotDone_of_none {p : Pocket} {slot : Fin 16} {passed : Bool} {d : Dev}
    (h : d.anyEntry (Work.isFormatOf p) = false) : d.formatSlotDone p slot passed = d := by
  simp [Dev.formatSlotDone, Dev.oldest_of_none h]

theorem Dev.updateFormat_anyEntry {f : Work → Bool} {p : Pocket} {next : Fin 16} {failed : Bool} {d : Dev}
    (hf : ∀ w : Work, w.isFormat = true → f w = false) (h : d.anyEntry f = false) :
    (d.updateFormat p next failed).anyEntry f = false := by
  rw [Dev.anyEntry, List.any_eq_false] at h ⊢
  intro e he
  obtain ⟨x, hx, rfl⟩ := List.mem_map.1 he
  split
  · simp [hf (.format p next failed) rfl]
  · exact h x hx

theorem Dev.formatSlotDone_idle (p : Pocket) (slot : Fin 16) (passed : Bool) (d : Dev) :
    (d.formatSlotDone p slot passed).engine.inFlight = d.engine.inFlight ∧
    (d.formatSlotDone p slot passed).engine.service = d.engine.service ∧
    (d.anyEntry Work.isCommit = false → (d.formatSlotDone p slot passed).anyEntry Work.isCommit = false) ∧
    ∀ q, ((d.formatSlotDone p slot passed).ring.get q).blank = (d.ring.get q).blank := by
  rcases d.formatSlotDone_cases p slot passed with heq | ⟨failed, heq⟩ | ⟨next, failed, heq⟩ <;> rw [heq]
  · exact ⟨rfl, rfl, id, fun _ => rfl⟩
  · have hengine := (d.finishFormat_spec p failed).1
    refine ⟨by rw [hengine]; rfl, by rw [hengine]; rfl, fun h => ?_, fun q => d.finishFormat_blank p q failed⟩
    rw [Dev.anyEntry, hengine, List.any_eq_false]
    exact fun e he => List.any_eq_false.1 h e (List.mem_filter.1 he).1
  · refine ⟨rfl, rfl, Dev.updateFormat_anyEntry fun w hw => ?_, fun _ => rfl⟩
    cases w <;> simp_all [Work.isFormat, Work.isCommit]

/-! ### The end of a target erase (R91, R94) -/

theorem Dev.retryAtLoss_of_run {d : Dev} (hrun : d.run = .run) : d.retryAtLoss = none := by
  simp [Dev.retryAtLoss, hrun]

theorem Dev.retryAtLoss_of_loss {d : Dev} (hrun : d.run = .lossCommit) :
    (d.engine.service = none → d.retryAtLoss = none) ∧
    ∀ v, d.engine.service = some v → d.retryAtLoss = v.snapshot :=
  ⟨fun h => by simp [Dev.retryAtLoss, hrun, h], fun v h => by simp [Dev.retryAtLoss, hrun, h]⟩

section Target
variable {d : Dev} {p : Pocket} {slot : Fin 16}

theorem Dev.targetErasePassed_of_none (h : d.retryAtLoss = none) : d.targetErasePassed p = d := by
  simp [Dev.targetErasePassed, h]

theorem Dev.targetErasePassed_of_retry {snap : Snapshot} (h : d.retryAtLoss = some snap) :
    d.targetErasePassed p = d.endWithoutRecord p snap.kind := by
  simp [Dev.targetErasePassed, h]

theorem Dev.targetEraseFailed_of_first (h : d.retryAtLoss = none) (hfailures : (d.ring.get p).failures = 0) :
    d.targetEraseFailed p slot = d.setRing p { d.ring.get p with writePos := slot + 1, failures := 1 } := by
  simp [Dev.targetEraseFailed, h, hfailures]

/-- The second failure of a commit ends it (R93): its entry goes, and its snapshot is the one in service. -/
theorem Dev.targetEraseFailed_of_second (h : d.retryAtLoss = none) (hfailures : (d.ring.get p).failures ≠ 0) :
    ∃ snap, (∀ v, d.engine.service = some v → snap = v.snapshot) ∧
      d.targetEraseFailed p slot = (d.keepEntries fun w => w != .commit p).journalFail p slot snap false := by
  cases hs : d.engine.service with
  | none => exact ⟨none, fun _ h => absurd h.symm (Option.some_ne_none _), by simp [Dev.targetEraseFailed, h, hfailures, hs]⟩
  | some v => exact ⟨v.snapshot, fun _ h => by rw [Option.some.inj h], by simp [Dev.targetEraseFailed, h, hfailures, hs]⟩

theorem Dev.targetEraseFailed_of_retry {snap : Snapshot} (h : d.retryAtLoss = some snap) :
    d.targetEraseFailed p slot =
      (d.setRing p { d.ring.get p with writePos := slot + 1 }).endWithoutRecord p snap.kind := by
  simp [Dev.targetEraseFailed, h]

end Target

/-! ### The outcome of an erase -/

section Outcome
variable (p : Pocket) (slot : Fin 16) (purpose : ErasePurpose) (passed : Bool) (d : Dev)

theorem Dev.eraseEnded_target : d.eraseEnded p slot .target passed =
    if passed then (d.blankChecked p slot passed).targetErasePassed p
    else (d.blankChecked p slot passed).targetEraseFailed p slot := rfl

/-- What follows the blank check, where no retry waits at a loss. -/
theorem Dev.eraseEnded_cases (h : (d.blankChecked p slot passed).retryAtLoss = none) :
    d.eraseEnded p slot purpose passed = d.blankChecked p slot passed ∨
    (∃ failed, d.eraseEnded p slot purpose passed = (d.blankChecked p slot passed).finishFormat p failed) ∨
    (∃ next failed, d.eraseEnded p slot purpose passed = (d.blankChecked p slot passed).updateFormat p next failed) ∨
    (passed = false ∧ d.eraseEnded p slot purpose passed = (d.blankChecked p slot passed).setRing p
      { (d.blankChecked p slot passed).ring.get p with writePos := slot + 1, failures := 1 }) ∨
    (passed = false ∧ ∃ snap, d.eraseEnded p slot purpose passed =
      ((d.blankChecked p slot passed).keepEntries fun w => w != .commit p).journalFail p slot snap false) := by
  cases purpose with
  | entry => exact .inl rfl
  | format =>
    rw [Dev.eraseEnded_format]
    rcases (d.blankChecked p slot passed).formatSlotDone_cases p slot passed with heq | hfinish | hupdate
    · exact .inl heq
    · exact .inr (.inl hfinish)
    · exact .inr (.inr (.inl hupdate))
  | target =>
    rw [Dev.eraseEnded_target]
    cases passed with
    | true => exact .inl (Dev.targetErasePassed_of_none h)
    | false =>
      by_cases hfailures : ((d.blankChecked p slot false).ring.get p).failures = 0
      · exact .inr (.inr (.inr (.inl ⟨rfl, Dev.targetEraseFailed_of_first h hfailures⟩)))
      · obtain ⟨snap, _, heq⟩ := Dev.targetEraseFailed_of_second (slot := slot) h hfailures
        exact .inr (.inr (.inr (.inr ⟨rfl, snap, heq⟩)))

theorem Dev.blankChecked_touchesOnly : d.TouchesOnly p (d.blankChecked p slot passed) := by
  refine ⟨fun q hq => ?_, fun _ _ => by simp, fun _ _ => by simp, fun q hq => ?_, fun _ _ => by simp⟩
  · rw [Dev.blankChecked_psq]
    split
    · rfl
    · exact Per.set_get_of_ne _ _ hq
  · rw [Dev.blankChecked_ring, Per.set_get_of_ne _ _ hq]

theorem Dev.finishFormat_touchesOnly (failed : Bool) : d.TouchesOnly p (d.finishFormat p failed) := by
  refine ⟨fun _ _ => by simp, fun _ _ => by simp, fun _ _ => by simp, fun q hq => ?_, fun q hq => ?_⟩ <;>
    simp [Dev.finishFormat, Per.set_get_of_ne _ _ hq]

/-- Whatever follows the blank check leaves the other pocket, the causes and replies before it, and WRITE_RETRY. -/
theorem Dev.eraseEnded_spec (h : (d.blankChecked p slot passed).retryAtLoss = none) :
    d.TouchesOnly p (d.eraseEnded p slot purpose passed) ∧
    (d.blankChecked p slot passed).link.Answers (d.eraseEnded p slot purpose passed).link ∧
    ((d.eraseEnded p slot purpose passed).psq.get p).advisory = ((d.blankChecked p slot passed).psq.get p).advisory ∧
    (passed = true → (d.eraseEnded p slot purpose passed).psq = d.psq) := by
  have hcheck := d.blankChecked_touchesOnly p slot passed
  have hpassed (hp : passed = true) : (d.blankChecked p slot passed).psq = d.psq := by rw [Dev.blankChecked_psq, if_pos hp]
  rcases d.eraseEnded_cases p slot purpose passed h with heq | ⟨failed, heq⟩ | ⟨next, failed, heq⟩ | ⟨hp, heq⟩ |
      ⟨hp, snap, heq⟩ <;> rw [heq]
  · exact ⟨hcheck, .of_eq rfl, rfl, hpassed⟩
  · exact ⟨hcheck.trans (Dev.finishFormat_touchesOnly ..), (Dev.finishFormat_link ..).answers, by simp,
      fun h => by simpa using hpassed h⟩
  · exact ⟨hcheck.trans (.of_eq rfl rfl rfl rfl rfl), .of_eq rfl, rfl, hpassed⟩
  · refine ⟨hcheck.trans ⟨fun _ _ => rfl, fun _ _ => rfl, fun _ _ => rfl, fun q hq => ?_, fun _ _ => rfl⟩, .of_eq rfl, rfl,
      hpassed⟩
    exact Per.set_get_of_ne _ _ hq
  · have htouches : (d.blankChecked p slot passed).TouchesOnly p
        ((d.blankChecked p slot passed).keepEntries fun w => w != .commit p) :=
      .of_eq (by simp) (by simp) (by simp) (by simp) (by simp)
    have hanswers := ((d.blankChecked p slot passed).keepEntries fun w => w != .commit p).journalFail_answers p slot snap false
    have hfaults := ((d.blankChecked p slot passed).keepEntries fun w => w != .commit p).journalFail_faults p slot snap false
    simp only [Dev.keepEntries_frame] at hanswers hfaults
    exact ⟨(hcheck.trans htouches).trans (Dev.journalFail_touchesOnly ..), hanswers, hfaults.1,
      fun h => absurd (hp.symm.trans h) Bool.false_ne_true⟩

end Outcome

/-! ### JOURNAL_FAIL and the selection after it (R93) -/

/-- What the end of a commit in JOURNAL_FAIL makes of its pocket, from `d` to `d'`: the fault, an unmarked pocket's image
without an entry, the closure of a marked one, and the replies with the cycle of the snapshot or of the image. -/
structure Dev.FailsInJournal (p : Pocket) (snap : Option Snapshot) (d d' : Dev) : Prop where
  fault : (d'.psq.get p).blocking.journalFail = true
  raised : (d.psq.get p).blocking.journalFail = false → d'.link.attention.fault = true
  unmarked : (d.psq.get p).mark = none → (d'.psq.get p).state = (d.psq.get p).state ∧ d'.bkd = d.bkd ∧
    ∀ im, d.image.get p = some im → d'.image.get p = some im.uncommitted
  marked : (d.psq.get p).mark ≠ none → (d.psq.get p).state ≠ .vacant →
    (d'.psq.get p).state = .vacant ∧ (d'.psq.get p).mark = none ∧ d'.image.get p = none ∧ d'.bkd.facts.get p = .clear ∧
    ∀ e, d.owed .endCycle (some p) = some e → (⟨0x85, [5, pocketIndexByte p]⟩ : Reply) ∈ d'.link.transmit
  start : ∀ e, d.owed .start (some p) = some e →
    (∀ x, snap = some x → (⟨0x82, [5, pocketIndexByte p] ++ leBytes 2 x.cycle ++ [0, 0]⟩ : Reply) ∈ d'.link.transmit) ∧
    ∀ im, snap = none → d.image.get p = some im →
      (⟨0x82, [5, pocketIndexByte p] ++ leBytes 2 im.cycle ++ [0, 0]⟩ : Reply) ∈ d'.link.transmit
  checkpoint : ∀ e, d.owed .checkpoint (some p) = some e → (⟨0x84, [5, pocketIndexByte p]⟩ : Reply) ∈ d'.link.transmit

section JournalFail
variable (p : Pocket) (slot : Fin 16) (snap : Option Snapshot) (failedWrite : Bool) (d : Dev)

theorem Dev.journalFail_failsInJournal : d.FailsInJournal p snap (d.journalFail p slot snap failedWrite) where
  fault := (d.journalFail_faults p slot snap failedWrite).2
  raised := d.journalFail_raises p slot snap failedWrite
  unmarked h := by
    obtain ⟨hbkd, hpsq, himage⟩ := d.journalFail_of_unmarked p slot snap failedWrite h
    exact ⟨by simp [hpsq, Sequencer.put], hbkd, fun im him => by simp [himage, him]⟩
  marked := d.journalFail_of_marked p slot snap failedWrite
  start e he := by
    obtain ⟨cycle, hsome, hnone, hmem⟩ := (d.journalFail_sent p slot snap failedWrite).1 e he
    exact ⟨fun x hx => hsome x hx ▸ hmem, fun im hx him => hnone im hx him ▸ hmem⟩
  checkpoint := (d.journalFail_sent p slot snap failedWrite).2

end JournalFail

/-- A selection after it takes nothing of it back. -/
theorem Dev.FailsInJournal.select {p : Pocket} {snap : Option Snapshot} {d d' : Dev} (h : d.FailsInJournal p snap d') :
    d.FailsInJournal p snap d'.select := by
  have hsent := d'.select_answers.sent
  refine ⟨by simpa using h.fault, fun hnew => by rw [Dev.select_attention]; exact h.raised hnew, fun hmark => ?_,
    fun hmark hstate => ?_, fun e he => ⟨fun x hx => hsent.subset ((h.start e he).1 x hx),
      fun im hx him => hsent.subset ((h.start e he).2 im hx him)⟩, fun e he => hsent.subset (h.checkpoint e he)⟩
  · obtain ⟨hstate, hbkd, himage⟩ := h.unmarked hmark
    refine ⟨by simpa using hstate, by simpa using hbkd, fun im him => ?_⟩
    obtain ⟨im', him', _, _, hsame⟩ := Dev.select_commit (himage im him)
    rw [him', hsame fun k h => by simp [Image.uncommitted] at h]
  · obtain ⟨hvacant, hgone, himage, hfacts, hend⟩ := h.marked hmark hstate
    exact ⟨by simpa using hvacant, by simpa using hgone, (Dev.select_image _ p).1 himage, by simpa using hfacts,
      fun e he => hsent.subset (hend e he)⟩

/-! ### The erase of a commit's target, in RUN -/

/-- The part after the first failed check of a commit's target. -/
def Dev.movedOn (p : Pocket) (slot : Fin 16) (d : Dev) : Dev :=
  (d.blankChecked p slot false).setRing p { (d.blankChecked p slot false).ring.get p with writePos := slot + 1, failures := 1 }

theorem Dev.movedOn_parts (p : Pocket) (slot : Fin 16) (d : Dev) :
    (d.movedOn p slot).ring.get p = { d.ring.get p with
      blank := (d.ring.get p).blank.set slot false, writePos := slot + 1, failures := 1 } ∧
    (d.movedOn p slot).image = d.image := by
  simp [Dev.movedOn, Dev.blankChecked_ring]

theorem Dev.movedOn_writable (p : Pocket) (slot : Fin 16) (d : Dev) :
    (d.movedOn p slot).writable p ↔ (d.ring.get p).blank[slot + 1] = true := by
  simp only [Dev.writable, (d.movedOn_parts p slot).1, blankMap_set_next]

/-- The part after the second failed check, its commit's entry gone, before JOURNAL_FAIL. -/
def Dev.failedTwice (p : Pocket) (slot : Fin 16) (d : Dev) : Dev :=
  (d.blankChecked p slot false).keepEntries fun w => w != .commit p

theorem Dev.failedTwice_parts (p : Pocket) (slot : Fin 16) (d : Dev) :
    (d.failedTwice p slot).ring.get p = { d.ring.get p with blank := (d.ring.get p).blank.set slot false } ∧
    ((d.failedTwice p slot).psq.get p).mark = (d.psq.get p).mark ∧
    ((d.failedTwice p slot).psq.get p).state = (d.psq.get p).state ∧
    ((d.failedTwice p slot).psq.get p).blocking = (d.psq.get p).blocking ∧
    (d.failedTwice p slot).image = d.image ∧ (d.failedTwice p slot).bkd = d.bkd ∧
    (∀ q x, (d.failedTwice p slot).owed q x = d.owed q x) ∧
    (d.failedTwice p slot).engine.queue = d.engine.queue.filter (fun e => e.work != .commit p) := by
  have hpsq : (d.failedTwice p slot).psq = d.psq.set p ((d.psq.get p).put .writeRetry true) := by
    simp [Dev.failedTwice, Dev.blankChecked_psq]
  have hdeferred : (d.failedTwice p slot).link.deferred = d.link.deferred := by
    rw [Dev.failedTwice, Dev.keepEntries_frame .. |>.2.2.2.2.2.2.2.2.2.2.2.2.2.2.2.2.1, (d.blankChecked_link p slot false).1]
  refine ⟨by simp [Dev.failedTwice, Dev.blankChecked_ring], ?_, ?_, ?_, by simp [Dev.failedTwice], by simp [Dev.failedTwice],
    fun q x => by rw [Dev.owed, hdeferred]; rfl, by simp [Dev.failedTwice, Dev.keepEntries]⟩ <;>
    rw [hpsq, Per.set_get_self] <;> rfl

/-- After JOURNAL_FAIL no commit of the pocket is in service or queued, and no entry has come. -/
theorem Dev.failedTwice_ends (p : Pocket) (slot : Fin 16) (snap : Option Snapshot) (d : Dev) :
    ((d.failedTwice p slot).journalFail p slot snap false).engine.service = none ∧
    ((d.failedTwice p slot).journalFail p slot snap false).engine.queue =
      d.engine.queue.filter (fun e => e.work != .commit p) ∧
    ((d.failedTwice p slot).journalFail p slot snap false).hasCommit p = false := by
  have hengine := (d.failedTwice p slot).journalFail_engine p slot snap false
  have hqueue : ((d.failedTwice p slot).journalFail p slot snap false).engine.queue =
      d.engine.queue.filter (fun e => e.work != .commit p) := by
    rw [hengine]
    simpa [Dev.failedAsks] using (d.failedTwice_parts p slot).2.2.2.2.2.2.2
  refine ⟨by rw [hengine], hqueue, ?_⟩
  rw [Dev.hasCommit, Dev.anyEntry, hqueue, List.any_filter]
  simp

section TargetRun
variable {d : Dev} {p : Pocket} {slot : Fin 16} {passed : Bool} (hrun : d.run = .run) (hhold : d.link.resetHold = false)
  (hfree : d.engine.inFlight = none)
include hrun hhold hfree

/-- The commit in service is served again after a blank check that has passed. -/
theorem Dev.targetPassed_select {v : Service} (hservice : d.engine.service = some v) (hpocket : v.pocket = p)
    (hpos : (d.ring.get p).writePos = slot) :
    (d.eraseEnded p slot .target true).select = (d.blankChecked p slot true).writeStart v := by
  subst hpocket
  have hr : (d.blankChecked v.pocket slot true).runningFree = true :=
    (Dev.runningFree_iff _).2 ⟨by simpa using hrun, (Dev.blankChecked_answers ..).resetHold.trans hhold⟩
  have hwritable : (d.blankChecked v.pocket slot true).writable v.pocket := by
    simp [Dev.writable, Dev.blankChecked_ring, hpos]
  rw [Dev.eraseEnded_target, if_pos rfl, Dev.targetErasePassed_of_none (Dev.retryAtLoss_of_run (by simpa using hrun)),
    Dev.select_of_service hr (by simpa using hfree) (by simpa using hservice), Dev.serve_of_writable hwritable]

/-- After a first failed check the commit stays in service, with its target in the next slot. -/
theorem Dev.targetFailed_select (hfailures : (d.ring.get p).failures = 0) (hservice : d.engine.service = some ⟨p, none⟩) :
    (d.eraseEnded p slot .target false).select = (d.movedOn p slot).serve ⟨p, none⟩ := by
  have hr : (d.movedOn p slot).runningFree = true :=
    (Dev.runningFree_iff _).2 ⟨by simpa [Dev.movedOn] using hrun, (Dev.blankChecked_answers ..).resetHold.trans hhold⟩
  have hfirst : ((d.blankChecked p slot false).ring.get p).failures = 0 := by simpa [Dev.blankChecked_ring] using hfailures
  rw [Dev.eraseEnded_target, if_neg Bool.false_ne_true,
    Dev.targetEraseFailed_of_first (Dev.retryAtLoss_of_run (by simpa using hrun)) hfirst]
  exact Dev.select_of_service hr (by simpa [Dev.movedOn] using hfree) (by simpa [Dev.movedOn] using hservice)

omit hrun hhold in
/-- An entry's or a FORMAT's erase, with no commit to serve: the check alone moves the map, and no image. -/
theorem Dev.eraseEnded_select_blank {purpose : ErasePurpose} (hnot : purpose ≠ .target) (hservice : d.engine.service = none)
    (hnone : d.anyEntry Work.isCommit = false) :
    ((d.eraseEnded p slot purpose passed).select.ring.get p).blank[slot] = passed ∧
    (d.eraseEnded p slot purpose passed).select.image = d.image := by
  have hafter (x : Dev) (hfree : x.engine.inFlight = none) (hservice : x.engine.service = none)
      (hnone : x.anyEntry Work.isCommit = false) (hblank : (x.ring.get p).blank = (d.ring.get p).blank.set slot passed)
      (himage : x.image = d.image) : (x.select.ring.get p).blank[slot] = passed ∧ x.select.image = d.image := by
    refine ⟨?_, (Dev.select_image_of_no_commit hfree hservice hnone).trans himage⟩
    simp only [Dev.select_blank_of_no_commit hservice hnone, hblank]
    exact Vector.getElem_set_self _
  have hblank : ((d.blankChecked p slot passed).ring.get p).blank = (d.ring.get p).blank.set slot passed := by
    simp [Dev.blankChecked_ring]
  have hnone' : (d.blankChecked p slot passed).anyEntry Work.isCommit = false := by simpa [Dev.anyEntry] using hnone
  cases purpose with
  | target => exact absurd rfl hnot
  | entry =>
    rw [Dev.eraseEnded_entry]
    exact hafter _ (by simpa using hfree) (by simpa using hservice) hnone' hblank (by simp)
  | format =>
    obtain ⟨hflight, hserved, hcommits, hsame⟩ := (d.blankChecked p slot passed).formatSlotDone_idle p slot passed
    exact hafter _ (hflight.trans (by simpa using hfree)) (hserved.trans (by simpa using hservice)) (hcommits hnone')
      ((hsame p).trans hblank) (by simp [Dev.eraseEnded_format])

omit hfree in
/-- The check in RUN: WRITE_RETRY where it fails, and the causes and the other pocket left. -/
theorem Dev.eraseEnded_select_check (purpose : ErasePurpose) :
    (passed = true → (d.eraseEnded p slot purpose passed).select.psq = d.psq) ∧
    (passed = false → ((d.eraseEnded p slot purpose passed).select.psq.get p).advisory.writeRetry = true ∧
      ((d.psq.get p).advisory.writeRetry = false →
        (d.eraseEnded p slot purpose passed).select.link.attention.fault = true)) ∧
    d.sparesOther p (d.eraseEnded p slot purpose passed).select ∧
    (d.eraseEnded p slot purpose passed).afterOperation = (d.eraseEnded p slot purpose passed).select := by
  obtain ⟨htouches, hanswers, hadvisory, hpsq⟩ := d.eraseEnded_spec p slot purpose passed
    (Dev.retryAtLoss_of_run (by simpa using hrun))
  refine ⟨fun hp => by simpa using hpsq hp, fun hp => ⟨?_, fun hnew => ?_⟩,
    htouches.spares_select (by simp) (by simp) (by simp), Dev.afterOperation_of_run (by simpa using hrun)
      (((Dev.blankChecked_answers ..).trans hanswers).resetHold.trans hhold)⟩
  · have hset : (d.eraseEnded p slot purpose passed).select.psq = (d.eraseEnded p slot purpose passed).psq := by simp
    rw [hset, hadvisory, Dev.blankChecked_psq, hp]
    simp [Sequencer.put]
  · rw [Dev.select_attention]
    exact hanswers.causes.fault ((d.blankChecked_link p slot passed).2.2 hp hnew)

/-- A passed check of a first write's target: its write starts with a snapshot. -/
theorem Dev.targetPassed_writes {im : Image} {k : Kind} (hservice : d.engine.service = some ⟨p, none⟩)
    (hpos : (d.ring.get p).writePos = slot) (him : d.image.get p = some im) (hc : im.commit = .queued k) :
    (d.eraseEnded p slot .target true).select.engine.inFlight =
      some (.write p slot (im.snapshot k) ((d.ring.get p).lastSeq + 1) false) ∧
    ((d.eraseEnded p slot .target true).select.ring.get p).lastSeq = (d.ring.get p).lastSeq + 1 ∧
    ((d.eraseEnded p slot .target true).select.ring.get p).blank[slot] = false ∧
    (d.eraseEnded p slot .target true).select.image.get p =
      some { im with commit := .inFlight k, pending := 0, dirty := false, window := none } := by
  rw [Dev.targetPassed_select hrun hhold hfree hservice rfl hpos, Dev.writeStart_of_queued (im := im) (by simpa using him) hc]
  simp [Dev.writeSnapshot_parts, Dev.blankChecked_ring, hpos, Image.taken]

/-- A passed check of a retry's target: the same snapshot is written. -/
theorem Dev.targetPassed_retries {snap : Snapshot} (hservice : d.engine.service = some ⟨p, some snap⟩)
    (hpos : (d.ring.get p).writePos = slot) :
    (d.eraseEnded p slot .target true).select.engine.inFlight =
      some (.write p slot snap ((d.ring.get p).lastSeq + 1) false) ∧
    ((d.eraseEnded p slot .target true).select.ring.get p).lastSeq = (d.ring.get p).lastSeq + 1 ∧
    (d.eraseEnded p slot .target true).select.image = d.image := by
  rw [Dev.targetPassed_select hrun hhold hfree hservice rfl hpos, Dev.writeStart_of_retry]
  simp [Dev.writeSnapshot_parts, Dev.blankChecked_ring, hpos]

section FirstFailure
variable (hfailures : (d.ring.get p).failures = 0) (hservice : d.engine.service = some ⟨p, none⟩)
include hfailures hservice

/-- A first failed check, with the next slot not blank: it is erased in its turn. -/
theorem Dev.targetFailed_erases (hblank : (d.ring.get p).blank[slot + 1] = false) :
    ((d.eraseEnded p slot .target false).select.ring.get p).writePos = slot + 1 ∧
    ((d.eraseEnded p slot .target false).select.ring.get p).failures = 1 ∧
    ((d.eraseEnded p slot .target false).select.ring.get p).lastSeq = (d.ring.get p).lastSeq ∧
    ((d.eraseEnded p slot .target false).select.ring.get p).blank[slot] = false ∧
    (d.eraseEnded p slot .target false).select.engine.inFlight = some (.erase p (slot + 1) .target) ∧
    (d.eraseEnded p slot .target false).select.image = d.image := by
  have hnot : ¬(d.movedOn p slot).writable p := by simp [Dev.movedOn_writable, hblank]
  rw [Dev.targetFailed_select hrun hhold hfree hfailures hservice, Dev.serve_of_not_writable hnot]
  simp [Dev.movedOn_parts]

/-- A first failed check, with the next slot blank: the write starts there. -/
theorem Dev.targetFailed_writes {im : Image} {k : Kind} (hblank : (d.ring.get p).blank[slot + 1] = true)
    (him : d.image.get p = some im) (hc : im.commit = .queued k) :
    ((d.eraseEnded p slot .target false).select.ring.get p).writePos = slot + 1 ∧
    ((d.eraseEnded p slot .target false).select.ring.get p).failures = 1 ∧
    (d.eraseEnded p slot .target false).select.engine.inFlight =
      some (.write p (slot + 1) (im.snapshot k) ((d.ring.get p).lastSeq + 1) false) ∧
    ((d.eraseEnded p slot .target false).select.ring.get p).lastSeq = (d.ring.get p).lastSeq + 1 ∧
    (d.eraseEnded p slot .target false).select.image.get p =
      some { im with commit := .inFlight k, pending := 0, dirty := false, window := none } := by
  have hwritable : (d.movedOn p slot).writable p := (d.movedOn_writable p slot).2 hblank
  obtain ⟨hring, himage⟩ := d.movedOn_parts p slot
  rw [Dev.targetFailed_select hrun hhold hfree hfailures hservice, Dev.serve_of_writable (v := ⟨p, none⟩) hwritable,
    Dev.writeStart_of_queued (im := im) (by rw [himage, him]) hc]
  simp [Dev.writeSnapshot_parts, hring, Image.taken]

end FirstFailure

section SecondFailure
variable {v : Option Snapshot} (hfailures : (d.ring.get p).failures ≠ 0) (hservice : d.engine.service = some ⟨p, v⟩)
include hfailures hservice

omit hhold hfree in
theorem Dev.targetFailed_ends : d.eraseEnded p slot .target false = (d.failedTwice p slot).journalFail p slot v false := by
  have hsecond : ((d.blankChecked p slot false).ring.get p).failures ≠ 0 := by simpa [Dev.blankChecked_ring] using hfailures
  obtain ⟨snap, hsnap, heq⟩ :=
    Dev.targetEraseFailed_of_second (slot := slot) (Dev.retryAtLoss_of_run (by simpa using hrun)) hsecond
  rw [Dev.eraseEnded_target, if_neg Bool.false_ne_true, heq, hsnap ⟨p, v⟩ (by simpa using hservice)]
  rfl

omit hhold hfree in
/-- The second failed check leaves no commit of the pocket, and its slot not blank. -/
theorem Dev.targetFailed_select_ends (hformat : d.anyEntry (Work.isFormatOf p) = false) :
    (d.eraseEnded p slot .target false).select.ring.get p = { d.ring.get p with
      writePos := slot + 1, failures := 0, blank := (d.ring.get p).blank.set slot false } ∧
    (d.eraseEnded p slot .target false).select.engine.service ≠ some ⟨p, v⟩ ∧
    (d.eraseEnded p slot .target false).select.hasCommit p = false ∧
    ∀ q i, (d.eraseEnded p slot .target false).select.anyEntry (· == .erase q i) = true →
      d.anyEntry (· == .erase q i) = true := by
  obtain ⟨hidle, hqueue, hno⟩ := d.failedTwice_ends p slot v
  rw [Dev.targetFailed_ends hrun hfailures hservice]
  refine ⟨?_, fun h => ?_, Dev.select_hasCommit_of_absent hidle hno, fun q i h => ?_⟩
  · rw [Dev.select_ring_of_absent hidle hno, Dev.journalFail_ring, Per.set_get_self, (d.failedTwice_parts p slot).1]
    rw [Dev.anyEntry, hqueue, List.any_eq_false]
    exact fun e he => List.any_eq_false.1 hformat e (List.mem_filter.1 he).1
  · exact Dev.select_service_of_absent hidle hno h rfl
  · obtain ⟨e, he, hwork⟩ := List.any_eq_true.1 (Dev.select_anyEntry hidle rfl h)
    rw [hqueue] at he
    exact List.any_eq_true.2 ⟨e, (List.mem_filter.1 he).1, hwork⟩

omit hhold hfree in
theorem Dev.targetFailed_failsInJournal : d.FailsInJournal p v (d.eraseEnded p slot .target false).select := by
  have h := ((d.failedTwice p slot).journalFail_failsInJournal p slot v false).select
  obtain ⟨_, hmark, hstate, hblocking, himage, hbkd, howed, _⟩ := d.failedTwice_parts p slot
  rw [Dev.targetFailed_ends hrun hfailures hservice]
  exact ⟨h.fault, by rw [← hblocking]; exact h.raised, by rw [← hmark, ← hstate, ← himage, ← hbkd]; exact h.unmarked,
    by simpa only [hmark, hstate, howed] using h.marked, by simpa only [himage, howed] using h.start,
    by simpa only [howed] using h.checkpoint⟩

end SecondFailure

end TargetRun

/-! ### The end of an erase in LOSS_COMMIT (R94) -/

section Loss
variable {d : Dev} {p : Pocket} {slot : Fin 16} {purpose : ErasePurpose} {passed : Bool}

/-- With no FORMAT entry of the pocket and no commit that fails here, the check is all. -/
theorem Dev.eraseEnded_of_checked (hretry : d.retryAtLoss = none) (hformat : d.anyEntry (Work.isFormatOf p) = false)
    (h : purpose ≠ .target ∨ passed = true) : d.eraseEnded p slot purpose passed = d.blankChecked p slot passed := by
  have hretry' : (d.blankChecked p slot passed).retryAtLoss = none := by simpa [Dev.retryAtLoss] using hretry
  have hformat' : (d.blankChecked p slot passed).anyEntry (Work.isFormatOf p) = false := by
    simpa [Dev.anyEntry] using hformat
  cases purpose with
  | entry => rfl
  | format => rw [Dev.eraseEnded_format, Dev.formatSlotDone_of_none hformat']
  | target =>
    obtain rfl := h.resolve_left (by simp)
    rw [Dev.eraseEnded_target, if_pos rfl, Dev.targetErasePassed_of_none hretry']

theorem Dev.eraseEnded_of_movedOn (hretry : d.retryAtLoss = none) (hfailures : (d.ring.get p).failures = 0) :
    d.eraseEnded p slot .target false = d.movedOn p slot := by
  have hretry' : (d.blankChecked p slot false).retryAtLoss = none := by simpa [Dev.retryAtLoss] using hretry
  rw [Dev.eraseEnded_target, if_neg Bool.false_ne_true,
    Dev.targetEraseFailed_of_first hretry' (by simpa [Dev.blankChecked_ring] using hfailures)]
  rfl

/-- The part after the target erase of a retry, whatever it gives, before the commit ends. -/
def Dev.retryErased (p : Pocket) (slot : Fin 16) (passed : Bool) (d : Dev) : Dev :=
  if passed then d.blankChecked p slot passed
  else (d.blankChecked p slot passed).setRing p { (d.blankChecked p slot passed).ring.get p with writePos := slot + 1 }

theorem Dev.eraseEnded_of_retry {snap : Snapshot} (hretry : d.retryAtLoss = some snap) :
    d.eraseEnded p slot .target passed = (d.retryErased p slot passed).endWithoutRecord p snap.kind := by
  have hretry' : (d.blankChecked p slot passed).retryAtLoss = some snap := by simpa [Dev.retryAtLoss] using hretry
  cases passed with
  | true => rw [Dev.eraseEnded_target, if_pos rfl, Dev.targetErasePassed_of_retry hretry']; rfl
  | false => rw [Dev.eraseEnded_target, if_neg Bool.false_ne_true, Dev.targetEraseFailed_of_retry hretry']; rfl

theorem Dev.retryErased_parts (p : Pocket) (slot : Fin 16) (passed : Bool) (d : Dev) :
    (d.retryErased p slot passed).ring = d.ring.set p { d.ring.get p with
      blank := (d.ring.get p).blank.set slot passed
      writePos := if passed then (d.ring.get p).writePos else slot + 1 } ∧
    (d.retryErased p slot passed).image = d.image ∧ (d.retryErased p slot passed).engine = d.engine ∧
    ((d.retryErased p slot passed).psq.get p).mark = (d.psq.get p).mark ∧
    ((d.retryErased p slot passed).psq.get p).blocking = (d.psq.get p).blocking ∧
    d.TouchesOnly p (d.retryErased p slot passed) ∧
    d.retryErased p slot passed = { d with
      ring := (d.retryErased p slot passed).ring, psq := (d.retryErased p slot passed).psq
      link := (d.retryErased p slot passed).link } := by
  have htouches := d.blankChecked_touchesOnly p slot passed
  cases passed with
  | true =>
    refine ⟨by simp [Dev.retryErased, Dev.blankChecked_ring], by simp [Dev.retryErased], by simp [Dev.retryErased], ?_, ?_,
      htouches, by apply Dev.ext <;> simp [Dev.retryErased]⟩ <;> simp [Dev.retryErased, Dev.blankChecked_psq]
  | false =>
    refine ⟨by simp [Dev.retryErased, Dev.blankChecked_ring, Per.set_set], by simp [Dev.retryErased], by simp [Dev.retryErased],
      ?_, ?_, htouches.trans ⟨fun _ _ => rfl, fun _ _ => rfl, fun _ _ => rfl, fun q hq => Per.set_get_of_ne _ _ hq, fun _ _ => rfl⟩,
      by apply Dev.ext <;> simp [Dev.retryErased]⟩ <;> simp [Dev.retryErased, Dev.blankChecked_psq, Sequencer.put]

end Loss

end Sys2Proof.Machine

namespace Sys2Proof.Proofs

open Sys2Proof.Machine

/-- Settles O30: the blank check, and then each outcome of the erase in RUN and in LOSS_COMMIT. -/
theorem eraseEnds : Obligations.EraseEnds := by
  unfold Obligations.EraseEnds
  intro s p slot purpose residue page hflight hpage
  have hexec := exec_eraseDone hflight hpage
  generalize erasedPage page = passed at hexec ⊢
  have hfree : s.dev.endOperation.engine.inFlight = none := rfl
  refine ⟨fun hrun hhold => ?_, fun hrun hformat => ⟨fun hservice hfirst => ?_, fun snap htarget hservice => ?_⟩⟩
  · obtain ⟨hpassed, hfailed, hspares, hafter⟩ :=
      Dev.eraseEnded_select_check (d := s.dev.endOperation) (p := p) (slot := slot) (passed := passed) hrun hhold purpose
    rw [hafter] at hexec
    refine ⟨_, hexec, rfl, rfl, Dev.eraseEnded_select_blank (d := s.dev.endOperation) rfl, hpassed, hfailed,
      fun htarget hp hservice hpos im k him hc => ?_, fun htarget hp hfailures hservice hblank => ?_,
      fun snap htarget hp hservice hpos => ?_, fun htarget hp hfailures hservice hblank im k him hc => ?_,
      fun v htarget hp hfailures hservice hformat => ?_, fun hentry hservice => ?_, hspares, ?_⟩
    · subst htarget hp
      exact Dev.targetPassed_writes (d := s.dev.endOperation) hrun hhold rfl hservice hpos him hc
    · subst htarget hp
      exact Dev.targetFailed_erases (d := s.dev.endOperation) hrun hhold rfl hfailures hservice hblank
    · subst htarget hp
      exact Dev.targetPassed_retries (d := s.dev.endOperation) hrun hhold rfl hservice hpos
    · subst htarget hp
      exact Dev.targetFailed_writes (d := s.dev.endOperation) hrun hhold rfl hfailures hservice hblank him hc
    · subst htarget hp
      obtain ⟨hring, hserved, hno, herases⟩ :=
        Dev.targetFailed_select_ends (d := s.dev.endOperation) (slot := slot) hrun hfailures hservice hformat
      have hfails := Dev.targetFailed_failsInJournal (d := s.dev.endOperation) (slot := slot) hrun hfailures hservice
      exact ⟨hfails.fault, hfails.raised, hring, hserved, hno, herases, hfails.unmarked, hfails.marked, hfails.start,
        hfails.checkpoint⟩
    · subst hentry
      refine ⟨s.dev.endOperation.blankChecked p slot passed, Dev.select_selects ?_ (by simp) (by simpa using hservice),
        Dev.blankChecked_ring .., by simp, fun hp => ⟨by rw [Dev.blankChecked_psq, if_pos hp]; rfl,
          (Dev.blankChecked_link ..).2.1 hp⟩, by apply Dev.ext <;> simp⟩
      exact (Dev.runningFree_iff _).2 ⟨by simpa using hrun, (Dev.blankChecked_answers ..).resetHold.trans hhold⟩
    · apply Dev.ext <;> simp
  · have hretry : s.dev.endOperation.retryAtLoss = none := (Dev.retryAtLoss_of_loss hrun).1 hservice
    rw [Dev.afterOperation_of_loss (by simpa using hrun)] at hexec
    by_cases hcheck : purpose ≠ .target ∨ passed = true
    · rw [Dev.eraseEnded_of_checked (d := s.dev.endOperation) hretry hformat hcheck] at hexec
      refine ⟨_, s.dev.endOperation.blankChecked p slot passed, hexec, rfl, rfl,
        Dev.lossWork_lossWorks (by simp) (by simpa using hservice), ?_, fun htarget hp => ?_, fun _ => ?_, fun hp => ?_,
        by simp, by apply Dev.ext <;> simp⟩
      · simp [Dev.blankChecked_ring]
      · exact absurd hp (by simp [hcheck.resolve_left (by simp [htarget])])
      · simp [Dev.blankChecked_ring]
      · simp [Dev.blankChecked_psq, hp, Sequencer.put]
    · obtain ⟨htarget, hp⟩ := not_or.1 hcheck
      obtain rfl := Classical.not_not.1 htarget
      obtain rfl := Bool.eq_false_iff.2 hp
      rw [Dev.eraseEnded_of_movedOn (d := s.dev.endOperation) hretry (by simpa using hfirst)] at hexec
      refine ⟨_, s.dev.endOperation.movedOn p slot, hexec, rfl, rfl,
        Dev.lossWork_lossWorks (by simp [Dev.movedOn]) (by simpa [Dev.movedOn] using hservice), ?_, fun _ _ => ?_,
        fun h => absurd h hcheck, fun _ => ?_, by simp [Dev.movedOn], by apply Dev.ext <;> simp [Dev.movedOn]⟩
      · simp [Dev.movedOn_parts]
      · simp [Dev.movedOn_parts]
      · simp [Dev.movedOn, Dev.blankChecked_psq, Sequencer.put]
  · have hretry : s.dev.endOperation.retryAtLoss = some snap := (Dev.retryAtLoss_of_loss hrun).2 _ hservice
    subst htarget
    rw [Dev.afterOperation_of_loss (by simpa using hrun), Dev.eraseEnded_of_retry hretry] at hexec
    obtain ⟨hring, himage, hengine, hmark, hblocking, htouches, hframe⟩ := s.dev.endOperation.retryErased_parts p slot passed
    generalize hx : s.dev.endOperation.retryErased p slot passed = x at *
    obtain ⟨hering, hepsq, heimage, heflight, heservice⟩ := x.endWithoutRecord_parts p snap.kind
    obtain ⟨hother, hsome, hnone⟩ := x.endWithoutRecord_hasCommit p snap.kind
    have htouches' := htouches.trans (x.endWithoutRecord_touchesOnly p snap.kind)
    have hhas (q : Pocket) : x.hasCommit q = s.dev.hasCommit q := by
      rw [Dev.hasCommit, Dev.anyEntry, hengine]
      rfl
    have hidle : (x.endWithoutRecord p snap.kind).engine.inFlight = none := by rw [heflight, hengine]; rfl
    refine ⟨_, x.endWithoutRecord p snap.kind, hexec, rfl, rfl, Dev.lossWork_lossWorks hidle heservice, ?_, ?_, ?_,
      fun im k him hr => ⟨?_, ?_⟩, fun im him hr => ⟨?_, ?_⟩, ?_, ?_, hidle, heservice, ?_, ?_⟩
    · rw [hering, hring]
      simp [Per.set_set]
    · rw [hepsq, Per.set_get_self]
      simp [hmark]
    · rw [hepsq, Per.set_get_self]
      exact hblocking
    · exact hsome im k (by rw [himage]; exact him) hr
    · simp [heimage, himage, him, Image.endedUnwritten, hr]
    · rw [hnone im (by rw [himage]; exact him) hr, hhas]
    · simp [heimage, himage, him, Image.endedUnwritten, hr]
    · rw [hother _ p.other_ne, hhas]
    · exact htouches'.image _ p.other_ne
    · exact htouches'.spares (by rw [hframe]; simp) (by rw [hframe]; simp) (by rw [hframe]; simp)
    · rw [hframe]
      apply Dev.ext <;> simp

end Sys2Proof.Proofs
end

section
/-! The end of a write that fails its verify (O29). -/

namespace Sys2Proof.Machine

/-- No byte that is written comes to read erased (R79). -/
theorem programmed_keeps_written {stored bytes : List Byte} {damage : List Host.Cell} {i : Nat} (hi : i < stored.length)
    (h : stored.getD i 0 ≠ 0xFF) : (programmed stored bytes damage).getD i 0xFF ≠ 0xFF := by
  have hb : stored[i] ≠ erasedByte := by rwa [getD_of_lt hi] at h
  rw [getD_of_lt (by simpa using hi)]
  simp only [programmed, List.getElem_mapIdx]
  split
  · split
    · exact hb
    · assumption
  · split
    · exact writeOver_ne_erased hb _
    · exact hb

section Write
variable {s : State} {p : Pocket} {slot : Fin 16} {snap : Snapshot} {seq : Word} {beforeLoss : Bool}
  {damage : List Host.Cell} {page : List Byte}
  (hflight : s.dev.engine.inFlight = some (.write p slot snap seq beforeLoss))
  (hpage : page = programmed (s.array.page (slotPage p slot)) (snap.record p seq).written damage)
include hflight hpage

theorem exec_writeVerifyDone_failed (h : page ≠ pageOf (snap.record p seq).written) :
    exec (.writeVerifyDone damage) s = .next { s with
      array := s.array.setPage (slotPage p slot) page
      dev := (s.dev.endOperation.writeFailed p slot snap beforeLoss).afterOperation } := by
  have hexec : exec (.writeVerifyDone damage) s = execWriteVerifyDone damage s := rfl
  rw [hexec, execWriteVerifyDone]
  simp only [hflight, ← hpage, writtenPage, if_neg h]

theorem exec_writeVerifyDone_completed (h : page = pageOf (snap.record p seq).written) :
    exec (.writeVerifyDone damage) s = .next { s with
      array := s.array.setPage (slotPage p slot) page
      dev := (s.dev.endOperation.commitCompleted p slot snap seq beforeLoss).afterOperation } := by
  have hexec : exec (.writeVerifyDone damage) s = execWriteVerifyDone damage s := rfl
  rw [hexec, execWriteVerifyDone]
  simp only [hflight, ← hpage, writtenPage, if_pos h]

end Write

/-! ### The first failure (R92) -/

section Retry
variable (p : Pocket) (slot : Fin 16) (d : Dev)

theorem Dev.writeRetry_parts :
    (d.writeRetry p slot).ring = d.ring.set p { d.ring.get p with writePos := slot + 1, failures := 1 } ∧
    (d.writeRetry p slot).psq = d.psq.set p ((d.psq.get p).put .writeRetry true) ∧
    (d.writeRetry p slot).link = (d.raiseFault p .writeRetry).link ∧
    (d.writeRetry p slot).engine.inFlight = d.engine.inFlight ∧ (d.writeRetry p slot).engine.service = d.engine.service := by
  have hengine : (d.writeRetry p slot).engine = ((d.raiseFault p .writeRetry).askErase p slot).engine := rfl
  refine ⟨by simp [Dev.writeRetry], by simp [Dev.writeRetry, Dev.raiseFault_psq], by simp [Dev.writeRetry], ?_, ?_⟩ <;>
    rw [hengine, Dev.askErase_engine] <;> simp

theorem Dev.writeRetry_hasCommit (q : Pocket) : (d.writeRetry p slot).hasCommit q = d.hasCommit q := by
  have hany : (d.writeRetry p slot).hasCommit q = ((d.raiseFault p .writeRetry).askErase p slot).hasCommit q := rfl
  rw [hany, Dev.askErase_hasCommit]
  simp [Dev.hasCommit, Dev.anyEntry]

theorem Dev.writeRetry_answers : d.link.Answers (d.writeRetry p slot).link := by
  rw [(d.writeRetry_parts p slot).2.2.1]
  exact Dev.raiseFault_answers ..

theorem Dev.writeRetry_touchesOnly : d.TouchesOnly p (d.writeRetry p slot) := by
  obtain ⟨hring, hpsq, _⟩ := d.writeRetry_parts p slot
  exact ⟨fun q hq => by rw [hpsq, Per.set_get_of_ne _ _ hq], fun _ _ => by simp, fun _ _ => by simp,
    fun q hq => by rw [hring, Per.set_get_of_ne _ _ hq], fun _ _ => by simp⟩

theorem Dev.writeRetry_writable : (d.writeRetry p slot).writable p ↔ (d.ring.get p).blank[slot + 1] = true := by
  simp only [Dev.writable, (d.writeRetry_parts p slot).1, Per.set_get_self]

end Retry

/-! ### The branches of a failure (R92, R93, R96) -/

section Branches
variable {p : Pocket} {slot : Fin 16} {snap : Snapshot} {beforeLoss : Bool} {d : Dev}

theorem Dev.writeFailed_of_first (h : (d.ring.get p).failures = 0) :
    d.writeFailed p slot snap beforeLoss =
      if beforeLoss then (d.writeRetry p slot).endWithoutRecord p snap.kind else d.writeRetry p slot := if_pos h

theorem Dev.writeFailed_of_second (h : (d.ring.get p).failures ≠ 0) :
    d.writeFailed p slot snap beforeLoss = d.journalFail p slot (some snap) true := if_neg h

theorem Dev.writeFailed_touchesOnly : d.TouchesOnly p (d.writeFailed p slot snap beforeLoss) := by
  by_cases h : (d.ring.get p).failures = 0
  · rw [Dev.writeFailed_of_first h]
    split
    · exact (d.writeRetry_touchesOnly p slot).trans (Dev.endWithoutRecord_touchesOnly ..)
    · exact d.writeRetry_touchesOnly p slot
  · rw [Dev.writeFailed_of_second h]
    exact Dev.journalFail_touchesOnly ..

theorem Dev.writeFailed_resetHold : (d.writeFailed p slot snap beforeLoss).link.resetHold = d.link.resetHold := by
  by_cases h : (d.ring.get p).failures = 0
  · rw [Dev.writeFailed_of_first h]
    split
    · simpa using (d.writeRetry_answers p slot).resetHold
    · exact (d.writeRetry_answers p slot).resetHold
  · rw [Dev.writeFailed_of_second h]
    exact (Dev.journalFail_answers ..).resetHold

end Branches

/-! ### A retry in RUN (R92) -/

section RetryRun
variable {d : Dev} {p : Pocket} {slot : Fin 16} {snap : Snapshot} (hrun : d.run = .run) (hhold : d.link.resetHold = false)
  (hfree : d.engine.inFlight = none) (hservice : d.engine.service = some ⟨p, some snap⟩)
include hrun hhold hfree hservice

theorem Dev.writeRetry_select : (d.writeRetry p slot).select = (d.writeRetry p slot).serve ⟨p, some snap⟩ := by
  obtain ⟨_, _, _, hflight, hserved⟩ := d.writeRetry_parts p slot
  exact Dev.select_of_service
    ((Dev.runningFree_iff _).2 ⟨by simpa using hrun, (d.writeRetry_answers p slot).resetHold.trans hhold⟩)
    (hflight.trans hfree) (hserved.trans hservice)

/-- The write position moves on, and the image is left as it is. -/
theorem Dev.writeRetry_select_parts :
    ((d.writeRetry p slot).select.psq.get p).advisory.writeRetry = true ∧
    ((d.psq.get p).advisory.writeRetry = false → (d.writeRetry p slot).select.link.attention.fault = true) ∧
    ((d.writeRetry p slot).select.ring.get p).writePos = slot + 1 ∧
    ((d.writeRetry p slot).select.ring.get p).failures = 1 ∧
    (d.writeRetry p slot).select.image = d.image ∧
    (d.writeRetry p slot).select.engine.service = some ⟨p, some snap⟩ := by
  obtain ⟨hring, hpsq, hlink, _, _⟩ := d.writeRetry_parts p slot
  refine ⟨by simp [hpsq, Sequencer.put], fun hnew => ?_, ?_⟩
  · rw [Dev.select_attention, hlink]
    exact (d.raiseFault_attention p .writeRetry).2 hnew
  · rw [Dev.writeRetry_select hrun hhold hfree hservice]
    by_cases hw : (d.writeRetry p slot).writable p
    · rw [Dev.serve_of_writable (v := ⟨p, some snap⟩) hw, Dev.writeStart_of_retry]
      simp [Dev.writeSnapshot_parts, hring]
    · rw [Dev.serve_of_not_writable (v := ⟨p, some snap⟩) hw]
      simp [hring]

theorem Dev.writeRetry_select_writes (hblank : (d.ring.get p).blank[slot + 1] = true) :
    (d.writeRetry p slot).select.engine.inFlight =
      some (.write p (slot + 1) snap ((d.ring.get p).lastSeq + 1) false) ∧
    ((d.writeRetry p slot).select.ring.get p).lastSeq = (d.ring.get p).lastSeq + 1 := by
  rw [Dev.writeRetry_select hrun hhold hfree hservice,
    Dev.serve_of_writable (v := ⟨p, some snap⟩) ((d.writeRetry_writable p slot).2 hblank), Dev.writeStart_of_retry]
  simp [Dev.writeSnapshot_parts, (d.writeRetry_parts p slot).1]

theorem Dev.writeRetry_select_erases (hblank : (d.ring.get p).blank[slot + 1] = false) :
    (d.writeRetry p slot).select.engine.inFlight = some (.erase p (slot + 1) .target) ∧
    ((d.writeRetry p slot).select.ring.get p).lastSeq = (d.ring.get p).lastSeq := by
  rw [Dev.writeRetry_select hrun hhold hfree hservice,
    Dev.serve_of_not_writable (v := ⟨p, some snap⟩) (by rw [Dev.writeRetry_writable, hblank]; exact Bool.false_ne_true)]
  simp [(d.writeRetry_parts p slot).1]

end RetryRun

/-- The numbering of a pocket whose write has failed twice, after the selection. -/
theorem Dev.journalFail_select_ring {d : Dev} {p : Pocket} {slot : Fin 16} {snap : Option Snapshot} {failedWrite : Bool}
    (hformat : d.anyEntry (Work.isFormatOf p) = false) :
    ((d.journalFail p slot snap failedWrite).select.ring.get p).writePos = slot + 1 ∧
    ((d.journalFail p slot snap failedWrite).select.ring.get p).failures = 0 := by
  have hformat' : (d.journalFail p slot snap failedWrite).anyEntry (Work.isFormatOf p) = false := by
    have hany : (d.journalFail p slot snap failedWrite).anyEntry (Work.isFormatOf p) =
        (d.failedAsks p slot failedWrite).anyEntry (Work.isFormatOf p) := by
      rw [Dev.anyEntry, Dev.journalFail_engine]
      rfl
    rw [hany, Dev.failedAsks_isFormatOf, hformat]
  obtain ⟨hpos, _, hfailures, _⟩ := (Dev.select_other p _ hformat').1
  rw [hpos, hfailures, Dev.journalFail_ring, Per.set_get_self]
  exact ⟨rfl, rfl⟩

theorem Dev.journalFail_idle {d : Dev} {p : Pocket} {slot : Fin 16} {snap : Option Snapshot} {failedWrite : Bool} :
    (d.journalFail p slot snap failedWrite).engine.inFlight = d.engine.inFlight ∧
    (d.journalFail p slot snap failedWrite).engine.service = none ∧
    ∀ q, (d.journalFail p slot snap failedWrite).hasCommit q = d.hasCommit q := by
  refine ⟨by rw [Dev.journalFail_engine]; simp, by rw [Dev.journalFail_engine], fun q => ?_⟩
  rw [← d.failedAsks_hasCommit p slot failedWrite, Dev.hasCommit, Dev.anyEntry, Dev.journalFail_engine]
  rfl

/-! ### The end of a write of before the loss (R96) -/

/-- The commit ends without a record at its first failure, its recommit request queued. -/
theorem Dev.writeRetry_endWithoutRecord (p : Pocket) (slot : Fin 16) (kind : Kind) (d : Dev) :
    ((d.writeRetry p slot).endWithoutRecord p kind).ring =
      d.ring.set p { d.ring.get p with writePos := slot + 1, failures := 0 } ∧
    (((d.writeRetry p slot).endWithoutRecord p kind).psq.get p).advisory.writeRetry = true ∧
    (((d.writeRetry p slot).endWithoutRecord p kind).psq.get p).mark =
      (if kind = .close then none else (d.psq.get p).mark) ∧
    (∀ im k, d.image.get p = some im → im.recommit = some k →
      ((d.writeRetry p slot).endWithoutRecord p kind).hasCommit p = true ∧
      ((d.writeRetry p slot).endWithoutRecord p kind).image.get p = some { im with
        commit := .queued k, recommit := none, closeReason := if kind = .close then none else im.closeReason }) ∧
    (∀ im, d.image.get p = some im → im.recommit = none →
      ((d.writeRetry p slot).endWithoutRecord p kind).hasCommit p = d.hasCommit p ∧
      ((d.writeRetry p slot).endWithoutRecord p kind).image.get p = some { im with
        commit := .none, closeReason := if kind = .close then none else im.closeReason }) ∧
    (∀ q, q ≠ p → ((d.writeRetry p slot).endWithoutRecord p kind).hasCommit q = d.hasCommit q) ∧
    ((d.writeRetry p slot).endWithoutRecord p kind).engine.inFlight = d.engine.inFlight ∧
    ((d.writeRetry p slot).endWithoutRecord p kind).engine.service = none := by
  obtain ⟨hring, hpsq, _, hflight, _⟩ := d.writeRetry_parts p slot
  obtain ⟨hering, hepsq, heimage, heflight, heservice⟩ := (d.writeRetry p slot).endWithoutRecord_parts p kind
  obtain ⟨hother, hsome, hnone⟩ := (d.writeRetry p slot).endWithoutRecord_hasCommit p kind
  refine ⟨by simp [hering, hring, Per.set_set], by simp [hepsq, hpsq, Sequencer.put], by simp [hepsq, hpsq, Sequencer.put],
    fun im k him hr => ⟨hsome im k (by simpa using him) hr, by simp [heimage, him, Image.endedUnwritten, hr]⟩,
    fun im him hr => ⟨?_, by simp [heimage, him, Image.endedUnwritten, hr]⟩, fun q hq => ?_, heflight.trans hflight, heservice⟩
  · rw [hnone im (by simpa using him) hr, Dev.writeRetry_hasCommit]
  · rw [hother q hq, Dev.writeRetry_hasCommit]

/-! ### A retry in LOSS_COMMIT (R96) -/

section RetryLoss
variable {d : Dev} {p : Pocket} {slot : Fin 16} {snap : Snapshot}
  (hfree : d.engine.inFlight = none) (hservice : d.engine.service = some ⟨p, some snap⟩)
include hfree hservice

theorem Dev.lossSelect_of_service_low {n : Nat} (hlow : d.reserve.level < 360) : Dev.lossSelect (n + 1) d = d.skipAll := by
  simp [Dev.lossSelect, hfree, hservice, vWrite, hlow]

theorem Dev.lossSelect_of_service_writable {n : Nat} (hlevel : 360 ≤ d.reserve.level) (hw : d.writable p) :
    Dev.lossSelect (n + 1) d = d.writeSnapshot p snap := by
  simp [Dev.lossSelect, hfree, hservice, vWrite, Nat.not_lt.2 hlevel, (d.targetBlank_iff p).2 hw, Dev.writeStart_of_retry]

theorem Dev.lossSelect_of_service_skips {n : Nat} (hlevel : 360 ≤ d.reserve.level) (hw : ¬d.writable p) :
    Dev.lossSelect (n + 1) d = Dev.lossSelect n (d.skipCommit p) := by
  simp [Dev.lossSelect, hfree, hservice, vWrite, Nat.not_lt.2 hlevel, mt (d.targetBlank_iff p).1 hw]

end RetryLoss

end Sys2Proof.Machine

namespace Sys2Proof.Proofs

open Sys2Proof.Machine

/-- Settles O29: the page, then a first and a second failure in RUN and in LOSS_COMMIT. -/
theorem writeFails : Obligations.WriteFails := by
  unfold Obligations.WriteFails
  intro s p slot snap seq beforeLoss damage page hflight hpage hne
  have hexec := exec_writeVerifyDone_failed hflight hpage hne
  generalize hd : s.dev.endOperation = d at hexec
  refine ⟨fun i hi h => ?_, fun hbefore hrun hhold => ?_, fun hrun => ⟨fun hends => ?_, fun hbefore hfailures hservice => ?_⟩⟩
  · rw [hpage]
    exact programmed_keeps_written (by rwa [Memory.page_length]) h
  · rw [Dev.afterOperation_of_run (by simpa [← hd] using hrun) (Dev.writeFailed_resetHold.trans (by rw [← hd]; exact hhold))]
      at hexec
    refine ⟨_, hexec, rfl, rfl, fun hfailures hservice => ?_, fun hfailures hformat => ?_, ?_, ?_⟩
    · subst hd hbefore
      rw [Dev.writeFailed_of_first (d := s.dev.endOperation) hfailures, if_neg Bool.false_ne_true]
      obtain ⟨hretry, hraised, hpos, hone, himage, hserved⟩ :=
        Dev.writeRetry_select_parts (d := s.dev.endOperation) (slot := slot) hrun hhold rfl hservice
      exact ⟨hretry, hraised, hpos, hone, himage, hserved,
        Dev.writeRetry_select_writes (d := s.dev.endOperation) hrun hhold rfl hservice,
        Dev.writeRetry_select_erases (d := s.dev.endOperation) hrun hhold rfl hservice⟩
    · subst hd
      rw [Dev.writeFailed_of_second (d := s.dev.endOperation) hfailures]
      have hfails := (s.dev.endOperation.journalFail_failsInJournal p slot (some snap) true).select
      obtain ⟨hpos, hzero⟩ := Dev.journalFail_select_ring (d := s.dev.endOperation) (slot := slot) (snap := some snap)
        (failedWrite := true) hformat
      exact ⟨hfails.fault, hfails.raised, hpos, hzero, hfails.unmarked, hfails.marked,
        fun e he => (hfails.start e he).1 snap rfl, hfails.checkpoint⟩
    · rw [← hd]
      exact Dev.writeFailed_touchesOnly (d := s.dev.endOperation).spares_select (by simp) (by simp) (by simp)
    · rw [← hd]
      apply Dev.ext <;> simp
  · rw [Dev.afterOperation_of_loss (by simpa [← hd] using hrun)] at hexec
    have htouches := Dev.writeFailed_touchesOnly (p := p) (slot := slot) (snap := snap) (beforeLoss := beforeLoss) (d := d)
    have hspares : s.dev.sparesOther p (d.writeFailed p slot snap beforeLoss) := by
      rw [← hd]
      exact Dev.writeFailed_touchesOnly (d := s.dev.endOperation).spares (by simp) (by simp) (by simp)
    have hframe : d.writeFailed p slot snap beforeLoss = { s.dev with
        bkd := (d.writeFailed p slot snap beforeLoss).bkd, psq := (d.writeFailed p slot snap beforeLoss).psq
        image := (d.writeFailed p slot snap beforeLoss).image, engine := (d.writeFailed p slot snap beforeLoss).engine
        ring := (d.writeFailed p slot snap beforeLoss).ring, link := (d.writeFailed p slot snap beforeLoss).link } := by
      rw [← hd]
      apply Dev.ext <;> simp
    have himage : (d.writeFailed p slot snap beforeLoss).image.get p.other = s.dev.image.get p.other := by
      rw [htouches.image _ p.other_ne, ← hd]
      rfl
    by_cases hfailures : (d.ring.get p).failures = 0
    · have hbefore : beforeLoss = true := hends.resolve_right (by rw [← hd] at hfailures; exact Classical.not_not.2 hfailures)
      have hfirst := Dev.writeFailed_of_first (slot := slot) (snap := snap) (beforeLoss := beforeLoss) hfailures
      rw [if_pos hbefore] at hfirst
      rw [hfirst] at hexec hspares hframe himage
      obtain ⟨hring, hretry, hmark, hsome, hnone, hother, hflight', hidle⟩ :=
        d.writeRetry_endWithoutRecord p slot snap.kind
      subst hd
      exact ⟨_, _, hexec, rfl, rfl, Dev.lossWork_lossWorks hflight' hidle, hring,
        fun _ => ⟨hretry, by simp, hmark, hsome, hnone⟩, fun h => absurd hfailures h, hother _ p.other_ne, himage, hflight',
        hidle, hspares, hframe⟩
    · have hsecond := Dev.writeFailed_of_second (slot := slot) (snap := snap) (beforeLoss := beforeLoss) hfailures
      rw [hsecond] at hexec hspares hframe himage
      obtain ⟨hflight', hidle, hhas⟩ := Dev.journalFail_idle (d := d) (p := p) (slot := slot) (snap := some snap)
        (failedWrite := true)
      have hfails := d.journalFail_failsInJournal p slot (some snap) true
      have hring := d.journalFail_ring p slot (some snap) true
      subst hd
      exact ⟨_, _, hexec, rfl, rfl, Dev.lossWork_lossWorks hflight' hidle, hring, fun h => absurd h hfailures,
        fun _ => ⟨hfails.fault, hhas p, fun hmark => (hfails.unmarked hmark).2⟩, hhas _, himage, hflight', hidle, hspares,
        hframe⟩
  · subst hd hbefore
    rw [Dev.afterOperation_of_loss (by simpa using hrun), Dev.writeFailed_of_first (d := s.dev.endOperation) hfailures,
      if_neg Bool.false_ne_true] at hexec
    obtain ⟨hring, hpsq, _, hflight', hserved⟩ := s.dev.endOperation.writeRetry_parts p slot
    have hservice' : (s.dev.endOperation.writeRetry p slot).engine.service = some ⟨p, some snap⟩ := hserved.trans hservice
    have hlevel : (s.dev.endOperation.writeRetry p slot).reserve = s.dev.reserve := by simp
    have hframe : (s.dev.endOperation.writeRetry p slot).bkd = s.dev.bkd ∧
        (s.dev.endOperation.writeRetry p slot).pins = s.dev.pins := by simp
    have hdown {x : Dev} (h : (s.dev.endOperation.writeRetry p slot).powersDown x) : s.dev.powersDown x := by
      rwa [Dev.powersDown, hframe.1, hframe.2] at h
    refine ⟨_, hexec, rfl, rfl, fun hlow => hdown ?_, fun henough hblank => ?_, fun henough hblank hp hother => hdown ?_⟩
    · exact Dev.lossWork_of_idle hflight' (Dev.lossSelect_of_service_low hflight' hservice' (by rwa [hlevel]))
        (by simpa using hflight')
    · have hselect := Dev.lossSelect_of_service_writable (n := 2) hflight' hservice' (by rwa [hlevel])
        ((s.dev.endOperation.writeRetry_writable p slot).2 hblank)
      have hwork : (s.dev.endOperation.writeRetry p slot).lossWork =
          (s.dev.endOperation.writeRetry p slot).writeSnapshot p snap := by
        rw [Dev.lossWork_eq hflight', hselect]
        exact if_pos rfl
      rw [hwork]
      exact ⟨by simpa [Dev.writeSnapshot] using hrun, by simp [Dev.writeSnapshot, hpsq, Sequencer.put],
        by simp, by simp [Dev.writeSnapshot_parts, hring], by simp [Dev.writeSnapshot_parts, hring],
        by simp [Dev.writeSnapshot]⟩
    · have hskip := Dev.lossSelect_of_service_skips (n := 2) hflight' hservice' (by rwa [hlevel])
        (by rw [Dev.writeRetry_writable]; simpa using hblank)
      have hnone (q : Pocket) : ((s.dev.endOperation.writeRetry p slot).skipCommit p).hasCommit q = false :=
        Dev.skipCommit_none (by rw [Dev.writeRetry_hasCommit]; exact hother) q
      exact Dev.lossWork_of_idle hflight'
        (hskip.trans (Dev.lossSelect_of_none (by simpa using hflight') (by simp) (Dev.lossNext_of_none hnone)))
        (by simpa using hflight')

end Sys2Proof.Proofs
end

section
/-! The end of a write that verifies (O28). -/

namespace Sys2Proof.Machine

/-! ### The page (R79, R84) -/

/-- A record written undamaged over an erased page reads back as it was written, and no other byte moves. -/
theorem Memory.read_recordWritten {m : Memory} {n : Nat} (hwf : m.wf = true) (bytes : List Byte) (a : Nat) :
    (m.setPage n (pageOf bytes)).read a =
      if n * 128 ≤ a ∧ a < n * 128 + 128 then bytes.getD (a - n * 128) 0xFF else m.read a := by
  rw [Memory.read_setPage hwf _ _ _ (pageOf_length bytes)]
  have hbase : pageBase n = n * 128 := by simp [pageBase, pageSize, Nat.mul_comm]
  rw [hbase]
  split
  · next h =>
    have hlt : a - n * 128 < pageSize := by have := h.2; omega
    rw [if_pos (by simpa [pageSize] using h)]
    simp [pageOf, hlt]
  · next h => rw [if_neg (by simpa [pageSize] using h)]

/-! ### The ring, the history list and L (R27, R89, R116) -/

section Kept
variable (p : Pocket) (slot : Fin 16) (snap : Snapshot) (seq : Word) (beforeLoss : Bool) (d : Dev)

/-- The part once the record is the newest, before the replies. -/
def Dev.recordKept (p : Pocket) (slot : Fin 16) (snap : Snapshot) (seq : Word) (beforeLoss : Bool) (d : Dev) : Dev :=
  let d1 := (d.setRing p { d.ring.get p with
      newest := some seq, writePos := slot + 1, failures := 0, completionAge := some d.engine.completions }).setEngine
    { d.engine with service := none, completions := d.engine.completions + 1 }
  let d2 := d1.addHistory p (snap.record p seq)
  if beforeLoss then d2 else d2.setFacts p { d2.bkd.facts.get p with losses := 0 }

theorem Dev.recordKept_parts :
    (d.recordKept p slot snap seq beforeLoss).ring = d.ring.set p { d.ring.get p with
      newest := some seq, writePos := slot + 1, failures := 0, completionAge := some d.engine.completions } ∧
    (d.recordKept p slot snap seq beforeLoss).engine =
      { d.engine with service := none, completions := d.engine.completions + 1 } ∧
    (d.recordKept p slot snap seq beforeLoss).journal = d.journal.set p { d.journal.get p with
      history := (snap.record p seq :: (d.journal.get p).history).take 16 } ∧
    (d.recordKept p slot snap seq beforeLoss).bkd.facts = d.bkd.facts.set p
      (if beforeLoss then d.bkd.facts.get p else { d.bkd.facts.get p with losses := 0 }) ∧
    (d.recordKept p slot snap seq beforeLoss).psq = d.psq ∧ (d.recordKept p slot snap seq beforeLoss).image = d.image ∧
    (d.recordKept p slot snap seq beforeLoss).link = d.link := by
  cases beforeLoss <;> simp [Dev.recordKept, Dev.addHistory]

end Kept

/-! ### The replies (R34, R72) -/

section Replies
variable (p : Pocket) (snap : Snapshot) (seq : Word) (d : Dev)

/-- The part once the replies to START and CHECKPOINT are given. -/
def Dev.repliesGiven (p : Pocket) (snap : Snapshot) (seq : Word) (d : Dev) : Dev :=
  (d.answerStart p snap.cycle seq).answerCheckpoint p seq

theorem Dev.answerStart_cases (cycle : Nat) :
    ∃ bytes, d.answerStart p cycle seq = d.release .start (some p) bytes ∧
      ∀ e, d.owed .start (some p) = some e →
        bytes = [if e.clamped then 1 else 0, pocketIndexByte p] ++ leBytes 2 cycle ++ wordBytes seq := by
  cases h : d.owed .start (some p) with
  | none => exact ⟨[], by simp [Dev.answerStart, h, Dev.release_of_none h], fun _ he => absurd he.symm (Option.some_ne_none _)⟩
  | some e =>
    refine ⟨pocketReply (if e.clamped then .clamped else .ok) p (leBytes 2 cycle ++ wordBytes seq),
      by simp [Dev.answerStart, h], fun e' he => ?_⟩
    obtain rfl := Option.some.inj he
    cases e.clamped <;> rfl

/-- A CHECKPOINT that waits for this completion is answered; one that waits for a later one waits for one fewer. -/
theorem Dev.answerCheckpoint_cases :
    (d.owed .checkpoint (some p) = none ∧ d.answerCheckpoint p seq = d) ∨
    (∃ e, d.owed .checkpoint (some p) = some e ∧ e.after = 0 ∧
      d.answerCheckpoint p seq = d.release .checkpoint (some p) (pocketReply .ok p (wordBytes seq))) ∨
    (∃ e n, d.owed .checkpoint (some p) = some e ∧ e.after = n + 1 ∧
      d.answerCheckpoint p seq = (d.undefer .checkpoint (some p)).defer { e with after := n }) := by
  cases h : d.owed .checkpoint (some p) with
  | none => exact .inl ⟨rfl, by simp [Dev.answerCheckpoint, h]⟩
  | some e =>
    cases ha : e.after with
    | zero => exact .inr (.inl ⟨e, rfl, ha, by simp [Dev.answerCheckpoint, h, ha]⟩)
    | succ n => exact .inr (.inr ⟨e, n, rfl, ha, by simp [Dev.answerCheckpoint, h, ha]⟩)

theorem Dev.answerCheckpoint_answers : d.link.Answers (d.answerCheckpoint p seq).link := by
  rcases d.answerCheckpoint_cases p seq with ⟨_, heq⟩ | ⟨_, _, _, heq⟩ | ⟨_, _, _, _, heq⟩ <;> rw [heq]
  · exact .of_eq rfl
  · exact Dev.release_answers ..
  · exact (Dev.undefer_answers ..).trans (Dev.defer_answers ..)

/-- The CHECKPOINT reply leaves what is owed to other requests. -/
theorem Dev.answerCheckpoint_owed {q : Request} (hq : q ≠ .checkpoint) :
    (d.answerCheckpoint p seq).owed q (some p) = d.owed q (some p) := by
  rcases d.answerCheckpoint_cases p seq with ⟨_, heq⟩ | ⟨_, _, _, heq⟩ | ⟨e, n, he, _, heq⟩ <;> rw [heq]
  · exact Dev.release_owed_other hq
  · have hrequest : e.request = .checkpoint := by
      have hfor := List.find?_some he
      simp only [Deferred.isFor, Bool.and_eq_true, beq_iff_eq] at hfor
      exact hfor.1
    have hnot : Deferred.isFor q (some p) { e with after := n } = false := by
      simp [Deferred.isFor, hrequest, hq.symm]
    rw [← Dev.undefer_owed_other (d := d) (x := some p) hq]
    simp [Dev.owed, Dev.defer, List.find?_append, hnot]

theorem Dev.repliesGiven_answers : d.link.Answers (d.repliesGiven p snap seq).link := by
  obtain ⟨bytes, heq, _⟩ := d.answerStart_cases p seq snap.cycle
  refine Link.Answers.trans ?_ (Dev.answerCheckpoint_answers ..)
  rw [heq]
  exact Dev.release_answers ..

theorem Dev.repliesGiven_sent :
    (∀ e, d.owed .start (some p) = some e →
      (⟨0x82, [if e.clamped then 1 else 0, pocketIndexByte p] ++ leBytes 2 snap.cycle ++ wordBytes seq⟩ : Reply) ∈
        (d.repliesGiven p snap seq).link.transmit) ∧
    (d.repliesGiven p snap seq).owed .start (some p) = none ∧
    (∀ e, d.owed .checkpoint (some p) = some e → e.after = 0 →
      (⟨0x84, [0, pocketIndexByte p] ++ wordBytes seq⟩ : Reply) ∈ (d.repliesGiven p snap seq).link.transmit ∧
      (d.repliesGiven p snap seq).owed .checkpoint (some p) = none) ∧
    (d.repliesGiven p snap seq).owed .endCycle (some p) = d.owed .endCycle (some p) := by
  obtain ⟨bytes, heq, hbytes⟩ := d.answerStart_cases p seq snap.cycle
  have hcheckpoint : (d.answerStart p snap.cycle seq).owed .checkpoint (some p) = d.owed .checkpoint (some p) := by
    rw [heq, Dev.release_owed_other (by decide)]
  refine ⟨fun e he => ?_, ?_, fun e he ha => ?_, ?_⟩
  · refine (Dev.answerCheckpoint_answers ..).sent.subset ?_
    rw [heq, ← hbytes e he]
    exact Dev.release_sent (q := .start) he
  · rw [Dev.repliesGiven, Dev.answerCheckpoint_owed _ _ _ (by decide), heq, Dev.release_owed]
  · rcases (d.answerStart p snap.cycle seq).answerCheckpoint_cases p seq with ⟨h, _⟩ | ⟨e', h, _, heq'⟩ | ⟨e', n, h, hn, _⟩
    · rw [hcheckpoint, he] at h
      exact absurd h (Option.some_ne_none e)
    · rw [Dev.repliesGiven, heq']
      exact ⟨Dev.release_sent (q := .checkpoint) h, Dev.release_owed⟩
    · rw [hcheckpoint, he] at h
      obtain rfl := Option.some.inj h
      omega
  · rw [Dev.repliesGiven, Dev.answerCheckpoint_owed _ _ _ (by decide), heq, Dev.release_owed_other (by decide)]

end Replies

/-! ### An entry that may join (R66, R69) -/

/-- The queue is as before, or one COMMIT entry of the pocket has joined. -/
def Engine.commitMayJoin (p : Pocket) (e e' : Engine) : Prop :=
  e' = e ∨ e' = { e with queue := e.queue ++ [⟨e.nextAge, .commit p⟩], nextAge := e.nextAge + 1 }

section Joins
variable {p : Pocket} {d d' : Dev} (h : d.engine.commitMayJoin p d'.engine)
include h

theorem Engine.commitMayJoin.idle :
    d'.engine.inFlight = d.engine.inFlight ∧ d'.engine.service = d.engine.service := by
  rcases h with heq | heq <;> rw [heq] <;> exact ⟨rfl, rfl⟩

theorem Engine.commitMayJoin.anyEntry {f : Work → Bool} (hf : f (.commit p) = false) : d'.anyEntry f = d.anyEntry f := by
  rcases h with heq | heq <;> rw [Dev.anyEntry, heq]
  · rfl
  · simp [Dev.anyEntry, hf]

theorem Engine.commitMayJoin.countEntries {f : Work → Bool} (hf : f (.commit p) = false) :
    d'.countEntries f = d.countEntries f := by
  rcases h with heq | heq <;> rw [Dev.countEntries, heq]
  · rfl
  · simp [Dev.countEntries, List.countP_append, hf]

end Joins

/-! ### The image after a completion (R69, R145) -/

/-- An image whose record other than CLOSE is complete: the recommit request queues its entry, and a dirty image gives a
PROGRESS trigger. -/
def Image.completed (journalFailed : Bool) (snap : Snapshot) (im : Image) : Image :=
  { im with
    exhaustRef := snap.body.exhaustLast, resume := none, recommit := none
    commit := (im.recommit.map CommitStatus.queued).getD
      (if im.dirty && !journalFailed then .queued .progress else .none) }

section Completed
variable {p : Pocket} {snap : Snapshot} {d : Dev} {im : Image}

theorem Dev.recommit_of_some {k : Kind} (him : d.image.get p = some im) (hr : im.recommit = some k) :
    d.recommit p = (d.setImage p (some { im with commit := .queued k, recommit := none })).enqueue (.commit p) := by
  simp [Dev.recommit, him, hr]

theorem Dev.recommit_of_none (him : d.image.get p = some im) (hr : im.recommit = none) :
    d.recommit p = if im.dirty then (d.setImage p (some { im with commit := .none })).trigger p .progress none
      else d.setImage p (some { im with commit := .none }) := by
  simp [Dev.recommit, him, hr]

theorem Dev.trigger_mayJoin {kind : Kind} {reason : Option CloseReason} (him : d.image.get p = some im)
    (hc : im.commit = .none) : d.engine.commitMayJoin p (d.trigger p kind reason).engine := by
  rcases d.trigger_cases p kind reason with ⟨_, heq⟩ | ⟨_, im', him', ⟨_, heq⟩ | ⟨k, hk, _⟩ | ⟨k, hk, _⟩⟩
  · exact .inl (by rw [heq])
  · exact .inr (by rw [heq]; rfl)
  all_goals
    obtain rfl := Option.some.inj (him'.symm.trans him)
    exact absurd (hc.symm.trans hk) CommitStatus.noConfusion

theorem Dev.recommit_image_engine (him : d.image.get p = some im) (hexhaust : im.exhaustRef = snap.body.exhaustLast)
    (hresume : im.resume = none) :
    (d.recommit p).image = d.image.set p (some (im.completed (d.journalFailed p) snap)) ∧
    d.engine.commitMayJoin p (d.recommit p).engine := by
  cases hr : im.recommit with
  | some k =>
    rw [Dev.recommit_of_some him hr]
    exact ⟨by simp [Image.completed, hr, ← hexhaust, ← hresume], .inr rfl⟩
  | none =>
    rw [Dev.recommit_of_none him hr]
    have him1 : (d.setImage p (some { im with commit := .none })).image.get p = some { im with commit := .none } := by simp
    split
    · next hdirty =>
      refine ⟨?_, Dev.trigger_mayJoin him1 rfl⟩
      have hj : (d.setImage p (some { im with commit := .none })).journalFailed p = d.journalFailed p := rfl
      rw [Dev.trigger_image_eq .progress none him1, hj]
      cases d.journalFailed p <;>
        simp [Image.triggeredUnless, Image.triggered, Image.completed, keepReason_none, hr, hdirty, ← hexhaust, ← hresume,
          Per.set_set]
    · next hdirty =>
      exact ⟨by simp [Image.completed, hr, hdirty, ← hexhaust, ← hresume], .inl rfl⟩

/-- What a completion makes of the image and of the queue. -/
theorem Dev.imageCompleted_parts (p : Pocket) (snap : Snapshot) (d : Dev) :
    (d.imageCompleted p snap).image = d.image.set p ((d.image.get p).map (Image.completed (d.journalFailed p) snap)) ∧
    d.engine.commitMayJoin p (d.imageCompleted p snap).engine := by
  cases him : d.image.get p with
  | none =>
    have hsame : (d.imageCompleted p snap).image = d.image.set p none ∧ (d.imageCompleted p snap).engine = d.engine := by
      simp [Dev.imageCompleted, Dev.modImage, him, Dev.recommit]
    exact ⟨hsame.1, .inl hsame.2⟩
  | some im =>
    have hmod : (d.modImage p fun im => { im with exhaustRef := snap.body.exhaustLast, resume := none }).image.get p =
        some { im with exhaustRef := snap.body.exhaustLast, resume := none } := by simp [Dev.modImage, him]
    obtain ⟨himage, hengine⟩ := Dev.recommit_image_engine (snap := snap) hmod rfl rfl
    refine ⟨?_, hengine⟩
    rw [Dev.imageCompleted, himage]
    simp [Dev.modImage, Per.set_set]
    rfl

end Completed

end Sys2Proof.Machine
end

section
/-! The completion of a commit, and the selection after it (O28). -/

namespace Sys2Proof.Machine

/-! ### The completion in parts (R89, R90) -/

/-- A CLOSE closes its pocket; another record completes the image. -/
def Dev.recordClosed (p : Pocket) (snap : Snapshot) (d : Dev) : Dev :=
  if snap.kind = .close then d.finishClosure p .ok else d.imageCompleted p snap

/-- The part before the erase-ahead. -/
def Dev.completed (p : Pocket) (slot : Fin 16) (snap : Snapshot) (seq : Word) (beforeLoss : Bool) (d : Dev) : Dev :=
  ((d.recordKept p slot snap seq beforeLoss).repliesGiven p snap seq).recordClosed p snap

/-! ### What is owed (R165) -/

theorem Dev.owed_of_subset {d d' : Dev} {q : Request} {x : Option Pocket}
    (h : ∀ e ∈ d'.link.deferred, e ∈ d.link.deferred) (hnone : d.owed q x = none) : d'.owed q x = none :=
  List.find?_eq_none.2 fun e he => List.find?_eq_none.1 hnone e (h e he)

theorem Dev.release_deferred {q : Request} {x : Option Pocket} {bytes : List Byte} {d : Dev} :
    ∀ e ∈ (d.release q x bytes).link.deferred, e ∈ d.link.deferred := by
  rcases d.release_cases q x bytes with ⟨_, heq⟩ | ⟨_, _, heq⟩ <;> rw [heq]
  · exact fun _ he => he
  · exact fun e he => (List.mem_filter.1 he).1

theorem Dev.finishClosure_deferred {p : Pocket} {r : Result} {d : Dev} :
    ∀ e ∈ (d.finishClosure p r).link.deferred, e ∈ d.link.deferred := by
  have hrelease (x : Dev) (hx : x.link = d.link) :
      ∀ e ∈ (x.release .endCycle (some p) (pocketReply r p [])).link.deferred, e ∈ d.link.deferred := by
    rw [← hx]
    exact Dev.release_deferred
  rw [Dev.finishClosure]
  split
  · simp
  · simp only [Dev.closureEffect]
    (repeat' split) <;> exact hrelease _ rfl

section Completed
variable (p : Pocket) (slot : Fin 16) (snap : Snapshot) (seq : Word) (beforeLoss : Bool) (d : Dev)

theorem Dev.commitCompleted_eq :
    d.commitCompleted p slot snap seq beforeLoss = (d.completed p slot snap seq beforeLoss).askErase p (slot + 2) := rfl

@[simp] theorem Dev.repliesGiven_frame :
    (d.repliesGiven p snap seq).pins = d.pins ∧ (d.repliesGiven p snap seq).bkd = d.bkd ∧
    (d.repliesGiven p snap seq).psq = d.psq ∧ (d.repliesGiven p snap seq).image = d.image ∧
    (d.repliesGiven p snap seq).engine = d.engine ∧ (d.repliesGiven p snap seq).ring = d.ring ∧
    (d.repliesGiven p snap seq).journal = d.journal := by
  simp [Dev.repliesGiven]

@[simp] theorem Dev.recordClosed_frame :
    (d.recordClosed p snap).ring = d.ring ∧ (d.recordClosed p snap).journal = d.journal := by
  rw [Dev.recordClosed]
  split <;> simp

theorem Dev.recordClosed_engine : d.engine.commitMayJoin p (d.recordClosed p snap).engine := by
  rw [Dev.recordClosed]
  split
  · exact .inl (by simp)
  · exact (d.imageCompleted_parts p snap).2

theorem Dev.recordClosed_answers : d.link.Answers (d.recordClosed p snap).link := by
  rw [Dev.recordClosed]
  split
  · exact Dev.finishClosure_answers ..
  · exact .of_eq (by simp)

theorem Dev.recordClosed_touchesOnly : d.TouchesOnly p (d.recordClosed p snap) := by
  rw [Dev.recordClosed]
  split
  · exact Dev.finishClosure_touchesOnly ..
  · have himage := (d.imageCompleted_parts p snap).1
    exact ⟨fun _ _ => by simp, fun _ _ => by simp, fun q hq => by rw [himage, Per.set_get_of_ne _ _ hq], fun _ _ => by simp,
      fun _ _ => by simp⟩

theorem Dev.recordKept_touchesOnly : d.TouchesOnly p (d.recordKept p slot snap seq beforeLoss) := by
  obtain ⟨hring, _, hjournal, hfacts, hpsq, himage, _⟩ := d.recordKept_parts p slot snap seq beforeLoss
  exact ⟨fun _ _ => by rw [hpsq], fun q hq => by rw [hfacts, Per.set_get_of_ne _ _ hq], fun _ _ => by rw [himage],
    fun q hq => by rw [hring, Per.set_get_of_ne _ _ hq], fun q hq => by rw [hjournal, Per.set_get_of_ne _ _ hq]⟩

theorem Dev.commitCompleted_touchesOnly : d.TouchesOnly p (d.commitCompleted p slot snap seq beforeLoss) := by
  rw [Dev.commitCompleted_eq]
  have hreplies : (d.recordKept p slot snap seq beforeLoss).TouchesOnly p
      ((d.recordKept p slot snap seq beforeLoss).repliesGiven p snap seq) :=
    .of_eq (by simp) (by simp) (by simp) (by simp) (by simp)
  have hask : (d.completed p slot snap seq beforeLoss).TouchesOnly p
      ((d.completed p slot snap seq beforeLoss).askErase p (slot + 2)) :=
    .of_eq (by simp) (by simp) (by simp) (by simp) (by simp)
  exact (((d.recordKept_touchesOnly p slot snap seq beforeLoss).trans hreplies).trans (Dev.recordClosed_touchesOnly ..)).trans
    hask

/-- The link from the replies on, up to the selection. -/
theorem Dev.commitCompleted_answers_replies :
    ((d.recordKept p slot snap seq beforeLoss).repliesGiven p snap seq).link.Answers
      (d.commitCompleted p slot snap seq beforeLoss).link := by
  have hask : (d.commitCompleted p slot snap seq beforeLoss).link = (d.completed p slot snap seq beforeLoss).link := by
    simp [Dev.commitCompleted_eq]
  rw [hask]
  exact Dev.recordClosed_answers ..

theorem Dev.commitCompleted_answers : d.link.Answers (d.commitCompleted p slot snap seq beforeLoss).link := by
  refine Link.Answers.trans ?_ (d.commitCompleted_answers_replies p slot snap seq beforeLoss)
  rw [← (d.recordKept_parts p slot snap seq beforeLoss).2.2.2.2.2.2]
  exact Dev.repliesGiven_answers ..

/-- The ring, the history list and the queue at the completion. -/
theorem Dev.commitCompleted_parts :
    (d.commitCompleted p slot snap seq beforeLoss).ring = d.ring.set p { d.ring.get p with
      newest := some seq, writePos := slot + 1, failures := 0, completionAge := some d.engine.completions } ∧
    (d.commitCompleted p slot snap seq beforeLoss).journal = d.journal.set p { d.journal.get p with
      history := (snap.record p seq :: (d.journal.get p).history).take 16 } ∧
    (d.commitCompleted p slot snap seq beforeLoss).engine.inFlight = d.engine.inFlight ∧
    (d.commitCompleted p slot snap seq beforeLoss).engine.service = none := by
  obtain ⟨hring, hengine, hjournal, _⟩ := d.recordKept_parts p slot snap seq beforeLoss
  obtain ⟨hflight, hservice⟩ :=
    (((d.recordKept p slot snap seq beforeLoss).repliesGiven p snap seq).recordClosed_engine p snap).idle
  rw [Dev.commitCompleted_eq, Dev.askErase_engine]
  refine ⟨?_, ?_, ?_, ?_⟩
  · simpa [Dev.completed] using hring
  · simpa [Dev.completed] using hjournal
  · simpa [Dev.completed, hengine] using hflight
  · simpa [Dev.completed, hengine] using hservice

/-- The entries of work other than a COMMIT, before the erase-ahead. -/
theorem Dev.completed_anyEntry {f : Work → Bool} (hf : f (.commit p) = false) :
    (d.completed p slot snap seq beforeLoss).anyEntry f = d.anyEntry f ∧
    (d.completed p slot snap seq beforeLoss).countEntries f = d.countEntries f := by
  have hjoins := ((d.recordKept p slot snap seq beforeLoss).repliesGiven p snap seq).recordClosed_engine p snap
  have hqueue : ((d.recordKept p slot snap seq beforeLoss).repliesGiven p snap seq).engine.queue = d.engine.queue := by
    rw [Dev.repliesGiven_frame .. |>.2.2.2.2.1, (d.recordKept_parts p slot snap seq beforeLoss).2.1]
  exact ⟨(hjoins.anyEntry hf).trans (by rw [Dev.anyEntry, hqueue]; rfl),
    (hjoins.countEntries hf).trans (by rw [Dev.countEntries, hqueue]; rfl)⟩

theorem Dev.completed_blank :
    ((d.completed p slot snap seq beforeLoss).ring.get p).blank = (d.ring.get p).blank := by
  simp [Dev.completed, (d.recordKept_parts p slot snap seq beforeLoss).1]

/-- No reply comes to be owed after the replies to START and CHECKPOINT. -/
theorem Dev.commitCompleted_deferred : ∀ e ∈ (d.commitCompleted p slot snap seq beforeLoss).link.deferred,
    e ∈ ((d.recordKept p slot snap seq beforeLoss).repliesGiven p snap seq).link.deferred := by
  have hask : (d.commitCompleted p slot snap seq beforeLoss).link = (d.completed p slot snap seq beforeLoss).link := by
    simp [Dev.commitCompleted_eq]
  rw [hask, Dev.completed, Dev.recordClosed]
  split
  · exact Dev.finishClosure_deferred
  · simp

/-- A record other than CLOSE: the sequencer is left, and the image takes its completion. -/
theorem Dev.commitCompleted_of_not_close (hk : snap.kind ≠ .close) :
    (d.commitCompleted p slot snap seq beforeLoss).psq = d.psq ∧
    (d.commitCompleted p slot snap seq beforeLoss).bkd.facts.get p =
      (if beforeLoss then d.bkd.facts.get p else { d.bkd.facts.get p with losses := 0 }) ∧
    (d.commitCompleted p slot snap seq beforeLoss).image =
      d.image.set p ((d.image.get p).map (Image.completed (d.journalFailed p) snap)) := by
  obtain ⟨_, _, _, hfacts, hpsq, himage, _⟩ := d.recordKept_parts p slot snap seq beforeLoss
  have hj : ((d.recordKept p slot snap seq beforeLoss).repliesGiven p snap seq).journalFailed p = d.journalFailed p := by
    simp [Dev.journalFailed, hpsq]
  have hcompleted := (((d.recordKept p slot snap seq beforeLoss).repliesGiven p snap seq).imageCompleted_parts p snap).1
  rw [hj, Dev.repliesGiven_frame .. |>.2.2.2.1, himage] at hcompleted
  rw [Dev.commitCompleted_eq, Dev.completed, Dev.recordClosed, if_neg hk]
  refine ⟨by simpa using hpsq, ?_, by simpa using hcompleted⟩
  simp [hfacts]

/-- The entry that a completion queues is the recommit request's. -/
theorem Dev.recommit_hasCommit {d : Dev} {im : Image} (him : d.image.get p = some im) :
    (∀ k, im.recommit = some k → (d.recommit p).hasCommit p = true) ∧
    (im.recommit = none → im.dirty = false → (d.recommit p).hasCommit p = d.hasCommit p) := by
  refine ⟨fun k hr => ?_, fun hr hclean => ?_⟩
  · rw [Dev.recommit_of_some him hr]
    simp [Dev.hasCommit, Dev.anyEntry, Dev.enqueue]
  · rw [Dev.recommit_of_none him hr, hclean, if_neg Bool.false_ne_true]
    rfl

theorem Dev.commitCompleted_hasCommit {im : Image} (hk : snap.kind ≠ .close) (him : d.image.get p = some im) :
    (∀ k, im.recommit = some k → (d.commitCompleted p slot snap seq beforeLoss).hasCommit p = true) ∧
    (im.recommit = none → im.dirty = false →
      (d.commitCompleted p slot snap seq beforeLoss).hasCommit p = d.hasCommit p) := by
  obtain ⟨_, hengine, _, _, _, himage, _⟩ := d.recordKept_parts p slot snap seq beforeLoss
  have himage' : (((d.recordKept p slot snap seq beforeLoss).repliesGiven p snap seq).modImage p
      fun im => { im with exhaustRef := snap.body.exhaustLast, resume := none }).image.get p =
      some { im with exhaustRef := snap.body.exhaustLast, resume := none } := by
    simp [Dev.modImage, himage, him]
  obtain ⟨hsome, hnone⟩ := Dev.recommit_hasCommit p himage'
  rw [Dev.commitCompleted_eq, Dev.askErase_hasCommit, Dev.completed, Dev.recordClosed, if_neg hk]
  refine ⟨hsome, fun hr hclean => (hnone hr hclean).trans ?_⟩
  simp [Dev.hasCommit, Dev.anyEntry, Dev.modImage, hengine]

theorem Dev.commitCompleted_hasCommit_other {q : Pocket} (hq : q ≠ p) :
    (d.commitCompleted p slot snap seq beforeLoss).hasCommit q = d.hasCommit q := by
  rw [Dev.commitCompleted_eq, Dev.askErase_hasCommit]
  have hwork : (Work.commit p == .commit q) = false := beq_eq_false_iff_ne.2 fun h => hq (Work.commit.inj h).symm
  exact (d.completed_anyEntry p slot snap seq beforeLoss (f := fun w => w == .commit q) hwork).1

/-- A CLOSE of a pocket that is not VACANT: its closure takes effect. -/
theorem Dev.commitCompleted_of_close (hk : snap.kind = .close) (hstate : (d.psq.get p).state ≠ .vacant) :
    d.commitCompleted p slot snap seq beforeLoss =
      (((d.recordKept p slot snap seq beforeLoss).repliesGiven p snap seq).closureEffect p .ok).askErase p (slot + 2) := by
  have hpsq := (d.recordKept_parts p slot snap seq beforeLoss).2.2.2.2.1
  rw [Dev.commitCompleted_eq, Dev.completed, Dev.recordClosed, if_pos hk,
    Dev.finishClosure_of_not_vacant _ _ _ (by simpa [hpsq] using hstate)]

theorem Dev.commitCompleted_close_parts (hk : snap.kind = .close) (hstate : (d.psq.get p).state ≠ .vacant) :
    (d.commitCompleted p slot snap seq beforeLoss).psq = d.psq.set p { d.psq.get p with
      state := .vacant, mark := none, choice := none, startKind := .warm } ∧
    (d.commitCompleted p slot snap seq beforeLoss).bkd.facts.get p = .clear ∧
    (d.commitCompleted p slot snap seq beforeLoss).image.get p = none ∧
    (∀ q, (d.commitCompleted p slot snap seq beforeLoss).hasCommit q = d.hasCommit q) ∧
    (∀ e, d.owed .endCycle (some p) = some e →
      (⟨0x85, [0, pocketIndexByte p]⟩ : Reply) ∈ (d.commitCompleted p slot snap seq beforeLoss).link.transmit) ∧
    (∀ r, (d.psq.get p).mark = some r → r.announced = true →
      (d.commitCompleted p slot snap seq beforeLoss).link.attention.closed = true) := by
  obtain ⟨_, hengine, _, _, hpsq, _, hlink⟩ := d.recordKept_parts p slot snap seq beforeLoss
  have howed (e : Deferred) (he : d.owed .endCycle (some p) = some e) :
      ((d.recordKept p slot snap seq beforeLoss).repliesGiven p snap seq).owed .endCycle (some p) = some e := by
    rw [((d.recordKept p slot snap seq beforeLoss).repliesGiven_sent p snap seq).2.2.2, Dev.owed, hlink]
    exact he
  rw [d.commitCompleted_of_close p slot snap seq beforeLoss hk hstate]
  refine ⟨by simp [Dev.closureEffect_psq, hpsq], by simp [Dev.closureEffect_facts], by simp [Dev.closureEffect_image],
    fun q => ?_, fun e he => ?_, fun r hr hannounced => ?_⟩
  · rw [Dev.askErase_hasCommit]
    simp [Dev.hasCommit, Dev.anyEntry, hengine]
  · rw [Dev.askErase_frame .. |>.2.2.2.2.2.2.2.2.2.2.2.2.2.2.2.2.1]
    exact Dev.closureEffect_sent p .ok _ (howed e he)
  · simpa using Dev.closureEffect_raises_closed .ok (d := (d.recordKept p slot snap seq beforeLoss).repliesGiven p snap seq)
      (by simpa [hpsq] using hr) hannounced

/-- A CLOSE of a pocket closed at STARTUP: its mark and its image go (R43). -/
theorem Dev.commitCompleted_of_vacant (hk : snap.kind = .close) (hstate : (d.psq.get p).state = .vacant) :
    (d.commitCompleted p slot snap seq beforeLoss).psq = d.psq.set p { d.psq.get p with mark := none } ∧
    (d.commitCompleted p slot snap seq beforeLoss).image.get p = none := by
  have hpsq := (d.recordKept_parts p slot snap seq beforeLoss).2.2.2.2.1
  rw [Dev.commitCompleted_eq, Dev.completed, Dev.recordClosed, if_pos hk,
    Dev.finishClosure_of_vacant _ _ _ (by simpa [hpsq] using hstate)]
  simp [Dev.startupClosureEnds, hpsq]

end Completed

/-- What a selection leaves of the image that a completion has made. -/
theorem Dev.select_completed {d : Dev} {p : Pocket} {j : Bool} {snap : Snapshot} {im : Image}
    (him : d.image.get p = some (im.completed j snap)) : ∃ im', d.select.image.get p = some im' ∧
      im'.body = im.body ∧ im'.exhaustRef = snap.body.exhaustLast ∧ im'.resume = none ∧ im'.recommit = none ∧
      (∀ k, im.recommit = some k → im'.commit = .queued k ∨ im'.commit = .inFlight k) ∧
      (im.recommit = none → im.dirty = false → im'.commit = .none) ∧
      (im.recommit = none → im.dirty = true → j = false →
        im'.commit = .queued .progress ∨ im'.commit = .inFlight .progress) := by
  obtain ⟨im', him', hkept, hqueued, hsame⟩ := Dev.select_commit him
  obtain ⟨hbody, _, href, hresume, hrecommit, _⟩ := Image.keptOrTaken_body hkept
  have htaken (k : Kind) (hk : (im.completed j snap).commit = .queued k) :
      im'.commit = .queued k ∨ im'.commit = .inFlight k := (hqueued k hk).imp_right And.left
  refine ⟨im', him', hbody, href, hresume, hrecommit, fun k hr => htaken k ?_, fun hr hclean => ?_,
    fun hr hdirty hj => htaken _ ?_⟩
  · simp [Image.completed, hr]
  · have hnone : (im.completed j snap).commit = .none := by simp [Image.completed, hr, hclean]
    rw [hsame fun k hk => CommitStatus.noConfusion (hnone.symm.trans hk), hnone]
  · simp [Image.completed, hr, hdirty, hj]

/-! ### The erase-ahead (R90) -/

section EraseAhead
variable {p : Pocket} {i : Fin 16} {d : Dev}

/-- An ERASE entry of a slot that is not the write position outlives a selection, or is the operation that it starts. -/
theorem Dev.select_keeps_erase (hservice : d.engine.service = none) (hany : d.anyEntry (· == .erase p i) = true)
    (hpos : (d.ring.get p).writePos ≠ i) :
    d.select.anyEntry (· == .erase p i) = true ∨ d.select.engine.inFlight = some (.erase p i .entry) := by
  obtain ⟨x, hx, hwork⟩ := List.any_eq_true.1 hany
  have hwork : x.work = .erase p i := beq_iff_eq.1 hwork
  have hstays (e : Entry) (he : e.work ≠ .erase p i) : x ∈ (d.dequeue e).engine.queue :=
    (List.mem_erase_of_ne (by rintro rfl; exact he hwork)).2 hx
  have hmem {d' : Dev} (h : x ∈ d'.engine.queue) : d'.anyEntry (· == .erase p i) = true :=
    List.any_eq_true.2 ⟨x, h, beq_iff_eq.2 hwork⟩
  rcases d.select_cases hservice with heq | ⟨e, q, _, hw, heq⟩ | heq <;> rw [heq]
  · exact .inl hany
  · have hx' := hstays e (by rw [hw]; exact Work.noConfusion)
    refine .inl (hmem ?_)
    by_cases hwritable : (d.dequeue e).writable q
    · rw [Dev.serve_of_writable (v := ⟨q, none⟩) hwritable]
      rcases (d.dequeue e).writeStart_cases ⟨q, none⟩ with ⟨_, _, heq⟩ | heq <;> rw [heq] <;> exact hx'
    · rw [Dev.serve_of_not_writable (v := ⟨q, none⟩) hwritable]
      refine List.mem_filter.2 ⟨hx', ?_⟩
      rw [hwork, bne_iff_ne]
      intro h
      obtain ⟨rfl, hi⟩ := Work.erase.inj h
      exact hpos (by simpa using hi.symm)
  · rcases d.selectBackground_cases with heq | ⟨e, op, hcase, heq⟩ | ⟨hnone, _⟩
    · exact .inl (by rw [heq]; exact hany)
    · rw [heq]
      by_cases he : e.work = .erase p i
      · rcases hcase with h | ⟨q, slot, hw, rfl⟩
        · simp [he, Work.isErase] at h
        · obtain ⟨rfl, rfl⟩ := Work.erase.inj (hw.symm.trans he)
          exact .inr rfl
      · exact .inl (hmem (hstays e he))
    · exact absurd (by simp [hwork, Work.isErase]) (List.find?_eq_none.1 hnone x hx)

/-- The ERASE of a slot that is not blank is asked for while there is room. -/
theorem Dev.askErase_asks (hblank : (d.ring.get p).blank[i] = false) (hroom : d.countEntries Work.isErase < 4) :
    (d.askErase p i).anyEntry (· == .erase p i) = true := by
  rcases d.askErase_cases p i with ⟨h | h | h, heq⟩ | ⟨_, _, _, heq⟩
  · rw [hblank] at h
    exact absurd h Bool.false_ne_true
  · rwa [heq]
  · omega
  · rw [heq]
    simp [Dev.anyEntry, Dev.enqueue]

/-- Where it is blank, or there is no room, none comes. -/
theorem Dev.askErase_drops (h : (d.ring.get p).blank[i] = true ∨ 4 ≤ d.countEntries Work.isErase) :
    d.askErase p i = d := by
  rcases d.askErase_cases p i with ⟨_, heq⟩ | ⟨hblank, _, hroom, _⟩
  · exact heq
  · rcases h with h | h
    · rw [hblank] at h
      exact absurd h Bool.false_ne_true
    · omega

end EraseAhead

end Sys2Proof.Machine

namespace Sys2Proof.Proofs

open Sys2Proof.Machine

/-- Settles O28: the page and the record, and then each part of the completion in RUN and in LOSS_COMMIT. -/
theorem writeCompletes : Obligations.WriteCompletes := by
  unfold Obligations.WriteCompletes
  intro s p slot snap seq beforeLoss hflight hwf herased
  have hpage : pageOf (snap.record p seq).written =
      programmed (s.array.page (slotPage p slot)) (snap.record p seq).written [] := by
    rw [Memory.page_erased herased, programmed_erased]
  have hexec := exec_writeVerifyDone_completed hflight hpage rfl
  have hread := Memory.read_recordWritten (n := slotPage p slot) hwf (snap.record p seq).written
  obtain ⟨hring, hjournal, hfree, hservice⟩ := s.dev.endOperation.commitCompleted_parts p slot snap seq beforeLoss
  have hanswers := s.dev.endOperation.commitCompleted_answers p slot snap seq beforeLoss
  have htouches := s.dev.endOperation.commitCompleted_touchesOnly p slot snap seq beforeLoss
  refine ⟨fun hrun hhold hformat => ?_, fun hrun hclean => ?_⟩
  · rw [Dev.afterOperation_of_run (by simpa using hrun) (hanswers.resetHold.trans hhold)] at hexec
    have hformat' : (s.dev.endOperation.commitCompleted p slot snap seq beforeLoss).anyEntry (Work.isFormatOf p) = false := by
      rw [Dev.commitCompleted_eq, Dev.askErase_isFormatOf, (Dev.completed_anyEntry _ _ _ _ _ _ rfl).1]
      exact hformat
    obtain ⟨hnumbering, hjournal'⟩ := Dev.select_other p _ hformat'
    obtain ⟨hpos, hnewest, hfailures, hage, hcycle⟩ := hnumbering
    have hsent := (Dev.select_answers (s.dev.endOperation.commitCompleted p slot snap seq beforeLoss)).sent
    have hreplies := s.dev.endOperation.commitCompleted_answers_replies p slot snap seq beforeLoss
    have hkeptLink := (s.dev.endOperation.recordKept_parts p slot snap seq beforeLoss).2.2.2.2.2.2
    obtain ⟨hstart, hstartGone, hcheckpoint, _⟩ :=
      (s.dev.endOperation.recordKept p slot snap seq beforeLoss).repliesGiven_sent p snap seq
    simp only [Dev.owed, hkeptLink] at hstart hcheckpoint
    have hdeferred (e : Deferred)
        (he : e ∈ (s.dev.endOperation.commitCompleted p slot snap seq beforeLoss).select.link.deferred) :=
      Dev.commitCompleted_deferred p slot snap seq beforeLoss s.dev.endOperation e ((Dev.select_link _).2.2.1 e he)
    have hspares := htouches.spares_select (by simp) (by simp) (by simp)
    refine ⟨_, hexec, rfl, ?_, ?_, ?_, ?_, ?_, ?_, ?_, fun hk => ⟨?_, ?_, fun im him => ?_⟩,
      fun hk hstate => ?_, fun hk hstate => ?_, fun e he => ⟨?_, ?_⟩, fun e he ha => ⟨?_, ?_⟩, fun h hany => ?_,
      fun hblank hroom => ?_, ?_, hspares, ?_⟩
    · intro a
      rw [hread a]
    · rw [hnewest, hring, Per.set_get_self]
    · rw [hpos, hring, Per.set_get_self]
    · rw [hfailures, hring, Per.set_get_self]
    · rw [hage, hring, Per.set_get_self]
      rfl
    · rw [hcycle, hring, Per.set_get_self]
      rfl
    · rw [hjournal', hjournal, Per.set_get_self]
      rfl
    · obtain ⟨hpsq, _⟩ := s.dev.endOperation.commitCompleted_of_not_close p slot snap seq beforeLoss hk
      simp [hpsq]
    · obtain ⟨_, hfacts, _⟩ := s.dev.endOperation.commitCompleted_of_not_close p slot snap seq beforeLoss hk
      simpa using hfacts
    · obtain ⟨_, _, himage⟩ := s.dev.endOperation.commitCompleted_of_not_close p slot snap seq beforeLoss hk
      exact Dev.select_completed (by rw [himage]; simp [him]; rfl)
    · obtain ⟨hpsq, hfacts, himage, _, hend, hclosed⟩ :=
        s.dev.endOperation.commitCompleted_close_parts p slot snap seq beforeLoss hk hstate
      refine ⟨by simp [hpsq], by simp [hpsq], by simp [hpsq], by simp [hpsq], by simp [hpsq], by simpa using hfacts,
        (Dev.select_image _ p).1 himage, fun e he => hsent.subset (hend e he), fun r hr h => ?_⟩
      rw [Dev.select_attention]
      refine hclosed r hr ?_
      rcases h with rfl | rfl | rfl <;> rfl
    · obtain ⟨hpsq, himage⟩ := s.dev.endOperation.commitCompleted_of_vacant p slot snap seq beforeLoss hk hstate
      exact ⟨by simp [hpsq], (Dev.select_image _ p).1 himage⟩
    · exact hsent.subset (hreplies.sent.subset (hstart e he))
    · exact Dev.owed_of_subset hdeferred hstartGone
    · exact hsent.subset (hreplies.sent.subset (hcheckpoint e he ha).1)
    · exact Dev.owed_of_subset hdeferred (hcheckpoint e he ha).2
    · have hask := Dev.askErase_drops (p := p) (i := slot + 2) (d := s.dev.endOperation.completed p slot snap seq beforeLoss)
        (by
          rw [(Dev.completed_anyEntry (f := Work.isErase) _ _ _ _ _ _ rfl).2]
          simp only [Dev.completed_blank]
          exact h)
      have hany' := Dev.select_anyEntry hservice rfl hany
      rw [Dev.commitCompleted_eq, hask, (Dev.completed_anyEntry _ _ _ _ _ _ rfl).1] at hany'
      exact hany'
    · have hask := Dev.askErase_asks (p := p) (i := slot + 2) (d := s.dev.endOperation.completed p slot snap seq beforeLoss)
        (by simp only [Dev.completed_blank]; exact hblank) (by rw [(Dev.completed_anyEntry _ _ _ _ _ _ rfl).2]; exact hroom)
      refine Dev.select_keeps_erase hservice hask ?_
      rw [hring, Per.set_get_self]
      have hne : slot + 1 ≠ slot + 2 := by omega
      exact hne
    · simp
    · apply Dev.ext <;> simp
  · rw [Dev.afterOperation_of_loss (by simpa using hrun)] at hexec
    have hspares := htouches.spares (by simp) (by simp) (by simp)
    refine ⟨_, s.dev.endOperation.commitCompleted p slot snap seq beforeLoss, hexec, rfl,
      Dev.lossWork_lossWorks hfree hservice, ?_, hring, ?_, fun hk => ⟨?_, ?_, fun im k him hr => ⟨?_, ?_⟩,
        fun im him hr => ⟨?_, ?_⟩⟩, fun hk hstate => ?_, ?_, htouches.image _ p.other_ne, hfree, hservice, hspares, ?_⟩
    · intro a
      rw [hread a]
    · rw [hjournal, Per.set_get_self]
      rfl
    · exact (s.dev.endOperation.commitCompleted_of_not_close p slot snap seq beforeLoss hk).1
    · exact (s.dev.endOperation.commitCompleted_of_not_close p slot snap seq beforeLoss hk).2.1
    · exact (Dev.commitCompleted_hasCommit p slot snap seq beforeLoss s.dev.endOperation hk him).1 k hr
    · rw [(s.dev.endOperation.commitCompleted_of_not_close p slot snap seq beforeLoss hk).2.2]
      simp [him, Image.completed, hr]
    · exact (Dev.commitCompleted_hasCommit p slot snap seq beforeLoss s.dev.endOperation hk him).2 hr (hclean im him hr)
    · rw [(s.dev.endOperation.commitCompleted_of_not_close p slot snap seq beforeLoss hk).2.2]
      simp [him, Image.completed, hr, hclean im him hr]
    · obtain ⟨hpsq, hfacts, himage, hhas, _⟩ :=
        s.dev.endOperation.commitCompleted_close_parts p slot snap seq beforeLoss hk hstate
      exact ⟨by simp [hpsq], by simp [hpsq], hfacts, himage, hhas p⟩
    · exact Dev.commitCompleted_hasCommit_other p slot snap seq beforeLoss s.dev.endOperation p.other_ne
    · apply Dev.ext <;> simp

end Sys2Proof.Proofs
end

section
/-! A loss in RUN: every block's response, and the work of the engine that follows at once (R15, R41, R71, R94 to R96). -/

namespace Sys2Proof.Machine

/-! ### An image, its pocket and its facts at a loss -/

section Pure
variable (active waiting journalFailed : Bool) (im : Image)

/-- What the loss makes of the commit. -/
theorem Image.suspendCommit_commits :
    (im.commit = .none →
      (im.suspendCommit active journalFailed).commit = (if active = true ∧ journalFailed = false then .queued .suspend else .none) ∧
      (im.suspendCommit active journalFailed).recommit = im.recommit ∧
      (im.suspendCommit active journalFailed).closeReason = im.closeReason) ∧
    (∀ k, im.commit = .queued k →
      (im.suspendCommit active journalFailed).commit = .queued .suspend ∧
      (im.suspendCommit active journalFailed).recommit = im.recommit ∧
      (im.suspendCommit active journalFailed).closeReason = none) ∧
    (∀ k, im.commit = .inFlight k →
      (im.suspendCommit active journalFailed).commit = .inFlight k ∧
      (im.suspendCommit active journalFailed).recommit = (if active then some .suspend else im.recommit) ∧
      (im.suspendCommit active journalFailed).closeReason = if active = true ∧ k ≠ .close then none else im.closeReason) := by
  refine ⟨fun h => ?_, fun k h => ?_, fun k h => ?_⟩
  · cases active <;> cases journalFailed <;> simp [Image.suspendCommit, h]
  · simp [Image.suspendCommit, h]
  · cases active
    · simp [Image.suspendCommit, h]
    · by_cases hk : k = .close <;> simp [Image.suspendCommit, h, hk]

theorem Image.suspendCommit_frame :
    im.suspendCommit active journalFailed = { im with
      commit := (im.suspendCommit active journalFailed).commit
      recommit := (im.suspendCommit active journalFailed).recommit
      closeReason := (im.suspendCommit active journalFailed).closeReason } := by
  simp only [Image.suspendCommit]
  (repeat' split) <;> rfl

theorem Image.atLoss_afterLoss : im.afterLoss active waiting journalFailed (im.atLoss active waiting journalFailed) := by
  by_cases hcounted : active = true ∨ waiting = true ∧ im.commit = .queued .close
  · have hat : im.atLoss active waiting journalFailed = im.countOutage.suspendCommit active journalFailed := by
      simp [Image.atLoss, hcounted]
    have hframe := im.countOutage.suspendCommit_frame active journalFailed
    obtain ⟨hnone, hqueued, hflight⟩ := im.countOutage.suspendCommit_commits active journalFailed
    rw [hat]
    refine ⟨fun _ => ?_, fun hactive hnot => ?_, hnone, hqueued, hflight, ?_⟩
    · rw [hframe]
      simp [Image.countOutage, satAdd_eq]
    · rcases hcounted with h | ⟨hwaiting, hclose⟩
      · simp [h] at hactive
      · simp [hwaiting, hclose] at hnot
    · rw [hframe]
      rfl
  · have hat : im.atLoss active waiting journalFailed =
        Image.suspendCommit active journalFailed { im with window := none } := by
      simp [Image.atLoss, hcounted]
    have hframe := Image.suspendCommit_frame active journalFailed { im with window := none }
    obtain ⟨hnone, hqueued, hflight⟩ := Image.suspendCommit_commits active journalFailed { im with window := none }
    rw [hat]
    refine ⟨fun h => absurd h hcounted, fun _ _ => ?_, hnone, hqueued, hflight, ?_⟩
    · rw [hframe]
      exact ⟨rfl, rfl⟩
    · rw [hframe]

theorem Image.losesMark_iff :
    im.losesMark active = true ↔ im.commit = .queued .close ∨
      active = true ∧ im.recommit = some .close ∧ ∃ k, im.commit = .inFlight k ∧ k ≠ .close := by
  cases h : im.commit <;> simp [Image.losesMark, h, and_comm, and_assoc]

end Pure

/-- A pocket's sequencer at a loss, from the image it holds. -/
def Sequencer.lost (im : Option Image) (q : Sequencer) : Sequencer :=
  let q1 := if q.state.active || q.state.waiting then { q with state := .suspended, choice := none } else q
  if im.any (Image.losesMark q.state.active) then { q1 with mark := none } else q1

/-- The backup facts of a pocket at a loss. -/
def Facts.lost (q : Sequencer) (f : Facts) : Facts := if q.state.active || q.state.waiting then f.atLoss else f

theorem PocketState.inCycle_iff (x : PocketState) : (x.active || x.waiting) = true ↔ x ≠ .vacant ∧ x ≠ .suspended := by
  cases x <;> simp [PocketState.active, PocketState.waiting]

theorem Facts.lost_eq (q : Sequencer) (f : Facts) :
    f.lost q = if q.state = .vacant ∨ q.state = .suspended then f
      else
        { suspended := true
          stallRunning := true
          stall := if f.stallRunning then f.stall else 0
          stallMs := if f.stallRunning then f.stallMs else 0
          losses := min 255 (f.losses + 1)
          latch := f.latch } := by
  have hcycle := q.state.inCycle_iff
  by_cases h : q.state = .vacant ∨ q.state = .suspended
  · rw [if_pos h, Facts.lost, if_neg fun hin => h.elim (hcycle.1 hin).1 (hcycle.1 hin).2]
  · rw [if_neg h, Facts.lost, if_pos (hcycle.2 (not_or.1 h))]
    cases hrun : f.stallRunning <;> simp [Facts.atLoss, Facts.startStall, hrun, satAdd_eq]

theorem Sequencer.lost_spec (im : Option Image) (q : Sequencer) :
    (q.state ≠ .vacant → (q.lost im).state = .suspended) ∧
    (q.state ≠ .vacant → q.state ≠ .suspended → (q.lost im).choice = none) ∧
    (q.state = .vacant → (q.lost im).state = .vacant) ∧
    (im.any (Image.losesMark q.state.active) = true → (q.lost im).mark = none) ∧
    (¬im.any (Image.losesMark q.state.active) = true → (q.lost im).mark = q.mark) ∧
    q.lost im = { q with state := (q.lost im).state, choice := (q.lost im).choice, mark := (q.lost im).mark } := by
  have hcycle := q.state.inCycle_iff
  by_cases hstate : q.state = .vacant ∨ q.state = .suspended
  · have hout : (q.state.active || q.state.waiting) = false := by
      rw [Bool.eq_false_iff, Ne, hcycle]
      exact fun hboth => hstate.elim hboth.1 hboth.2
    have hends : q.state ≠ .vacant → q.state = .suspended := hstate.resolve_left
    cases hmark : im.any (Image.losesMark q.state.active) <;> simp [Sequencer.lost, hout, hmark] <;>
      exact ⟨hends, fun h h' => absurd (hends h) h'⟩
  · have hin := hcycle.2 (not_or.1 hstate)
    rw [not_or] at hstate
    cases hmark : im.any (Image.losesMark q.state.active) <;> simp [Sequencer.lost, hin, hmark, hstate]

theorem Dev.closeUnwritten_iff (d : Dev) (p : Pocket) :
    d.closeUnwritten p ↔ (d.image.get p).any (Image.losesMark (d.psq.get p).state.active) = true := by
  cases him : d.image.get p <;> simp [Dev.closeUnwritten, him, Image.losesMark_iff]

/-! ### One pocket of the part -/

section OnePocket
variable (p : Pocket) (d : Dev)

/-- Whether the loss gives the pocket a COMMIT entry of its own. -/
def Dev.lossNeedsEntry : Bool := (d.image.get p).any (Image.needsEntry (d.psq.get p).state.active (d.journalFailed p))

theorem Dev.lossPocket_parts :
    (d.lossPocket p).bkd = { d.bkd with facts := d.bkd.facts.set p ((d.bkd.facts.get p).lost (d.psq.get p)) } ∧
    (d.lossPocket p).psq = d.psq.set p ((d.psq.get p).lost (d.image.get p)) ∧
    (d.lossPocket p).image = d.image.set p ((d.image.get p).map
      (Image.atLoss (d.psq.get p).state.active (d.psq.get p).state.waiting (d.journalFailed p))) ∧
    (d.lossPocket p).engine = if d.lossNeedsEntry p then (d.enqueue (.commit p)).engine else d.engine := by
  cases him : d.image.get p with
  | none =>
    have himage : d.image = d.image.set p none := by rw [← him, Per.set_get_same]
    cases hcycle : (d.psq.get p).state.active || (d.psq.get p).state.waiting <;>
      simp [Dev.lossPocket, Dev.lossNeedsEntry, him, hcycle, Facts.lost, Sequencer.lost, ← himage]
  | some im =>
    cases hcycle : (d.psq.get p).state.active || (d.psq.get p).state.waiting <;>
    cases hentry : im.needsEntry (d.psq.get p).state.active (d.journalFailed p) <;>
    cases hmark : im.losesMark (d.psq.get p).state.active <;>
      simp [Dev.lossPocket, Dev.lossNeedsEntry, him, hcycle, hentry, hmark, Facts.lost, Sequencer.lost, Dev.enqueue]

end OnePocket

/-! ### Both pockets -/

/-- The responses of both pockets. -/
def Dev.lossPockets (d : Dev) : Dev := (d.lossPocket .a).lossPocket .b

section BothPockets
variable (d : Dev)

theorem Dev.lossPocket_of_b :
    (d.lossPocket .a).psq.get .b = d.psq.get .b ∧ (d.lossPocket .a).image.get .b = d.image.get .b ∧
    (d.lossPocket .a).bkd.facts.get .b = d.bkd.facts.get .b ∧
    (d.lossPocket .a).lossNeedsEntry .b = d.lossNeedsEntry .b ∧ (d.lossPocket .a).journalFailed .b = d.journalFailed .b := by
  obtain ⟨hbkd, hpsq, himage, _⟩ := d.lossPocket_parts .a
  have hb : (d.lossPocket .a).psq.get .b = d.psq.get .b := by rw [hpsq]; rfl
  have hi : (d.lossPocket .a).image.get .b = d.image.get .b := by rw [himage]; rfl
  refine ⟨hb, hi, by rw [hbkd]; rfl, ?_, ?_⟩
  · rw [Dev.lossNeedsEntry, Dev.lossNeedsEntry, Dev.journalFailed, Dev.journalFailed, hb, hi]
  · rw [Dev.journalFailed, Dev.journalFailed, hb]

theorem Dev.lossPockets_get (p : Pocket) :
    d.lossPockets.bkd.facts.get p = (d.bkd.facts.get p).lost (d.psq.get p) ∧
    d.lossPockets.psq.get p = (d.psq.get p).lost (d.image.get p) ∧
    d.lossPockets.image.get p = (d.image.get p).map
      (Image.atLoss (d.psq.get p).state.active (d.psq.get p).state.waiting (d.journalFailed p)) := by
  obtain ⟨hbkd, hpsq, himage, _⟩ := (d.lossPocket .a).lossPocket_parts .b
  obtain ⟨hbkdA, hpsqA, himageA, _⟩ := d.lossPocket_parts .a
  rw [Dev.lossPockets, hbkd, hpsq, himage]
  cases p with
  | a =>
    rw [hbkdA, hpsqA, himageA]
    exact ⟨rfl, rfl, rfl⟩
  | b => simp only [Per.set_get_self, Dev.lossPocket_of_b, and_self]

theorem Dev.lossPockets_bkd : d.lossPockets.bkd = { d.bkd with facts := d.lossPockets.bkd.facts } := by
  rw [Dev.lossPockets, ((d.lossPocket .a).lossPocket_parts .b).1, (d.lossPocket_parts .a).1]

theorem Dev.lossPocket_queue (p : Pocket) :
    (d.lossPocket p).engine.service = d.engine.service ∧ (d.lossPocket p).engine.inFlight = d.engine.inFlight ∧
    (∀ e, e ∈ (d.lossPocket p).engine.queue ↔
      e ∈ d.engine.queue ∨ d.lossNeedsEntry p = true ∧ e = ⟨d.engine.nextAge, .commit p⟩) := by
  rw [(d.lossPocket_parts p).2.2.2]
  cases d.lossNeedsEntry p <;> simp [Dev.enqueue]

theorem Dev.lossPocket_hasCommit (p q : Pocket) :
    (d.lossPocket p).hasCommit q = true ↔ d.hasCommit q = true ∨ d.lossNeedsEntry p = true ∧ p = q := by
  simp only [Dev.hasCommit, Dev.anyEntry, List.any_eq_true, (d.lossPocket_queue p).2.2, beq_iff_eq, or_and_right, exists_or]
  exact or_congr_right ⟨fun ⟨e, ⟨hp, he⟩, hq⟩ => ⟨hp, Work.commit.inj ((congrArg Entry.work he).symm.trans hq)⟩,
    fun ⟨hp, hq⟩ => ⟨_, ⟨hp, rfl⟩, congrArg Work.commit hq⟩⟩

/-- The entries are those before the loss and the ones that the pockets need. -/
theorem Dev.lossPockets_engine :
    d.lossPockets.engine.service = d.engine.service ∧ d.lossPockets.engine.inFlight = d.engine.inFlight ∧
    ((∀ e, e ∈ d.engine.queue → ∃ p, e.work = .commit p) → ∀ e, e ∈ d.lossPockets.engine.queue → ∃ p, e.work = .commit p) ∧
    (∀ p, d.lossPockets.hasCommit p = true ↔ d.hasCommit p = true ∨ d.lossNeedsEntry p = true) := by
  obtain ⟨hservice, hflight, hqueue⟩ := (d.lossPocket .a).lossPocket_queue .b
  obtain ⟨hserviceA, hflightA, hqueueA⟩ := d.lossPocket_queue .a
  refine ⟨hservice.trans hserviceA, hflight.trans hflightA, fun h e he => ?_, fun p => ?_⟩
  · rcases (hqueue e).1 he with he | ⟨_, rfl⟩
    · rcases (hqueueA e).1 he with he | ⟨_, rfl⟩
      · exact h e he
      · exact ⟨.a, rfl⟩
    · exact ⟨.b, rfl⟩
  · rw [Dev.lossPockets, Dev.lossPocket_hasCommit, Dev.lossPocket_hasCommit, (d.lossPocket_of_b).2.2.2.1]
    cases p <;> simp

end BothPockets

/-! ### The engine -/

section EngineAtLoss
variable (d : Dev)

/-- The engine with the commits alone. -/
def Dev.commitsKept : Dev :=
  (d.keepEntries Work.isCommit).setEngine
    { (d.keepEntries Work.isCommit).engine with inFlight := d.engine.inFlight.map Operation.atLoss }

theorem Dev.commitsKept_queue (e : Entry) : e ∈ d.commitsKept.engine.queue ↔ e ∈ d.engine.queue ∧ ∃ p, e.work = .commit p := by
  have hwork : e.work.isCommit = true ↔ ∃ p, e.work = .commit p := by cases e.work <;> simp [Work.isCommit]
  simp [Dev.commitsKept, Dev.keepEntries, hwork]

theorem Dev.commitsKept_hasCommit (p : Pocket) : d.commitsKept.hasCommit p = true ↔ d.hasCommit p = true := by
  simp only [Dev.hasCommit, Dev.anyEntry, List.any_eq_true, Dev.commitsKept_queue, beq_iff_eq]
  exact ⟨fun ⟨e, ⟨he, _⟩, hp⟩ => ⟨e, he, hp⟩, fun ⟨e, he, hp⟩ => ⟨e, ⟨he, p, hp⟩, hp⟩⟩

theorem Dev.lossEngine_of_service {p : Pocket} (h : d.engine.service = some ⟨p, none⟩) :
    d.lossEngine = (d.commitsKept.setService none).enqueue (.commit p) := by
  simp only [Dev.lossEngine, h, Dev.commitsKept]

theorem Dev.lossEngine_of_not (h : ∀ p, d.engine.service ≠ some ⟨p, none⟩) : d.lossEngine = d.commitsKept := by
  cases hs : d.engine.service with
  | none => simp only [Dev.lossEngine, hs, Dev.commitsKept]
  | some v =>
    obtain ⟨p, snap⟩ := v
    cases snap with
    | none => exact absurd hs (h p)
    | some snap => simp only [Dev.lossEngine, hs, Dev.commitsKept]

/-- The commits stay, and one in service before its first write is queued again. -/
theorem Dev.lossEngine_queue :
    (∀ e, e ∈ d.lossEngine.engine.queue → ∃ p, e.work = .commit p) ∧
    (∀ p, d.lossEngine.hasCommit p = true ↔ d.hasCommit p = true ∨ d.engine.service = some ⟨p, none⟩) := by
  by_cases hq : ∃ q, d.engine.service = some ⟨q, none⟩
  · obtain ⟨q, hq⟩ := hq
    have hqueue : d.lossEngine.engine.queue = d.commitsKept.engine.queue ++ [⟨d.commitsKept.engine.nextAge, .commit q⟩] := by
      rw [d.lossEngine_of_service hq]
      rfl
    refine ⟨fun e he => ?_, fun p => ?_⟩
    · rw [hqueue, List.mem_append, List.mem_singleton] at he
      rcases he with he | rfl
      · exact ((d.commitsKept_queue e).1 he).2
      · exact ⟨q, rfl⟩
    · rw [← d.commitsKept_hasCommit, hq]
      simp [Dev.hasCommit, Dev.anyEntry, hqueue]
  · rw [not_exists] at hq
    rw [d.lossEngine_of_not hq]
    exact ⟨fun e he => ((d.commitsKept_queue e).1 he).2, fun p => by simp [d.commitsKept_hasCommit p, hq p]⟩

theorem Dev.lossEngine_engine :
    ((∀ p, d.engine.service ≠ some ⟨p, none⟩) → d.lossEngine.engine.service = d.engine.service) ∧
    (∀ p, d.engine.service = some ⟨p, none⟩ → d.lossEngine.engine.service = none) ∧
    d.lossEngine.engine.inFlight = d.engine.inFlight.map Operation.atLoss := by
  refine ⟨fun h => by rw [d.lossEngine_of_not h]; rfl, fun p h => by rw [d.lossEngine_of_service h]; rfl, ?_⟩
  by_cases hq : ∃ q, d.engine.service = some ⟨q, none⟩
  · obtain ⟨q, hq⟩ := hq
    rw [d.lossEngine_of_service hq]
    rfl
  · rw [d.lossEngine_of_not (not_exists.1 hq)]
    rfl

end EngineAtLoss

/-! ### The whole response -/

/-- The part as the loss leaves it, with the reserve conversion due and the engine at the loss. -/
def Dev.lossBegun (d : Dev) : Dev :=
  let d1 := ((d.setRun .lossCommit).setSettle ⟨false, 0⟩).stopSampling
  (d1.setAdc d1.adc.requestReserve).lossEngine

/-- Every block's response, before the engine works on. -/
def Dev.lossResponded (d : Dev) : Dev :=
  let d3 := d.lossBegun.lossPockets
  let d4 := d3.stopTumblers.setArbiter { d3.arbiter with queue := [] }
  d4.setLink { d4.link with deferred := [], resetHold := false }

@[simp] theorem Dev.lossPockets_frame (d : Dev) :
    d.lossPockets.pins = d.pins ∧ d.lossPockets.run = d.run ∧ d.lossPockets.settle = d.settle ∧
    d.lossPockets.reserve = d.reserve ∧ d.lossPockets.adc = d.adc ∧ d.lossPockets.faults = d.faults ∧
    d.lossPockets.sns = d.sns ∧ d.lossPockets.ring = d.ring ∧ d.lossPockets.scan = d.scan ∧
    d.lossPockets.journal = d.journal ∧ d.lossPockets.plan = d.plan ∧ d.lossPockets.arbiter = d.arbiter ∧
    d.lossPockets.tmb = d.tmb ∧ d.lossPockets.link = d.link ∧ d.lossPockets.freeCount = d.freeCount := by
  simp [Dev.lossPockets]

section Response
variable (d : Dev)

theorem Dev.stopSampling_sns (p : Pocket) : d.stopSampling.sns.get p = { d.sns.get p with sampling := .none } := by
  cases p <;> rfl

theorem Dev.stopTumblers_tmb (p : Pocket) : d.stopTumblers.tmb.get p = .idle (d.tmb.get p).burstsLeft := by
  cases p <;> rfl

/-- A reserve conversion falls due, and no sample is under way any more. -/
theorem Dev.lossResponded_adc :
    (d.adc.running = none → d.lossResponded.adc = ⟨some .reserve, d.adc.reserveWaits, .both false, .both 0, .both 0, 0⟩) ∧
    (d.adc.running ≠ none → d.lossResponded.adc = ⟨d.adc.running, true, .both false, .both 0, .both 0, 0⟩) := by
  have hadc : d.lossResponded.adc = ((d.adc.dropSample .a).dropSample .b).requestReserve := by
    simp [Dev.lossResponded, Dev.lossBegun, Dev.stopSampling]
  rw [hadc]
  cases hrun : d.adc.running <;> simp [Adc.requestReserve, Adc.dropSample, hrun, Per.both, Per.set]

theorem Dev.lossBegun_items :
    d.lossBegun.bkd = d.bkd ∧ d.lossBegun.psq = d.psq ∧ d.lossBegun.image = d.image := by
  simp [Dev.lossBegun]

theorem Dev.lossBegun_engine :
    ((∀ p, d.engine.service ≠ some ⟨p, none⟩) → d.lossBegun.engine.service = d.engine.service) ∧
    (∀ p, d.engine.service = some ⟨p, none⟩ → d.lossBegun.engine.service = none) ∧
    d.lossBegun.engine.inFlight = d.engine.inFlight.map Operation.atLoss ∧
    (∀ e, e ∈ d.lossBegun.engine.queue → ∃ p, e.work = .commit p) ∧
    (∀ p, d.lossBegun.hasCommit p = true ↔ d.hasCommit p = true ∨ d.engine.service = some ⟨p, none⟩) := by
  have hengine : (((d.setRun .lossCommit).setSettle ⟨false, 0⟩).stopSampling.setAdc
      (((d.setRun .lossCommit).setSettle ⟨false, 0⟩).stopSampling).adc.requestReserve).engine = d.engine := by simp
  obtain ⟨hsame, hnone, hflight⟩ := (((d.setRun .lossCommit).setSettle ⟨false, 0⟩).stopSampling.setAdc
    (((d.setRun .lossCommit).setSettle ⟨false, 0⟩).stopSampling).adc.requestReserve).lossEngine_engine
  obtain ⟨hqueue, hhas⟩ := (((d.setRun .lossCommit).setSettle ⟨false, 0⟩).stopSampling.setAdc
    (((d.setRun .lossCommit).setSettle ⟨false, 0⟩).stopSampling).adc.requestReserve).lossEngine_queue
  simp only [Dev.hasCommit, Dev.anyEntry, hengine] at *
  exact ⟨hsame, hnone, hflight, hqueue, hhas⟩

theorem Dev.lossResponded_frame :
    d.lossResponded = { d with
      run := .lossCommit, bkd := d.lossResponded.bkd, settle := ⟨false, 0⟩, adc := d.lossResponded.adc
      sns := d.lossResponded.sns, psq := d.lossResponded.psq, image := d.lossResponded.image
      engine := d.lossResponded.engine, arbiter := { d.arbiter with queue := [] }, tmb := d.lossResponded.tmb
      link := { d.link with deferred := [], resetHold := false } } := by
  apply Dev.ext <;> simp [Dev.lossResponded, Dev.lossBegun]

/-- The backup domain, the sensors, the timers, the sequencer and the image of a pocket. -/
theorem Dev.lossResponded_get (p : Pocket) :
    d.lossResponded.bkd.facts.get p = (d.bkd.facts.get p).lost (d.psq.get p) ∧
    d.lossResponded.sns.get p = { d.sns.get p with sampling := .none } ∧
    d.lossResponded.tmb.get p = .idle (d.tmb.get p).burstsLeft ∧
    d.lossResponded.psq.get p = (d.psq.get p).lost (d.image.get p) ∧
    d.lossResponded.image.get p = (d.image.get p).map
      (Image.atLoss (d.psq.get p).state.active (d.psq.get p).state.waiting (d.psq.get p).blocking.journalFail) := by
  obtain ⟨hbkd, hpsq, himage⟩ := d.lossBegun_items
  obtain ⟨hfacts, hseq, him⟩ := d.lossBegun.lossPockets_get p
  rw [Dev.journalFailed] at him
  rw [hbkd, hpsq] at hfacts
  rw [hpsq, himage] at hseq him
  refine ⟨by simpa [Dev.lossResponded] using hfacts, ?_, ?_, by simpa [Dev.lossResponded] using hseq,
    by simpa [Dev.lossResponded] using him⟩
  · simp [Dev.lossResponded, Dev.lossBegun, Dev.stopSampling_sns]
  · simp [Dev.lossResponded, Dev.lossBegun, Dev.stopTumblers_tmb]

theorem Dev.lossResponded_bkd : d.lossResponded.bkd = { d.bkd with facts := d.lossResponded.bkd.facts } := by
  have hbkd := d.lossBegun.lossPockets_bkd
  rw [d.lossBegun_items.1] at hbkd
  simpa [Dev.lossResponded] using hbkd

theorem Dev.lossNeedsEntry_iff (p : Pocket) :
    d.lossNeedsEntry p = true ↔ (d.psq.get p).state.active = true ∧ (d.psq.get p).blocking.journalFail = false ∧
      ∃ im, d.image.get p = some im ∧ im.commit = .none := by
  cases him : d.image.get p <;> simp [Dev.lossNeedsEntry, Image.needsEntry, him, Dev.journalFailed, and_assoc]

theorem Dev.lossResponded_engine :
    ((∀ p, d.engine.service ≠ some ⟨p, none⟩) → d.lossResponded.engine.service = d.engine.service) ∧
    (∀ p, d.engine.service = some ⟨p, none⟩ → d.lossResponded.engine.service = none) ∧
    d.lossResponded.engine.inFlight = d.engine.inFlight.map Operation.atLoss ∧
    (∀ e, e ∈ d.lossResponded.engine.queue → ∃ p, e.work = .commit p) ∧
    (∀ p, d.lossResponded.hasCommit p = true ↔ d.hasCommit p = true ∨ d.engine.service = some ⟨p, none⟩ ∨
      (d.psq.get p).state.active = true ∧ (d.psq.get p).blocking.journalFail = false ∧
        ∃ im, d.image.get p = some im ∧ im.commit = .none) := by
  obtain ⟨_, hpsq, himage⟩ := d.lossBegun_items
  obtain ⟨hsame, hnone, hflight, hqueue, hhas⟩ := d.lossBegun_engine
  obtain ⟨hservice, hflight', hqueue', hhas'⟩ := d.lossBegun.lossPockets_engine
  have hengine : d.lossResponded.engine = d.lossBegun.lossPockets.engine := by simp [Dev.lossResponded]
  rw [hengine, hservice, hflight', hflight]
  refine ⟨hsame, hnone, rfl, hqueue' hqueue, fun p => ?_⟩
  have hcommit : d.lossResponded.hasCommit p = d.lossBegun.lossPockets.hasCommit p := by
    rw [Dev.hasCommit, Dev.anyEntry, hengine]
    rfl
  rw [hcommit, hhas', hhas, Dev.lossNeedsEntry_iff, hpsq, himage, or_assoc]

end Response

/-- The monitor goes to ABSENT and the confidence score falls. -/
def Dev.lossDeclared (d : Dev) : Dev :=
  (d.setMonitor { d.bkd.monitor with
    state := .absent, absence := max d.bkd.monitor.absence d.bkd.monitor.rideThrough }).lowerConfidence 4

theorem Dev.lossResponse_lossResponded (d : Dev) : d.lossResponse d.lossDeclared.lossResponded := by
  have hbkd := d.lossDeclared.lossResponded_bkd
  obtain ⟨hfree, hbusy⟩ := d.lossDeclared.lossResponded_adc
  obtain ⟨hservice, hnone, hflight, hqueue, hhas⟩ := d.lossDeclared.lossResponded_engine
  refine ⟨by rw [hbkd]; rfl, by rw [hbkd]; rfl, hfree, hbusy, fun p => ?_, hqueue, hservice, hnone, fun p slot snap seq b h => ?_,
    fun h => ?_, d.lossDeclared.lossResponded_frame⟩
  · obtain ⟨hfacts, hsns, htmb, hpsq, himage⟩ := d.lossDeclared.lossResponded_get p
    obtain ⟨hstate, hchoice, hvacant, hmark, hkeeps, hframe⟩ := (d.psq.get p).lost_spec (d.image.get p)
    have hclose := d.closeUnwritten_iff p
    rw [hpsq]
    refine ⟨hfacts.trans (Facts.lost_eq _ _), hsns, htmb, hstate, hchoice, hvacant, fun h => hmark (hclose.1 h),
      fun h => hkeeps fun hany => h (hclose.2 hany), hframe, fun h => ?_, fun im h => ?_, hhas p⟩
    · rw [himage]
      exact congrArg (Option.map _) h
    · refine ⟨_, himage.trans (congrArg (Option.map _) h), ?_⟩
      exact im.atLoss_afterLoss _ _ _
  · rw [hflight]
    exact congrArg (Option.map Operation.atLoss) h
  · rw [hflight]
    show d.engine.inFlight.map Operation.atLoss = d.engine.inFlight
    cases hop : d.engine.inFlight with
    | none => rfl
    | some op =>
      cases op with
      | write p slot snap seq b => exact absurd hop (h p slot snap seq b)
      | erase p slot purpose => rfl
      | param ws second age => rfl

theorem Dev.lossWork_keeps {d : Dev} (hrun : d.run = .lossCommit) :
    d.lossWork.bkd = d.bkd ∧ (d.lossWork.run = .lossCommit ∨ d.lossWork.run = .backup) := by
  obtain ⟨_, hbkd, hrun', _⟩ := Dev.lossSelect_frame 3 d
  cases hflight : d.engine.inFlight with
  | some op => simp [Dev.lossWork, hflight, hrun]
  | none =>
    rw [Dev.lossWork_eq hflight]
    split
    · exact ⟨hbkd, .inl (hrun'.trans hrun)⟩
    · exact ⟨hbkd, .inr rfl⟩

end Sys2Proof.Machine

namespace Sys2Proof.Proofs
open Sys2Proof.Machine

/-- Settles O8: the responses of every block give `Dev.lossResponse`, and the engine's work after them `Dev.lossWorks`. -/
theorem lossInRun : Obligations.LossInRun := by
  intro s hpow hdip hrun
  have hresponse := s.dev.lossResponse_lossResponded
  obtain ⟨hservice, hnone, hflight, _⟩ := s.dev.lossDeclared.lossResponded_engine
  have hexec : exec .lossDeclaration s = .next { s with dev := s.dev.lossDeclared.lossResponded.lossWork } := by
    show Host.Outcome.next _ = _
    simp only [Machine.lossDeclaration, hpow, hdip, hrun]
    rfl
  refine ⟨_, _, hexec, hresponse, fun hbusy => ?_, fun hfree hsnap => ?_, Dev.lossWork_keeps ?_⟩
  · obtain ⟨op, hop⟩ := Option.ne_none_iff_exists'.1 hbusy
    have hop' : s.dev.lossDeclared.lossResponded.engine.inFlight = some op.atLoss :=
      hflight.trans (congrArg (Option.map Operation.atLoss) hop)
    rw [Dev.lossWork, hop', if_pos (by simp)]
  · refine Dev.lossWork_lossWorks (hflight.trans (congrArg (Option.map Operation.atLoss) hfree)) ?_
    cases hs : s.dev.engine.service with
    | none => exact (hservice fun p h => Option.some_ne_none _ (h.symm.trans hs)).trans hs
    | some v =>
      obtain ⟨p, snap⟩ := v
      cases snap with
      | none => exact hnone p hs
      | some snap => exact absurd hs (hsnap p snap)
  · exact congrArg Dev.run s.dev.lossDeclared.lossResponded_frame

end Sys2Proof.Proofs
end

section
/-! nRESET: taken at once, waiting for the end of the operation in flight, not taken, and released (R19, R87). -/

namespace Sys2Proof.Machine

/-! ### What the end of an operation leaves for a reset that waits -/

/-- The end of an operation keeps the pins, the run state, the reset hold, and the backup domain but for the facts. -/
structure Dev.EndsHeld (d d' : Dev) : Prop where
  pins : d'.pins = d.pins
  run : d'.run = d.run
  facts : d.FactsOnly d'
  hold : d'.link.resetHold = d.link.resetHold

section Ends
variable (p : Pocket) (slot : Fin 16) (d : Dev)

theorem Dev.finishClosure_factsOnly (r : Result) : d.FactsOnly (d.finishClosure p r) := by
  rw [Dev.finishClosure]
  split
  · exact Dev.FactsOnly.of_eq (by simp)
  · exact Dev.closureEffect_factsOnly ..

theorem Dev.journalFail_factsOnly (snap : Option Snapshot) (failedWrite : Bool) :
    d.FactsOnly (d.journalFail p slot snap failedWrite) := by
  obtain ⟨cycle, _, _, heq⟩ := d.journalFail_eq p slot snap failedWrite
  rw [heq, Dev.closeMarked]
  split
  · exact Dev.FactsOnly.trans (.of_eq (d.commitFailed_parts p slot cycle failedWrite).1) (Dev.finishClosure_factsOnly ..)
  · exact .of_eq (d.commitFailed_parts p slot cycle failedWrite).1

theorem Dev.commitCompleted_factsOnly (snap : Snapshot) (seq : Word) (beforeLoss : Bool) :
    d.FactsOnly (d.commitCompleted p slot snap seq beforeLoss) := by
  have hkept : d.FactsOnly (d.recordKept p slot snap seq beforeLoss) := by
    cases beforeLoss <;> simp [Dev.FactsOnly, Dev.recordKept]
  have hclosed : (d.recordKept p slot snap seq beforeLoss).FactsOnly (d.completed p slot snap seq beforeLoss) := by
    rw [Dev.completed, Dev.recordClosed]
    split
    · exact Dev.FactsOnly.trans (Dev.FactsOnly.of_eq (by simp)) (Dev.finishClosure_factsOnly ..)
    · exact Dev.FactsOnly.of_eq (by simp)
  exact (hkept.trans hclosed).trans (.of_eq (by simp [Dev.commitCompleted_eq]))

theorem Dev.commitCompleted_endsHeld (snap : Snapshot) (seq : Word) (beforeLoss : Bool) :
    d.EndsHeld (d.commitCompleted p slot snap seq beforeLoss) :=
  ⟨by simp, by simp, d.commitCompleted_factsOnly p slot snap seq beforeLoss,
    (d.commitCompleted_answers p slot snap seq beforeLoss).resetHold⟩

theorem Dev.writeFailed_endsHeld (snap : Snapshot) (beforeLoss : Bool) : d.EndsHeld (d.writeFailed p slot snap beforeLoss) := by
  refine ⟨by simp, by simp, ?_, Dev.writeFailed_resetHold⟩
  by_cases h : (d.ring.get p).failures = 0
  · rw [Dev.writeFailed_of_first h]
    split <;> exact Dev.FactsOnly.of_eq (by simp)
  · rw [Dev.writeFailed_of_second h]
    exact Dev.journalFail_factsOnly ..

theorem Dev.paramEnded_endsHeld (matched second : Bool) (age : Nat) : d.EndsHeld (d.paramEnded matched second age) :=
  ⟨by simp, by simp, Dev.FactsOnly.of_eq (by simp), (d.paramEnded_answers matched).resetHold⟩

theorem Dev.eraseEnded_endsHeld (purpose : ErasePurpose) (passed : Bool) (hrun : d.run = .run) :
    d.EndsHeld (d.eraseEnded p slot purpose passed) := by
  have hretry : (d.blankChecked p slot passed).retryAtLoss = none := Dev.retryAtLoss_of_run (by simpa using hrun)
  have hlink := (d.blankChecked_link p slot passed).1
  have hhold : (d.blankChecked p slot passed).link.resetHold = d.link.resetHold := by rw [hlink]
  refine ⟨by simp, by simp, ?_,
    (d.eraseEnded_spec p slot passed (purpose := purpose) hretry).2.1.resetHold.trans hhold⟩
  rcases d.eraseEnded_cases p slot passed (purpose := purpose) hretry with heq | ⟨failed, heq⟩ | ⟨next, failed, heq⟩ |
      ⟨_, heq⟩ | ⟨_, snap, heq⟩ <;> rw [heq]
  · exact Dev.FactsOnly.of_eq (by simp)
  · exact Dev.FactsOnly.of_eq (by simp)
  · exact Dev.FactsOnly.of_eq (by simp [Dev.updateFormat])
  · exact Dev.FactsOnly.of_eq (by simp)
  · exact Dev.FactsOnly.trans (Dev.FactsOnly.of_eq (by simp)) (Dev.journalFail_factsOnly ..)

end Ends

/-! ### The reset takes effect -/

/-- What a reset that has taken effect leaves: the part as for a warm start, and the backup domain but for the facts. -/
structure Dev.ResetFrom (d d' : Dev) : Prop where
  run : d'.run = .startup
  hold : d'.link.resetHold = d.pins.nresetLow
  free : d'.engine.inFlight = none
  queue : d'.engine.queue = []
  service : d'.engine.service = none
  deferred : d'.link.deferred = []
  transmit : d'.link.transmit = []
  pins : d'.pins = d.pins
  bkd : d.FactsOnly d'
  pocket : ∀ p, (d'.psq.get p).state = .vacant ∧ (d'.psq.get p).mark = none ∧ (d'.psq.get p).startKind = .warm ∧
    d'.image.get p = none ∧ d'.plan.get p = none

theorem Dev.resetFrom_resetEffect (d : Dev) : d.ResetFrom d.resetEffect where
  run := rfl
  hold := rfl
  free := rfl
  queue := rfl
  service := rfl
  deferred := rfl
  transmit := rfl
  pins := rfl
  bkd := .of_eq rfl
  pocket p := by cases p <;> exact ⟨rfl, rfl, rfl, rfl, rfl⟩

/-- The end of an operation with a reset that waits (R19, R87). -/
theorem Dev.EndsHeld.resetFrom {d e : Dev} (h : d.EndsHeld e) (hrun : d.run = .run) (hhold : d.link.resetHold = true) :
    e.afterOperation = e.resetEffect ∧ d.ResetFrom e.afterOperation := by
  have heq : e.afterOperation = e.resetEffect := by
    simp only [Dev.afterOperation, h.run.trans hrun, h.hold.trans hhold, if_true]
  obtain ⟨run, hold, free, queue, service, deferred, transmit, pins, bkd, pocket⟩ := e.resetFrom_resetEffect
  rw [h.pins] at hold pins
  exact ⟨heq, heq ▸ ⟨run, hold, free, queue, service, deferred, transmit, pins, h.facts.trans bkd, pocket⟩⟩

/-- Taking the operation out of flight moves none of these. -/
theorem Dev.EndsHeld.of_endOperation {d e : Dev} (h : d.endOperation.EndsHeld e) : d.EndsHeld e :=
  ⟨h.pins, h.run, h.facts, h.hold⟩

section Operation
variable {s : State} (hrun : s.dev.run = .run) (hhold : s.dev.link.resetHold = true)
include hrun hhold

theorem exec_writeVerifyDone_reset {p : Pocket} {slot : Fin 16} {snap : Snapshot} {seq : Word} {b : Bool}
    (damage : List Host.Cell) (hflight : s.dev.engine.inFlight = some (.write p slot snap seq b)) :
    ∃ t, exec (.writeVerifyDone damage) s = .next t ∧ t.pending = s.pending ∧ s.dev.ResetFrom t.dev := by
  by_cases h : programmed (s.array.page (slotPage p slot)) (snap.record p seq).written damage = pageOf (snap.record p seq).written
  · exact ⟨_, exec_writeVerifyDone_completed hflight rfl h, rfl,
      ((s.dev.endOperation.commitCompleted_endsHeld p slot snap seq b).of_endOperation.resetFrom hrun hhold).2⟩
  · exact ⟨_, exec_writeVerifyDone_failed hflight rfl h, rfl,
      ((s.dev.endOperation.writeFailed_endsHeld p slot snap b).of_endOperation.resetFrom hrun hhold).2⟩

theorem exec_eraseDone_reset {p : Pocket} {slot : Fin 16} {u : ErasePurpose} (residue : List Host.Cell)
    (hflight : s.dev.engine.inFlight = some (.erase p slot u)) :
    ∃ t, exec (.eraseDone residue) s = .next t ∧ t.pending = s.pending ∧ s.dev.ResetFrom t.dev :=
  ⟨_, exec_eraseDone hflight rfl, rfl, ((s.dev.endOperation.eraseEnded_endsHeld p slot u
    (erasedPage (overlay (List.replicate 128 0xFF) residue)) hrun).of_endOperation.resetFrom hrun hhold).2⟩

theorem exec_paramOperationDone_reset {ws : List Word} {second : Bool} {age : Nat} (damage : List Host.Cell)
    (hflight : s.dev.engine.inFlight = some (.param ws second age)) :
    ∃ t, exec (.paramOperationDone damage) s = .next t ∧ t.pending = s.pending ∧ s.dev.ResetFrom t.dev := by
  obtain ⟨page, hpage⟩ : ∃ page, page = overlay (pageOf (imageBytes ws)) damage := ⟨_, rfl⟩
  have hheld := (s.dev.endOperation.paramEnded_endsHeld (page = pageOf (imageBytes ws)) second age).of_endOperation
  exact ⟨_, exec_paramOperationDone hflight hpage, rfl, (hheld.resetFrom hrun hhold).2⟩

/-- The record of an undamaged write into an erased slot stands, and L is cleared, though the reset takes effect. -/
theorem exec_writeVerifyDone_reset_record {p : Pocket} {slot : Fin 16} {snap : Snapshot} {seq : Word} {t : State}
    (hexec : exec (.writeVerifyDone []) s = .next t) (hflight : s.dev.engine.inFlight = some (.write p slot snap seq false))
    (hk : snap.kind ≠ .close) (hwf : s.array.wf = true)
    (herased : ∀ a, slotPage p slot * 128 ≤ a → a < slotPage p slot * 128 + 128 → s.array.read a = 0xFF) :
    t.dev.bkd.facts = s.dev.bkd.facts.set p { s.dev.bkd.facts.get p with losses := 0 } ∧
    ∀ a, t.array.read a =
      if slotPage p slot * 128 ≤ a ∧ a < slotPage p slot * 128 + 128 then
        (snap.record p seq).written.getD (a - slotPage p slot * 128) 0xFF
      else s.array.read a := by
  have hpage : pageOf (snap.record p seq).written =
      programmed (s.array.page (slotPage p slot)) (snap.record p seq).written [] := by
    rw [Memory.page_erased herased, programmed_erased]
  have hheld := (s.dev.endOperation.commitCompleted_endsHeld p slot snap seq false).of_endOperation
  have hspares := s.dev.endOperation.commitCompleted_touchesOnly p slot snap seq false
  obtain ⟨_, hfacts, _⟩ := s.dev.endOperation.commitCompleted_of_not_close p slot snap seq false hk
  rw [exec_writeVerifyDone_completed hflight hpage rfl, (hheld.resetFrom hrun hhold).1] at hexec
  rw [← Host.Outcome.next.inj hexec]
  have hrecord : (s.dev.endOperation.commitCompleted p slot snap seq false).bkd.facts =
      s.dev.bkd.facts.set p { s.dev.bkd.facts.get p with losses := 0 } := by
    refine Per.ext_get fun q => ?_
    by_cases hq : q = p
    · rw [hq, Per.set_get_self]
      exact hfacts
    · rw [Per.set_get_of_ne _ _ hq]
      exact hspares.facts q hq
  exact ⟨hrecord, fun a => by rw [Memory.read_recordWritten hwf]⟩

end Operation

/-! ### nRESET goes low, and returns high -/

@[simp] theorem Dev.takeReset_frame (d : Dev) :
    d.takeReset.pins = d.pins ∧ d.takeReset.bkd = d.bkd ∧ d.takeReset.run = d.run ∧ d.takeReset.settle = d.settle ∧
    d.takeReset.reserve = d.reserve ∧ d.takeReset.faults = d.faults ∧ d.takeReset.psq = d.psq ∧
    d.takeReset.image = d.image ∧ d.takeReset.engine = d.engine ∧ d.takeReset.ring = d.ring ∧ d.takeReset.scan = d.scan ∧
    d.takeReset.journal = d.journal ∧ d.takeReset.plan = d.plan ∧ d.takeReset.arbiter = d.arbiter ∧
    d.takeReset.freeCount = d.freeCount := by
  simp [Dev.takeReset]

theorem Dev.takeReset_spec (d : Dev) :
    d.takeReset.link = { d.link with resetHold := true } ∧
    (∀ p, (d.takeReset.tmb.get p).state = .idle ∧ (d.takeReset.sns.get p).sampling = .none ∧
      d.takeReset.adc.thermistorWaits.get p = false) ∧
    d.takeReset.adc.running = d.adc.running ∧
    d.takeReset = { d with
      tmb := d.takeReset.tmb, sns := d.takeReset.sns, adc := d.takeReset.adc, link := d.takeReset.link } := by
  refine ⟨rfl, fun p => ?_, rfl, ?_⟩
  · cases p <;> exact ⟨rfl, rfl, rfl⟩
  · apply Dev.ext <;> simp

/-- The pin goes low. -/
def Dev.resetPulled (d : Dev) : Dev := d.setPins { d.pins with nresetLow := true }

section Assert
variable {s : State} (hhigh : s.dev.pins.nresetLow = false) (hhold : s.dev.link.resetHold = false)
include hhigh hhold

theorem exec_nresetAssert_of_off (hrun : s.dev.run = .lossCommit ∨ s.dev.run = .backup) :
    exec .nresetAssert s = .next { s with dev := s.dev.resetPulled } := by
  show Host.Outcome.next _ = _
  rcases hrun with hrun | hrun <;> simp [nresetAssert, hhigh, hhold, hrun, Dev.resetPulled]

theorem exec_nresetAssert_of_busy (hrun : s.dev.run = .run) (hbusy : s.dev.engine.inFlight ≠ none) :
    exec .nresetAssert s = .next { s with dev := s.dev.resetPulled.takeReset } := by
  show Host.Outcome.next _ = _
  simp [nresetAssert, hhigh, hhold, hrun, Dev.resetPulled, Option.isSome_iff_ne_none.2 hbusy]

theorem exec_nresetAssert_of_idle (hrun : s.dev.run = .startup ∨ s.dev.run = .run ∧ s.dev.engine.inFlight = none) :
    exec .nresetAssert s = .next { s with dev := s.dev.resetPulled.takeReset.resetEffect } := by
  show Host.Outcome.next _ = _
  rcases hrun with hrun | ⟨hrun, hfree⟩
  · simp [nresetAssert, hhigh, hhold, hrun, Dev.resetPulled]
  · simp [nresetAssert, hhigh, hhold, hrun, hfree, Dev.resetPulled]

end Assert

theorem exec_nresetRelease (s : State) :
    exec .nresetRelease s = .next { s with dev := { s.dev with
      pins := { s.dev.pins with nresetLow := false }
      link := if s.dev.run = .startup then { s.dev.link with resetHold := false } else s.dev.link } } := by
  show Host.Outcome.next _ = _
  have hheld : (s.dev.setPins { s.dev.pins with nresetLow := false }).held = (s.dev.run == .startup && s.dev.link.resetHold) := rfl
  rw [nresetRelease, hheld]
  by_cases hrun : s.dev.run = .startup
  · cases hhold : s.dev.link.resetHold
    · have hlink : s.dev.link = { s.dev.link with resetHold := false } := by rw [← hhold]
      simp [hrun, ← hlink, Dev.setPins]
    · simp [hrun, Dev.setPins, Dev.setLink]
  · simp [hrun, Dev.setPins]

end Sys2Proof.Machine

namespace Sys2Proof.Proofs
open Sys2Proof.Machine

/-- Settles O19: the run state decides what the falling edge does; each operation's end leaves the pins and the hold for
the reset that takes effect after it. -/
theorem nreset : Obligations.Nreset := by
  intro s
  refine ⟨fun hhigh hhold => ?_, fun c hrun hhold hc => ?_, exec_nresetRelease s⟩
  · by_cases hoff : s.dev.run = .lossCommit ∨ s.dev.run = .backup
    · refine ⟨_, exec_nresetAssert_of_off hhigh hhold hoff, rfl, rfl, fun _ => rfl, fun h => ?_, fun h => ?_⟩
      · simp [h] at hoff
      · rcases h with h | ⟨h, _⟩ <;> simp [h] at hoff
    by_cases hbusy : s.dev.run = .run ∧ s.dev.engine.inFlight ≠ none
    · obtain ⟨hlink, hpocket, hadc, hframe⟩ := s.dev.resetPulled.takeReset_spec
      refine ⟨_, exec_nresetAssert_of_busy hhigh hhold hbusy.1 hbusy.2, rfl, rfl, fun h => absurd h hoff, fun _ _ =>
        ⟨hlink, fun p => ?_, hadc, hframe⟩, fun h => ?_⟩
      · obtain ⟨htmb, hsns, hwaits⟩ := hpocket p
        exact ⟨htmb, hsns, by simp [Dev.heatPermit, hlink], by simp [Dev.motorRun, htmb], hwaits⟩
      · rcases h with h | ⟨_, h⟩
        · simp [h] at hbusy
        · exact absurd h hbusy.2
    · have hidle : s.dev.run = .startup ∨ s.dev.run = .run ∧ s.dev.engine.inFlight = none := by
        cases hrun : s.dev.run <;> simp_all
      refine ⟨_, exec_nresetAssert_of_idle hhigh hhold hidle, rfl, rfl, fun h => absurd h hoff,
        fun h hne => absurd ⟨h, hne⟩ hbusy, fun _ => ⟨rfl, rfl, rfl, rfl, rfl, rfl, rfl, fun p => ?_⟩⟩
      cases p <;> exact ⟨rfl, rfl, rfl, rfl, rfl⟩
  · have hreset : ∃ t, exec c s = .next t ∧ t.pending = s.pending ∧ s.dev.ResetFrom t.dev := by
      rcases hc with ⟨damage, p, slot, snap, seq, b, rfl, h⟩ | ⟨residue, p, slot, u, rfl, h⟩ |
          ⟨damage, ws, second, age, rfl, h⟩
      · exact exec_writeVerifyDone_reset hrun hhold damage h
      · exact exec_eraseDone_reset hrun hhold residue h
      · exact exec_paramOperationDone_reset hrun hhold damage h
    obtain ⟨t, hexec, hpending, h⟩ := hreset
    refine ⟨t, hexec, hpending, h.run, h.hold, h.free, h.queue, h.service, h.deferred, h.transmit, h.pins, h.bkd, h.pocket,
      fun p slot snap seq hc hflight hk hwf herased => ?_⟩
    exact exec_writeVerifyDone_reset_record hrun hhold (hc ▸ hexec) hflight hk hwf herased

end Sys2Proof.Proofs
end

section
/-! STATUS: the snapshot byte by byte, what it acknowledges, and ATTN (R56, R167, R168, Table 11-6). -/

namespace Sys2Proof.Machine

/-! ### ATTN -/

theorem Attention.ne_empty_iff (a : Attention) :
    (a != Attention.empty) = true ↔ a.planReady = true ∨ a.closed = true ∨ a.fault = true ∨ a.supply = true := by
  obtain ⟨planReady, closed, fault, supply⟩ := a
  cases planReady <;> cases closed <;> cases fault <;> cases supply <;> decide

theorem Dev.attnPin_low_iff (d : Dev) : d.attnPin = .low ↔ d.attention = true := by
  cases h : d.attention <;> simp [Dev.attnPin, h]

theorem Dev.attnPin_cases (d : Dev) : d.attnPin = .low ∨ d.attnPin = .released := by
  cases h : d.attention <;> simp [Dev.attnPin, h]

theorem Dev.attention_iff (d : Dev) :
    d.attention = true ↔ d.run ≠ .backup ∧ ¬(d.run = .startup ∧ d.link.resetHold = true) ∧
      (d.link.attention.planReady = true ∨ d.link.attention.closed = true ∨ d.link.attention.fault = true ∨
        d.link.attention.supply = true) := by
  simp only [Dev.attention, Dev.powered, Dev.held, Bool.and_eq_true, bne_iff_ne, Bool.not_eq_true', Bool.and_eq_false_iff,
    beq_eq_false_iff_ne, ← Attention.ne_empty_iff, and_assoc, Classical.not_and_iff_not_or_not, Bool.not_eq_true]

theorem Dev.attnPin_of_no_cause {d : Dev} (h : d.link.attention = ⟨false, false, false, false⟩) : d.attnPin = .released := by
  refine d.attnPin_cases.resolve_left fun hlow => ?_
  rw [Dev.attnPin_low_iff, Dev.attention_iff, h] at hlow
  simp at hlow

/-! ### The bytes of the snapshot -/

theorem bitAt_eq (b : Bool) (i : Nat) : bitAt b i = if b then 2 ^ i else 0 := by cases b <;> simp [bitAt, bit]

theorem wordBytes_eq (w : Word) : wordBytes w = [w.setWidth 8, (w >>> 8).setWidth 8] := by
  have hlow : BitVec.ofNat 8 w.toNat = w.setWidth 8 := by
    apply BitVec.eq_of_toNat_eq
    simp
  have hhigh : BitVec.ofNat 8 (w.toNat / 256) = (w >>> 8).setWidth 8 := by
    apply BitVec.eq_of_toNat_eq
    simp [Nat.shiftRight_eq_div_pow]
  rw [wordBytes, leBytes, leBytes, leBytes, hlow, hhigh]

/-- A temperature as the word that carries it. -/
def tempWord : Option Int → Word
  | none => 0x8000
  | some t => BitVec.ofInt 16 t

theorem tempOrAbsentBytes_eq (t : Option Int) : tempOrAbsentBytes t = wordBytes (tempWord t) := by
  cases t <;> rfl

/-- The sequence word that the snapshot carries, free with no completed record. -/
def Dev.newestWord (d : Dev) (p : Pocket) : Word :=
  (d.ring.get p).newest.getD (Config.openSequence (2 * d.freeCount + pocketIndex p))

section Snapshot
variable (d : Dev) (p : Pocket)

theorem Dev.newestField_eq : d.newestField p = wordBytes (d.newestWord p) := by
  cases h : (d.ring.get p).newest <;> simp [Dev.newestField, Dev.newestWord, h]

theorem Dev.statusDevice_eq : d.statusDevice =
    [0, BitVec.ofNat 8 d.run.code, BitVec.ofNat 8 d.mainsByte, BitVec.ofNat 8 d.bkd.confidence,
      BitVec.ofNat 8 d.reserve.level, BitVec.ofNat 8 (d.reserve.level / 256), BitVec.ofNat 8 d.deviceByte,
      BitVec.ofNat 8 d.link.attention.byte, BitVec.ofNat 8 d.engine.queue.length, BitVec.ofNat 8 d.arbiter.byte,
      BitVec.ofNat 8 d.arbiter.stagger, BitVec.ofNat 8 d.staggerLength] := rfl

theorem Dev.statusPocket_eq : d.statusPocket p =
    [BitVec.ofNat 8 (d.psq.get p).state.code, BitVec.ofNat 8 (markCode (d.psq.get p).mark),
      BitVec.ofNat 8 (d.pocketFlags p), BitVec.ofNat 8 (d.psq.get p).faultByte,
      BitVec.ofNat 8 (d.bkd.facts.get p).stall, BitVec.ofNat 8 ((d.bkd.facts.get p).stall / 256),
      BitVec.ofNat 8 ((d.bkd.facts.get p).stall / 256 / 256), BitVec.ofNat 8 (d.bkd.facts.get p).losses,
      BitVec.ofNat 8 (d.pendingCount p), (tempWord (d.sns.get p).published).setWidth 8,
      (tempWord (d.sns.get p).published >>> 8).setWidth 8,
      BitVec.ofNat 8 ((d.tmb.get p).state.code + bitAt (d.ring.get p).newest.isSome 7),
      BitVec.ofNat 8 (d.tmb.get p).burstsLeft, BitVec.ofNat 8 (d.tmb.get p).position,
      BitVec.ofNat 8 ((d.tmb.get p).position / 256), (d.newestWord p).setWidth 8, (d.newestWord p >>> 8).setWidth 8] := by
  rw [Dev.statusPocket, tempOrAbsentBytes_eq, Dev.newestField_eq, wordBytes_eq, wordBytes_eq]
  rfl

theorem Dev.statusPayload_length : d.statusPayload.length = 46 := by
  simp [Dev.statusPayload, Dev.statusDevice_eq, Dev.statusPocket_eq]

theorem Dev.statusPayload_device {i : Nat} (h : i < 12) (x : Byte) : d.statusPayload.getD i x = d.statusDevice.getD i x := by
  have hlength : d.statusDevice.length = 12 := by simp [Dev.statusDevice_eq]
  rw [Dev.statusPayload, List.append_assoc, getD_append_of_lt (by omega)]

theorem Dev.statusPayload_pocket {i : Nat} (h : i < 17) (x : Byte) :
    d.statusPayload.getD (12 + 17 * pocketIndex p + i) x = (d.statusPocket p).getD i x := by
  have hdevice : d.statusDevice.length = 12 := by simp [Dev.statusDevice_eq]
  have hpocket : ∀ q, (d.statusPocket q).length = 17 := fun q => by simp [Dev.statusPocket_eq]
  rw [Dev.statusPayload, List.append_assoc, getD_append_of_le (by omega), hdevice]
  cases p with
  | a =>
    rw [getD_append_of_lt (by simp [hpocket, pocketIndex]; omega)]
    congr 1
    simp [pocketIndex]
  | b =>
    rw [getD_append_of_le (by simp [hpocket, pocketIndex]; omega), hpocket]
    congr 1
    simp [pocketIndex]
    omega

/-! ### The bytes that pack flags -/

theorem Dev.mainsByte_eq : d.mainsByte =
    d.bkd.monitor.state.code + (if d.settle.flag then 4 else 0) + (if d.bkd.confidence ≤ 7 then 8 else 0) := by
  have hmode : (!d.steady) = decide (d.bkd.confidence ≤ 7) := by
    rw [Dev.steady, ← decide_not]
    exact decide_eq_decide.2 (by omega)
  simp [Dev.mainsByte, bitAt_eq, hmode]

theorem Dev.deviceByte_eq : d.deviceByte =
    (if d.reserve.ready then 1 else 0) + (if d.faults.paramDefault then 2 else 0) + (if d.faults.reserveLow then 4 else 0) +
    (if d.faults.coldStart then 8 else 0) + (if d.engine.inFlight = none then 0 else 16) := by
  cases h : d.engine.inFlight <;> simp [Dev.deviceByte, bitAt_eq, h]

theorem Dev.pocketFlags_eq : d.pocketFlags p =
    (if (d.psq.get p).doorOpen then 1 else 0) + (if (d.bkd.facts.get p).suspended then 2 else 0) +
    (if (d.bkd.facts.get p).latch then 4 else 0) +
    ((if (d.image.get p).isSome then 8 else 0) + if (d.image.get p).any Image.dirty then 16 else 0) +
    (if (d.tmb.get p).staged = none then 0 else 32) + (if d.motorRun p then 64 else 0) +
    (if d.motorRev p then 128 else 0) := by
  cases h : (d.tmb.get p).staged <;> simp [Dev.pocketFlags, bitAt_eq, h, Nat.add_assoc]

theorem Attention.byte_eq (a : Attention) : a.byte =
    (if a.planReady then 1 else 0) + (if a.closed then 2 else 0) + (if a.fault then 4 else 0) + (if a.supply then 8 else 0) := by
  simp [Attention.byte, bitAt_eq]

theorem Sequencer.faultByte_eq (q : Sequencer) : q.faultByte =
    (if q.advisory.tornTail then 1 else 0) + (if q.advisory.staleBasis then 2 else 0) +
    (if q.advisory.writeRetry then 4 else 0) + (if q.blocking.journalFail then 8 else 0) +
    (if q.blocking.ringCorrupt then 16 else 0) + (if q.blocking.thermal then 32 else 0) +
    (if q.blocking.sensor then 64 else 0) := by
  simp [Sequencer.faultByte, bitAt_eq]

theorem Dev.staggerByte : BitVec.ofNat 8 d.staggerLength = if 8 ≤ d.bkd.confidence then 20 else 45 := by
  by_cases h : 8 ≤ d.bkd.confidence <;> simp [Dev.staggerLength, Dev.steady, h]

end Snapshot

/-! ### The request -/

/-- What STATUS leaves. -/
theorem exec_status {s : State} (hrun : s.dev.run ≠ .backup) (hfree : s.dev.linkFree)
    (hbegins : s.dev.link.receiver.begins 0x01 [] = true) :
    exec (.status []) s = .next { s with dev := { s.dev with
      faults := { s.dev.faults with coldStart := false }
      freeCount := s.dev.freeCount + 1
      link := { s.dev.link with
        receiver := .hunting, gapMs := 0, attention := ⟨false, false, false, false⟩
        transmit := s.dev.link.transmit ++ [⟨0x81, s.dev.statusPayload⟩] } } } := by
  have hheard : s.dev.hears (Request.status.typeByte) [] = true := (Dev.hears_iff _).2 ⟨hrun, by simp, hbegins⟩
  have hverdict : s.dev.verdict .status [] = .dispatch := by
    simp [Dev.verdict, Dev.not_drops_of_linkFree hfree, Request.lengthOk, Request.namesPocket, Request.enumsOk, Dev.duplicate,
      Request.deferrable]
  show Host.Outcome.next { s with dev := s.dev.serveRequest .status [] serveStatus } = _
  rw [Dev.serveRequest_of_dispatch _ hheard hverdict]
  rfl

end Sys2Proof.Machine

namespace Sys2Proof.Proofs
open Sys2Proof.Machine

/-- Settles O39: the snapshot is a list of 46 bytes, read off by offset. -/
theorem status : Obligations.Status := by
  refine ⟨fun d => ⟨(d.attnPin_low_iff).trans d.attention_iff, d.attnPin_cases⟩, fun s hrun hfree hbegins => ?_⟩
  refine ⟨_, exec_status hrun hfree hbegins, ?_, rfl, s.dev.statusPayload_length, fun at_ hat => ?_, fun p off hoff at_ hat => ?_⟩
  · exact Dev.attnPin_of_no_cause rfl
  · have hbyte (i : Nat) (hi : i < 12) : at_ i = s.dev.statusDevice.getD i 0xEE := by
      rw [hat]
      exact s.dev.statusPayload_device hi _
    rw [Dev.statusDevice_eq] at hbyte
    refine ⟨hbyte 0 (by decide), ?_, ?_, hbyte 3 (by decide), hbyte 4 (by decide), hbyte 5 (by decide), ?_, ?_,
      hbyte 8 (by decide), ?_, hbyte 10 (by decide), ?_⟩
    · rw [hbyte 1 (by decide)]
      cases s.dev.run <;> rfl
    · rw [hbyte 2 (by decide), Dev.mainsByte_eq]
      cases s.dev.bkd.monitor.state <;> rfl
    · rw [hbyte 6 (by decide), Dev.deviceByte_eq]
      rfl
    · rw [hbyte 7 (by decide), Attention.byte_eq]
      rfl
    · rw [hbyte 9 (by decide)]
      rcases hq : s.dev.arbiter.queue with _ | ⟨p, _ | ⟨q, rest⟩⟩ <;> simp [Arbiter.byte, hq, grantCode]
    · rw [hbyte 11 (by decide)]
      exact s.dev.staggerByte
  · have hbyte (i : Nat) (hi : i < 17) : at_ i = (s.dev.statusPocket p).getD i 0xEE := by
      rw [hat, hoff]
      exact s.dev.statusPayload_pocket p hi _
    rw [Dev.statusPocket_eq] at hbyte
    refine ⟨?_, ?_, ?_, ?_, hbyte 4 (by decide), hbyte 5 (by decide), ?_, hbyte 7 (by decide), ?_, fun w hw => ?_, ?_,
      hbyte 12 (by decide), hbyte 13 (by decide), hbyte 14 (by decide), fun w hw => ?_⟩
    · rw [hbyte 0 (by decide)]
      cases (s.dev.psq.get p).state <;> rfl
    · rw [hbyte 1 (by decide)]
      rcases (s.dev.psq.get p).mark with _ | _ | _ | _ | _ | _ <;> rfl
    · rw [hbyte 2 (by decide), Dev.pocketFlags_eq]
      cases s.dev.image.get p <;> rfl
    · rw [hbyte 3 (by decide), Sequencer.faultByte_eq]
      rfl
    · rw [hbyte 6 (by decide), ← Nat.div_div_eq_div_mul _ 256 256]
      rfl
    · rw [hbyte 8 (by decide)]
      cases him : s.dev.image.get p <;> simp [Dev.pendingCount, him]
    · have hw' : w = tempWord (s.dev.sns.get p).published := by
        rw [hw]
        cases (s.dev.sns.get p).published <;> rfl
      rw [hbyte 9 (by decide), hbyte 10 (by decide), hw']
      exact ⟨rfl, rfl⟩
    · rw [hbyte 11 (by decide), bitAt_eq]
      cases (s.dev.ring.get p).newest <;> cases (s.dev.tmb.get p).state <;> rfl
    · have hnewest : s.dev.newestWord p = w := by rw [Dev.newestWord, hw, Option.getD_some]
      rw [hbyte 15 (by decide), hbyte 16 (by decide), hnewest]
      exact ⟨rfl, rfl⟩

end Sys2Proof.Proofs
end

section
/-! A record reads back as it was written, and a part of one never does (R80, R106, R177, Tables 5-1 and 11-7). -/

namespace Sys2Proof.Machine

/-! ### Fields -/

theorem leBytes_length (n v : Nat) : (leBytes n v).length = n := by
  induction n generalizing v with
  | zero => rfl
  | succ n ih => simp [leBytes, ih]

/-- Little-endian bytes spell the number they were made of. -/
theorem leValue_leBytes {n v : Nat} (h : v < 256 ^ n) : leValue (leBytes n v) = v := by
  induction n generalizing v with
  | zero =>
    rw [Nat.pow_zero] at h
    obtain rfl : v = 0 := by omega
    rfl
  | succ n ih =>
    rw [Nat.pow_succ] at h
    rw [leBytes, leValue, ih (by omega), BitVec.toNat_ofNat]
    omega

/-- The number at an offset where a number was written. -/
theorem fieldValue_of_bytes {bs : List Byte} {offset n v : Nat} (hfield : field bs offset n = leBytes n v)
    (h : v < 256 ^ n) : fieldValue bs offset n = v := by
  rw [fieldValue, hfield, leValue_leBytes h]

theorem ofNat_fieldValue_of_word {bs : List Byte} {offset : Nat} {w : Word} (hfield : field bs offset 2 = wordBytes w) :
    BitVec.ofNat 16 (fieldValue bs offset 2) = w := by
  rw [fieldValue_of_bytes hfield (by have := w.isLt; omega)]
  simp

theorem fieldInt_of_bytes {bs : List Byte} {offset : Nat} {t : Int} (hfield : field bs offset 2 = tempBytes t)
    (hlow : -32768 ≤ t) (hhigh : t ≤ 32767) : fieldInt bs offset = t := by
  rw [fieldInt, ofNat_fieldValue_of_word hfield, BitVec.toInt_ofInt]
  simp only [Int.bmod]
  omega

/-! ### The fields of a record as written -/

theorem Kind.ofCode_code (k : Kind) : Kind.ofCode k.code = some k := by cases k <;> rfl

theorem pocketOfIndex_pocketIndex (p : Pocket) : pocketOfIndex (pocketIndex p) = some p := by cases p <;> rfl

theorem phaseOfByte_code (x : Phase) : phaseOfByte (BitVec.ofNat 8 x.code) = x := by cases x <;> rfl

section Written
variable (p : Pocket) (snap : Snapshot) (seq : Word)

/-- Parts 2 to 4 of a record: 29 bytes before the block of its kind. -/
theorem Snapshot.record_field {offset n : Nat} (h : offset + n ≤ 29) :
    field (snap.record p seq).bytes offset n =
      field (byte1 (pocketIndex p) ++ byte1 snap.kind.code ++ leBytes 2 snap.cycle ++ wordBytes seq ++ bodyBytes snap.body) offset n := by
  have hlength : (byte1 (pocketIndex p) ++ byte1 snap.kind.code ++ leBytes 2 snap.cycle ++ wordBytes seq ++
      bodyBytes snap.body).length = 29 := rfl
  rw [Snapshot.record, field, field, List.drop_append_of_le_length (by omega),
    List.take_append_of_le_length (by rw [List.length_drop]; omega)]

/-- The block of its kind, after them. -/
theorem Snapshot.record_block (offset n : Nat) :
    field (snap.record p seq).bytes (29 + offset) n = field (blockBytes snap) offset n := by
  rw [field, ← List.drop_drop]
  rfl

theorem Snapshot.record_pocket : (snap.record p seq).pocket = pocketIndex p :=
  fieldValue_of_bytes (snap.record_field p seq (by decide)) (by cases p <;> decide)

theorem Snapshot.record_kindCode : (snap.record p seq).kindCode = snap.kind.code :=
  fieldValue_of_bytes (snap.record_field p seq (by decide)) (by cases snap.kind <;> decide)

theorem Snapshot.record_kind : (snap.record p seq).kind = some snap.kind := by
  rw [Record.kind, Snapshot.record_kindCode, Kind.ofCode_code]

theorem Snapshot.record_cycle (h : snap.cycle ≤ 65535) : (snap.record p seq).cycle = snap.cycle :=
  fieldValue_of_bytes (snap.record_field p seq (by decide)) (by omega)

theorem Snapshot.record_seq : (snap.record p seq).seq = seq :=
  ofNat_fieldValue_of_word (snap.record_field p seq (by decide))

/-- The figures of a body fit the bytes of Table 5-1. -/
structure Body.Fits (b : Body) : Prop where
  program : b.program ≤ 255
  heat : b.heat ≤ 65535
  cool : b.cool ≤ 65535
  stage : b.stage ≤ 255
  moisture : b.moisture ≤ 255
  energy : b.energy ≤ 65535
  runTime : b.runTime ≤ 65535
  lastLow : -32768 ≤ b.exhaustLast
  lastHigh : b.exhaustLast ≤ 32767
  peakLow : -32768 ≤ b.exhaustPeak
  peakHigh : b.exhaustPeak ≤ 32767
  outages : b.outages ≤ 255
  on : b.guard.on ≤ 255
  period : b.guard.period ≤ 65535
  bursts : b.guard.bursts ≤ 255
  reverse : b.guard.reverse ≤ 255
  burstsLeft : b.burstsLeft ≤ 255

/-- The fields of the body lie after the 6 bytes of pocket, kind, cycle and sequence. -/
theorem Snapshot.record_bodyField {offset n : Nat} (h : offset + n ≤ 23) :
    field (snap.record p seq).bytes (6 + offset) n = field (bodyBytes snap.body) offset n := by
  rw [Snapshot.record_field p snap seq (by omega), field, ← List.drop_drop]
  rfl

section BodyField
variable {offset v : Nat}

theorem Snapshot.record_byte (ho : offset + 1 ≤ 23) (hv : v ≤ 255) (hfield : field (bodyBytes snap.body) offset 1 = leBytes 1 v) :
    fieldValue (snap.record p seq).bytes (6 + offset) 1 = v :=
  fieldValue_of_bytes ((snap.record_bodyField p seq ho).trans hfield) (by omega)

theorem Snapshot.record_word (ho : offset + 2 ≤ 23) (hv : v ≤ 65535) (hfield : field (bodyBytes snap.body) offset 2 = leBytes 2 v) :
    fieldValue (snap.record p seq).bytes (6 + offset) 2 = v :=
  fieldValue_of_bytes ((snap.record_bodyField p seq ho).trans hfield) (by omega)

theorem Snapshot.record_temp {t : Int} (ho : offset + 2 ≤ 23) (hlow : -32768 ≤ t) (hhigh : t ≤ 32767)
    (hfield : field (bodyBytes snap.body) offset 2 = tempBytes t) : fieldInt (snap.record p seq).bytes (6 + offset) = t :=
  fieldInt_of_bytes ((snap.record_bodyField p seq ho).trans hfield) hlow hhigh

end BodyField

variable {snap}

theorem Snapshot.record_guard (h : snap.body.Fits) : guardOfBytes (snap.record p seq).bytes 23 = snap.body.guard := by
  have hon := snap.record_byte p seq (offset := 17) (by decide) h.on rfl
  have hperiod := snap.record_word p seq (offset := 18) (by decide) h.period rfl
  have hbursts := snap.record_byte p seq (offset := 20) (by decide) h.bursts rfl
  have hreverse := snap.record_byte p seq (offset := 21) (by decide) h.reverse rfl
  rw [guardOfBytes, hon, hperiod, hbursts, hreverse]

theorem Snapshot.record_phase : phaseOfByte ((snap.record p seq).bytes.getD 6 0) = snap.body.phase :=
  phaseOfByte_code snap.body.phase

theorem Snapshot.record_figures (h : snap.body.Fits) :
    fieldValue (snap.record p seq).bytes 7 1 = snap.body.program ∧ fieldValue (snap.record p seq).bytes 8 2 = snap.body.heat ∧
    fieldValue (snap.record p seq).bytes 10 2 = snap.body.cool ∧ fieldValue (snap.record p seq).bytes 12 1 = snap.body.stage ∧
    fieldValue (snap.record p seq).bytes 13 1 = snap.body.moisture ∧
    fieldValue (snap.record p seq).bytes 14 2 = snap.body.energy ∧
    fieldValue (snap.record p seq).bytes 16 2 = snap.body.runTime :=
  ⟨snap.record_byte p seq (offset := 1) (by decide) h.program rfl, snap.record_word p seq (offset := 2) (by decide) h.heat rfl,
    snap.record_word p seq (offset := 4) (by decide) h.cool rfl, snap.record_byte p seq (offset := 6) (by decide) h.stage rfl,
    snap.record_byte p seq (offset := 7) (by decide) h.moisture rfl,
    snap.record_word p seq (offset := 8) (by decide) h.energy rfl,
    snap.record_word p seq (offset := 10) (by decide) h.runTime rfl⟩

theorem Snapshot.record_body (h : snap.body.Fits) : (snap.record p seq).body = snap.body := by
  obtain ⟨hprogram, hheat, hcool, hstage, hmoisture, henergy, hrunTime⟩ := Snapshot.record_figures p seq h
  have hlast : fieldInt (snap.record p seq).bytes 18 = snap.body.exhaustLast :=
    snap.record_temp p seq (offset := 12) (by decide) h.lastLow h.lastHigh rfl
  have hpeak : fieldInt (snap.record p seq).bytes 20 = snap.body.exhaustPeak :=
    snap.record_temp p seq (offset := 14) (by decide) h.peakLow h.peakHigh rfl
  have houtages := snap.record_byte p seq (offset := 16) (by decide) h.outages rfl
  have hburstsLeft := snap.record_byte p seq (offset := 22) (by decide) h.burstsLeft rfl
  rw [Record.body, Snapshot.record_phase, hprogram, hheat, hcool, hstage, hmoisture, henergy, hrunTime, hlast, hpeak,
    houtages, Snapshot.record_guard p seq h, hburstsLeft]

/-! ### The block of the kind -/

theorem Snapshot.record_resume {x : ResumeBlock} (hkind : snap.kind = .resume) (hresume : snap.resume = some x)
    (hstall : x.stall ≤ 16777215) :
    fieldValue (snap.record p seq).bytes 29 1 = x.outcome.code ∧ fieldValue (snap.record p seq).bytes 30 1 = x.reason.code ∧
    BitVec.ofNat 16 (fieldValue (snap.record p seq).bytes 31 2) = x.basisSeq ∧
    fieldValue (snap.record p seq).bytes 33 3 = x.stall ∧
    (x.temperature = none → fieldValue (snap.record p seq).bytes 36 2 = 0x8000) ∧
    ∀ t, x.temperature = some t → -32768 ≤ t → t ≤ 32767 → fieldInt (snap.record p seq).bytes 36 = t := by
  have hblock (offset n : Nat) : field (snap.record p seq).bytes (29 + offset) n = field (resumeBytes x) offset n := by
    rw [Snapshot.record_block, blockBytes, hkind, hresume]
  have htemp : field (snap.record p seq).bytes 36 2 = tempOrAbsentBytes x.temperature := by
    rw [hblock 7 2, resumeBytes]
    cases x.temperature <;> rfl
  refine ⟨fieldValue_of_bytes (hblock 0 1) (by cases x.outcome <;> decide),
    fieldValue_of_bytes (hblock 1 1) (by cases x.reason <;> decide), ofNat_fieldValue_of_word (hblock 2 2),
    fieldValue_of_bytes (hblock 4 3) (by omega), fun h => ?_, fun t h hlow hhigh => ?_⟩
  · rw [h] at htemp
    exact fieldValue_of_bytes htemp (by decide)
  · rw [h] at htemp
    exact fieldInt_of_bytes htemp hlow hhigh

theorem Snapshot.record_close {c : CloseReason} (hkind : snap.kind = .close) (hreason : snap.closeReason = some c) :
    fieldValue (snap.record p seq).bytes 29 1 = c.code := by
  have hblock : field (snap.record p seq).bytes (29 + 0) 1 = leBytes 1 c.code := by
    rw [Snapshot.record_block, blockBytes, hkind, hreason]
    cases snap.resume <;> rfl
  exact fieldValue_of_bytes hblock (by cases c <;> decide)

/-- The length that a record's kind gives it. -/
theorem Snapshot.record_length (hresume : snap.kind = .resume → snap.resume ≠ none)
    (hclose : snap.kind = .close → snap.closeReason ≠ none) :
    (snap.record p seq).bytes.length = recordLength snap.kind := by
  have hlength : (snap.record p seq).bytes.length = 29 + (blockBytes snap).length := by
    rw [Snapshot.record, List.length_append]
    rfl
  rw [hlength]
  cases hkind : snap.kind with
  | resume =>
    obtain ⟨x, hx⟩ := Option.ne_none_iff_exists'.1 (hresume hkind)
    cases ht : x.temperature <;>
      simp [blockBytes, hkind, hx, resumeBytes, recordLength, byte1, wordBytes, leBytes_length, tempOrAbsentBytes, ht, tempBytes]
  | close =>
    obtain ⟨c, hc⟩ := Option.ne_none_iff_exists'.1 (hclose hkind)
    cases snap.resume <;> simp [blockBytes, hkind, hc, recordLength, byte1, leBytes_length]
  | _ => simp [blockBytes, hkind, recordLength]

end Written

/-! ### Pages -/

theorem pageOf_field {bs : List Byte} {offset n : Nat} (h : offset + n ≤ bs.length) (hpage : offset + n ≤ 128) :
    field (pageOf bs) offset n = field bs offset n := by
  have hlength : (pageOf bs).length = 128 := pageOf_length bs
  refine List.ext_getElem (by simp only [field, List.length_take, List.length_drop]; omega) fun i h1 h2 => ?_
  simp only [field, List.length_take, List.length_drop] at h1 h2
  simp only [field, List.getElem_take, List.getElem_drop]
  rw [← getD_of_lt (x := 0), ← getD_of_lt (x := 0xFF), pageOf_getD bs (by omega)]

theorem fieldValue_one (bs : List Byte) (i : Nat) : fieldValue bs i 1 = (bs.getD i 0).toNat := by
  have hfield : field bs i 1 = (bs[i]?).toList := by rw [field, List.take_one, List.head?_drop]
  rw [fieldValue, hfield, List.getD_eq_getElem?_getD]
  cases bs[i]? <;> simp [leValue]

theorem field_take {bs : List Byte} {offset n m : Nat} (h : offset + n ≤ m) : field (bs.take m) offset n = field bs offset n := by
  rw [field, field, List.drop_take, List.take_take, Nat.min_eq_left (by omega)]

/-- The second byte of a field of two. -/
theorem getD_of_field {bs : List Byte} {offset : Nat} {x y : Byte} (h : field bs offset 2 = [x, y]) :
    bs.getD (offset + 1) 0 = y := by
  have hsecond : (field bs offset 2)[1]? = bs[offset + 1]? := by rw [field, List.getElem?_take_of_lt (by decide), List.getElem?_drop]
  rw [List.getD_eq_getElem?_getD, ← hsecond, h]
  rfl

/-- A page with a byte that is not all ones is not erased. -/
theorem not_erasedPage {page : List Byte} (h : page.getD 0 0xFF ≠ 0xFF) : erasedPage page = false := by
  cases page with
  | nil => exact absurd rfl h
  | cons b page =>
    have hb : (b == 0xFF) = false := beq_eq_false_iff_ne.2 h
    rw [erasedPage, List.all_cons, hb, Bool.false_and]

/-- A page without a closing mark where its kind puts it is TORN, whatever else it holds. -/
theorem classify_of_no_mark {q : Pocket} {page : List Byte} (hpage : erasedPage page = false)
    (h : ∀ k, Kind.ofCode (fieldValue page 3 1) = some k → field page (4 + recordLength k) 2 ≠ closingMark) :
    classify q page = .good .torn := by
  rw [classify, hpage]
  by_cases hopen : field page 0 2 = openingMark
  · cases hpocket : pocketOfIndex (fieldValue page 2 1) with
    | none => simp [hopen]
    | some x =>
      cases hkind : Kind.ofCode (fieldValue page 3 1) with
      | none => simp [hopen]
      | some k => simp [hopen, h k hkind]
  · simp [hopen]

/-- A whole record is VALID for its own pocket and FOREIGN for the other. -/
theorem classify_of_record {p q : Pocket} {k : Kind} {page bytes : List Byte} (hpage : erasedPage page = false)
    (hopen : field page 0 2 = openingMark) (hpocket : fieldValue page 2 1 = pocketIndex p)
    (hkind : fieldValue page 3 1 = k.code) (hcycle : fieldValue page 4 2 ≠ 0)
    (hclose : field page (4 + recordLength k) 2 = closingMark) (hbytes : field page 2 (recordLength k) = bytes)
    (hcheck : field page (2 + recordLength k) 2 = wordBytes (crc16 bytes)) :
    classify q page = if p = q then .good (.valid ⟨bytes⟩) else .good .foreign := by
  rw [classify, hpage, hpocket, hkind, pocketOfIndex_pocketIndex, Kind.ofCode_code]
  by_cases hq : p = q <;> simp [hopen, hcycle, hclose, hbytes, hcheck, hq]

theorem recordLength_le (k : Kind) : recordLength k ≤ 38 := by cases k <;> decide

/-- The part between two others. -/
theorem field_append {a b c : List Byte} {offset n : Nat} (ha : a.length = offset) (hb : b.length = n) :
    field (a ++ (b ++ c)) offset n = b := by
  rw [field, List.drop_left' ha, List.take_left' hb]

section Page
variable {p : Pocket} {snap : Snapshot} {seq : Word}
  (hlength : (snap.record p seq).bytes.length = recordLength snap.kind)
include hlength

theorem Snapshot.written_length : (snap.record p seq).written.length = 6 + recordLength snap.kind := by
  simp only [Record.written, openingMark, closingMark, List.length_append, List.length_cons, List.length_nil, wordBytes,
    leBytes_length, hlength]
  omega

/-- Where the parts of a record stand in its bytes as written. -/
theorem Snapshot.written_fields :
    field (snap.record p seq).written 0 2 = openingMark ∧
    field (snap.record p seq).written 2 (recordLength snap.kind) = (snap.record p seq).bytes ∧
    field (snap.record p seq).written (2 + recordLength snap.kind) 2 = wordBytes (crc16 (snap.record p seq).bytes) ∧
    field (snap.record p seq).written (4 + recordLength snap.kind) 2 = closingMark := by
  have hcheck := leBytes_length 2 (crc16 (snap.record p seq).bytes).toNat
  have hopen : openingMark.length = 2 := rfl
  simp only [Record.written, wordBytes]
  refine ⟨?_, ?_, ?_, ?_⟩
  · rw [List.append_assoc, List.append_assoc]
    exact field_append (a := []) rfl hopen
  · rw [List.append_assoc, List.append_assoc]
    exact field_append hopen hlength
  · rw [List.append_assoc]
    exact field_append (by rw [List.length_append, hopen, hlength]) hcheck
  · rw [← List.append_nil closingMark]
    exact field_append (by rw [List.length_append, List.length_append, hopen, hlength, hcheck]; omega) rfl

/-- The header stands behind the opening mark. -/
theorem Snapshot.written_header {offset n : Nat} (h : offset + n ≤ recordLength snap.kind) :
    field (snap.record p seq).written (2 + offset) n = field (snap.record p seq).bytes offset n := by
  have hopen : openingMark.length = 2 := rfl
  rw [Record.written, List.append_assoc, List.append_assoc, field, ← List.drop_drop, List.drop_left' hopen, field,
    List.drop_append_of_le_length (by omega), List.take_append_of_le_length (by rw [List.length_drop]; omega)]

theorem Snapshot.classify_written (hcycle : 1 ≤ snap.cycle ∧ snap.cycle ≤ 65535) (q : Pocket) :
    classify q (pageOf (snap.record p seq).written) =
      if p = q then .good (.valid (snap.record p seq)) else .good .foreign := by
  have htop := recordLength_le snap.kind
  have hlow : 29 ≤ recordLength snap.kind := by cases snap.kind <;> decide
  have hwritten := Snapshot.written_length hlength
  obtain ⟨hopen, hbytes, hcheck, hclose⟩ := Snapshot.written_fields hlength
  have hpage {offset n : Nat} (h : offset + n ≤ 6 + recordLength snap.kind) :
      field (pageOf (snap.record p seq).written) offset n = field (snap.record p seq).written offset n :=
    pageOf_field (by omega) (by omega)
  have hheader {offset n : Nat} (h : offset + n ≤ recordLength snap.kind) :
      fieldValue (pageOf (snap.record p seq).written) (2 + offset) n = fieldValue (snap.record p seq).bytes offset n := by
    rw [fieldValue, hpage (by omega), Snapshot.written_header hlength h, fieldValue]
  refine classify_of_record (k := snap.kind) ?_ ((hpage (by omega)).trans hopen) ?_ ?_ ?_ ((hpage (by omega)).trans hclose)
    ((hpage (by omega)).trans hbytes) ((hpage (by omega)).trans hcheck)
  · exact not_erasedPage (by rw [pageOf_getD _ (by decide)]; exact show (0xA5 : Byte) ≠ 0xFF by decide)
  · exact (hheader (offset := 0) (by omega)).trans (snap.record_pocket p seq)
  · exact (hheader (offset := 1) (by omega)).trans (snap.record_kindCode p seq)
  · rw [hheader (offset := 2) (by omega), show fieldValue (snap.record p seq).bytes 2 2 = snap.cycle from
      snap.record_cycle p seq hcycle.2]
    omega

/-- A part of a record never reads as one: its last byte is still all ones. -/
theorem Snapshot.classify_part {n : Nat} (hpos : 0 < n) (hn : n < (snap.record p seq).written.length) (q : Pocket) :
    classify q (pageOf ((snap.record p seq).written.take n)) = .good .torn := by
  have htop := recordLength_le snap.kind
  have hwritten := Snapshot.written_length hlength
  have hones {i : Nat} (hi : n ≤ i) (h : i < 128) :
      (pageOf ((snap.record p seq).written.take n)).getD i 0 = 0xFF := by
    rw [pageOf_getD _ h, getD_of_le (by rw [List.length_take]; omega)]
  refine classify_of_no_mark ?_ fun k hk hclose => ?_
  · obtain ⟨m, rfl⟩ : ∃ m, n = m + 1 := ⟨n - 1, by omega⟩
    exact not_erasedPage (by rw [pageOf_getD _ (by decide)]; exact show (0xA5 : Byte) ≠ 0xFF by decide)
  by_cases hshort : n ≤ 3
  · rw [fieldValue_one, hones hshort (by decide)] at hk
    exact absurd hk.symm (Option.some_ne_none k)
  · have hkind : fieldValue (pageOf ((snap.record p seq).written.take n)) 3 1 = snap.kind.code := by
      have hheader := Snapshot.written_header (n := 1) (offset := 1) hlength (by cases snap.kind <;> decide)
      rw [fieldValue, pageOf_field (by rw [List.length_take]; omega) (by decide), field_take (by omega), hheader]
      exact snap.record_kindCode p seq
    rw [hkind, Kind.ofCode_code] at hk
    obtain rfl := Option.some.inj hk
    have hlast := getD_of_field hclose
    rw [hones (by omega) (by omega)] at hlast
    exact absurd hlast (by decide)

end Page

theorem classify_blank (q : Pocket) : classify q (pageOf []) = .good .blank := by
  have hblank : erasedPage (pageOf []) = true := by decide
  rw [classify, hblank, if_pos rfl]

end Sys2Proof.Machine

namespace Sys2Proof.Proofs
open Sys2Proof.Machine

/-- Settles O57: each field is read at the offset it was written at, and the class follows from the parts of the record. -/
theorem recordRoundTrip : Obligations.RecordRoundTrip := by
  intro p snap seq hcycle hcycle' hresume hclose hprogram hheat hcool hstage hmoisture henergy hrunTime hlastLow hlastHigh
    hpeakLow hpeakHigh houtages hon hperiod hbursts hreverse hburstsLeft r hr
  have hfits : snap.body.Fits := ⟨hprogram, hheat, hcool, hstage, hmoisture, henergy, hrunTime, hlastLow, hlastHigh, hpeakLow,
    hpeakHigh, houtages, hon, hperiod, hbursts, hreverse, hburstsLeft⟩
  have hlength := Snapshot.record_length p seq hresume hclose
  have hclass := Snapshot.classify_written hlength ⟨hcycle, hcycle'⟩
  subst hr
  exact ⟨(hclass p).trans (if_pos rfl), (hclass p.other).trans (if_neg p.other_ne.symm),
    fun n hpos hn q => Snapshot.classify_part hlength hpos hn q, classify_blank, snap.record_pocket p seq,
    snap.record_kind p seq, snap.record_cycle p seq hcycle', snap.record_seq p seq, Snapshot.record_body p seq hfits,
    fun x hkind hx hstall => Snapshot.record_resume p seq hkind hx hstall,
    fun c hkind hc => Snapshot.record_close p seq hkind hc⟩

end Sys2Proof.Proofs
end

section
/-! What a finished scan map says: the basis, the ring check, the torn tail, the write position and the history list
(R108 to R111, R115). -/

namespace Sys2Proof.Machine

/-! ### The classes of a finished map -/

theorem slotClass_eq_iff {map : List SlotClass} (hlength : map.length = 16) (i : Fin 16) (c : SlotClass) :
    slotClass map i = c ↔ map[i.val]? = some c := by
  have hi : i.val < map.length := by omega
  rw [slotClass, getD_of_lt hi, List.getElem?_eq_getElem hi, Option.some.injEq]

/-- Without a basis no slot is VALID. -/
theorem validSlots_of_no_basis {map : List SlotClass} (h : selectBasis map = none) : validSlots map = [] := by
  have hstays (vs : List (Fin 16 × Record)) (c : Basis) : vs.foldl walkStep (some c) ≠ none := by
    induction vs generalizing c with
    | nil => exact Option.some_ne_none c
    | cons x vs ih =>
      rw [List.foldl_cons, walkStep]
      split <;> exact ih _
  rw [selectBasis] at h
  cases hv : validSlots map with
  | nil => rfl
  | cons x vs =>
    rw [hv, List.foldl_cons] at h
    exact absurd h (hstays vs _)

/-! ### The ring check (R109) -/

/-- Two VALID slots hold the same sequence. -/
theorem sharesSequence_iff {vs : List (Fin 16 × Record)} (horder : vs.Pairwise fun x y => x.1 < y.1) :
    sharesSequence vs = true ↔ ∃ x ∈ vs, ∃ y ∈ vs, x.1 ≠ y.1 ∧ x.2.seq = y.2.seq := by
  induction vs with
  | nil => simp [sharesSequence]
  | cons x vs ih =>
    obtain ⟨hx, hvs⟩ := List.pairwise_cons.1 horder
    rw [sharesSequence, Bool.or_eq_true, List.any_eq_true, ih hvs]
    constructor
    · rintro (⟨y, hy, hseq⟩ | ⟨y, hy, z, hz, hne, hseq⟩)
      · exact ⟨x, List.mem_cons_self, y, List.mem_cons_of_mem _ hy, Fin.ne_of_lt (hx y hy), (beq_iff_eq.1 hseq).symm⟩
      · exact ⟨y, List.mem_cons_of_mem _ hy, z, List.mem_cons_of_mem _ hz, hne, hseq⟩
    · rintro ⟨y, hy, z, hz, hne, hseq⟩
      rcases List.mem_cons.1 hy with rfl | hyv <;> rcases List.mem_cons.1 hz with rfl | hzv
      · exact absurd rfl hne
      · exact .inl ⟨z, hzv, beq_iff_eq.2 hseq.symm⟩
      · exact .inl ⟨y, hyv, beq_iff_eq.2 hseq⟩
      · exact .inr ⟨y, hyv, z, hzv, hne, hseq⟩

theorem lt_foldl_max {k : Nat} (l : List Nat) (n : Nat) : k < l.foldl max n ↔ k < n ∨ ∃ x ∈ l, k < x := by
  induction l generalizing n with
  | nil => simp
  | cons x l ih =>
    have hmax : k < max n x ↔ k < n ∨ k < x := by omega
    rw [List.foldl_cons, ih, hmax]
    simp [or_assoc]

/-- The span exceeds 15 where a VALID sequence lies further behind the basis. -/
theorem ringSpan_iff (b : Basis) (vs : List (Fin 16 × Record)) :
    15 < ringSpan b vs ↔ ∃ x ∈ vs, 15 < serialDistance b.record.seq x.2.seq := by
  rw [ringSpan, lt_foldl_max]
  refine ⟨?_, fun ⟨x, hx, hlt⟩ => .inr ⟨_, List.mem_map.2 ⟨x, hx, rfl⟩, hlt⟩⟩
  rintro (h | ⟨_, hx, hlt⟩)
  · exact absurd h (Nat.not_lt_zero _)
  · obtain ⟨x, hx', rfl⟩ := List.mem_map.1 hx
    exact ⟨x, hx', hlt⟩

theorem ringCorrupt_of_no_basis {map : List SlotClass} (h : selectBasis map = none) :
    ringCorrupt map = true ↔ .foreign ∈ map := by
  simp [ringCorrupt, validSlots_of_no_basis h, sharesSequence, h]

theorem ringCorrupt_of_basis {map : List SlotClass} {b : Basis} (h : selectBasis map = some b) :
    ringCorrupt map = true ↔ .foreign ∈ map ∨
      (∃ (i j : Fin 16) (q r : Record), i ≠ j ∧ map[i.val]? = some (.valid q) ∧ map[j.val]? = some (.valid r) ∧
        q.seq = r.seq) ∨
      ∃ (i : Fin 16) (r : Record), map[i.val]? = some (.valid r) ∧ 15 < (b.record.seq - r.seq).toNat := by
  have hshares := sharesSequence_iff (validSlots_pairwise map)
  have hspan := ringSpan_iff b (validSlots map)
  have hforeign : (map.any (· == .foreign)) = true ↔ .foreign ∈ map := by simp
  have hcorrupt : ringCorrupt map = true ↔ map.any (· == .foreign) = true ∨ sharesSequence (validSlots map) = true ∨
      15 < ringSpan b (validSlots map) := by
    simp only [ringCorrupt, h, Bool.or_eq_true, decide_eq_true_eq, or_assoc]
  rw [hcorrupt, hforeign, hshares, hspan]
  refine or_congr_right (or_congr ⟨?_, ?_⟩ ⟨?_, ?_⟩)
  · rintro ⟨⟨i, q⟩, hi, ⟨j, r⟩, hj, hne, hseq⟩
    exact ⟨i, j, q, r, hne, (mem_validSlots i q).1 hi, (mem_validSlots j r).1 hj, hseq⟩
  · rintro ⟨i, j, q, r, hne, hi, hj, hseq⟩
    exact ⟨(i, q), (mem_validSlots i q).2 hi, (j, r), (mem_validSlots j r).2 hj, hne, hseq⟩
  · rintro ⟨⟨i, r⟩, hi, hfar⟩
    exact ⟨i, r, (mem_validSlots i r).1 hi, hfar⟩
  · rintro ⟨i, r, hi, hfar⟩
    exact ⟨(i, r), (mem_validSlots i r).2 hi, hfar⟩

/-! ### The torn tail and the write position (R110) -/

section Position
variable {map : List SlotClass} (hlength : map.length = 16) {b : Basis} (h : selectBasis map = some b)

include h in
theorem tornTail_eq : tornTail map = if slotClass map (b.slot + 1) = .torn then some (b.slot + 1) else none := by
  rw [tornTail, h]

include h in
theorem writePosition_eq : writePosition map = if slotClass map (b.slot + 1) = .torn then b.slot + 2 else b.slot + 1 := by
  rw [writePosition, h]

include hlength in
theorem tornTail_iff (i : Fin 16) : tornTail map = some i ↔
    ∃ b, selectBasis map = some b ∧ i = b.slot + 1 ∧ map[i.val]? = some .torn := by
  cases hb : selectBasis map with
  | none => simp [tornTail, hb]
  | some b =>
    rw [tornTail_eq hb]
    have hclass := slotClass_eq_iff hlength (b.slot + 1) .torn
    constructor
    · intro hi
      split at hi
      · next htorn =>
        obtain rfl := Option.some.inj hi
        exact ⟨b, rfl, rfl, hclass.1 htorn⟩
      · exact absurd hi.symm (Option.some_ne_none i)
    · rintro ⟨b', hb', rfl, htorn⟩
      obtain rfl := Option.some.inj hb'
      exact if_pos (hclass.2 htorn)

end Position

/-! ### The history list (R115) -/

/-- The slots of a history list: by the distance up to the basis, slot order within a distance. -/
def slotOrder (base : Word) (x y : Fin 16 × Record) : Prop :=
  serialDistance base x.2.seq < serialDistance base y.2.seq ∨
  serialDistance base x.2.seq = serialDistance base y.2.seq ∧ x.1 < y.1

/-- The insertion of R115, with the slots kept. -/
def insertSlot (base : Word) (x : Fin 16 × Record) : List (Fin 16 × Record) → List (Fin 16 × Record)
  | [] => [x]
  | y :: ys =>
    if serialDistance base x.2.seq < serialDistance base y.2.seq then x :: y :: ys else y :: insertSlot base x ys

/-- The history list, with the slots kept. -/
def sortedSlots (base : Word) (vs : List (Fin 16 × Record)) : List (Fin 16 × Record) :=
  vs.foldl (fun acc x => insertSlot base x acc) []

section Insert
variable (base : Word)

theorem insertSlot_records (x : Fin 16 × Record) (l : List (Fin 16 × Record)) :
    (insertSlot base x l).map Prod.snd = insertByDistance base x.2 (l.map Prod.snd) := by
  induction l with
  | nil => rfl
  | cons y ys ih =>
    rw [insertSlot, List.map_cons, insertByDistance]
    split
    · rfl
    · rw [List.map_cons, ih]

theorem insertSlot_perm (x : Fin 16 × Record) (l : List (Fin 16 × Record)) : (insertSlot base x l).Perm (x :: l) := by
  induction l with
  | nil => exact .refl _
  | cons y ys ih =>
    rw [insertSlot]
    split
    · exact .refl _
    · exact (ih.cons y).trans (.swap x y ys)

theorem slotOrder_trans {x y z : Fin 16 × Record} (h : slotOrder base x y) (h' : slotOrder base y z) : slotOrder base x z := by
  rcases h with h | ⟨h, hlt⟩ <;> rcases h' with h' | ⟨h', hlt'⟩
  · exact .inl (Nat.lt_trans h h')
  · exact .inl (h' ▸ h)
  · exact .inl (h ▸ h')
  · exact .inr ⟨h.trans h', Nat.lt_trans hlt hlt'⟩

/-- A later slot keeps the order. -/
theorem insertSlot_pairwise {x : Fin 16 × Record} {l : List (Fin 16 × Record)} (hl : l.Pairwise (slotOrder base))
    (hx : ∀ y ∈ l, y.1 < x.1) : (insertSlot base x l).Pairwise (slotOrder base) := by
  induction l with
  | nil => exact List.pairwise_singleton _ _
  | cons y ys ih =>
    obtain ⟨hy, hys⟩ := List.pairwise_cons.1 hl
    rw [insertSlot]
    split
    · next hlt =>
      refine List.pairwise_cons.2 ⟨fun z hz => ?_, hl⟩
      rcases List.mem_cons.1 hz with rfl | hz
      · exact .inl hlt
      · exact slotOrder_trans base (.inl hlt) (hy z hz)
    · next hle =>
      refine List.pairwise_cons.2 ⟨fun z hz => ?_, ih hys fun z hz => hx z (List.mem_cons_of_mem _ hz)⟩
      rcases List.mem_cons.1 ((insertSlot_perm base x ys).mem_iff.1 hz) with rfl | hz
      · rcases Nat.lt_or_eq_of_le (Nat.le_of_not_lt hle) with h | h
        · exact .inl h
        · exact .inr ⟨h, hx y List.mem_cons_self⟩
      · exact hy z hz

variable {vs : List (Fin 16 × Record)}

theorem sortedSlots_from {acc : List (Fin 16 × Record)} (hvs : vs.Pairwise fun x y => x.1 < y.1)
    (hacc : acc.Pairwise (slotOrder base)) (hlt : ∀ y ∈ acc, ∀ x ∈ vs, y.1 < x.1) :
    (vs.foldl (fun acc x => insertSlot base x acc) acc).Pairwise (slotOrder base) ∧
    (vs.foldl (fun acc x => insertSlot base x acc) acc).Perm (acc ++ vs) := by
  induction vs generalizing acc with
  | nil => exact ⟨hacc, by rw [List.append_nil]; exact .refl _⟩
  | cons x vs ih =>
    obtain ⟨hx, hvs⟩ := List.pairwise_cons.1 hvs
    have hperm := insertSlot_perm base x acc
    obtain ⟨hpair, hperm'⟩ := ih hvs (insertSlot_pairwise base hacc fun y hy => hlt y hy x List.mem_cons_self)
      fun y hy z hz => by
        rcases List.mem_cons.1 (hperm.mem_iff.1 hy) with rfl | hy
        · exact hx z hz
        · exact hlt y hy z (List.mem_cons_of_mem _ hz)
    exact ⟨hpair, hperm'.trans ((hperm.append_right vs).trans List.perm_middle.symm)⟩

theorem sortedSlots_records :
    (sortedSlots base vs).map Prod.snd = vs.foldl (fun acc x => insertByDistance base x.2 acc) [] := by
  have hfrom (acc : List (Fin 16 × Record)) : (vs.foldl (fun acc x => insertSlot base x acc) acc).map Prod.snd =
      vs.foldl (fun acc x => insertByDistance base x.2 acc) (acc.map Prod.snd) := by
    induction vs generalizing acc with
    | nil => rfl
    | cons x vs ih => rw [List.foldl_cons, ih, insertSlot_records, List.foldl_cons]
  exact hfrom []

end Insert

/-- The VALID slots but the ignored duplicates of the basis. -/
def keptSlots (b : Basis) (map : List SlotClass) : List (Fin 16 × Record) :=
  (validSlots map).filter fun x => !(isDuplicate b x)

theorem mem_keptSlots {b : Basis} {map : List SlotClass} (i : Fin 16) (r : Record) :
    (i, r) ∈ keptSlots b map ↔ map[i.val]? = some (.valid r) ∧ (r.seq = b.record.seq → i = b.slot) := by
  rw [keptSlots, List.mem_filter, mem_validSlots]
  refine and_congr_right fun _ => ?_
  simp [isDuplicate, Decidable.imp_iff_not_or]

theorem keptSlots_pairwise (b : Basis) (map : List SlotClass) : (keptSlots b map).Pairwise fun x y => x.1 < y.1 :=
  (validSlots_pairwise map).filter _

/-- The history list of a map with a basis holds the kept slots' records in their order. -/
theorem scannedHistory_slots {map : List SlotClass} {b : Basis} (h : selectBasis map = some b) :
    ∃ slots : List (Fin 16), slots.Nodup ∧
      (∀ i, i ∈ slots ↔ ∃ r, map[i.val]? = some (.valid r) ∧ (r.seq = b.record.seq → i = b.slot)) ∧
      (scannedHistory map).map SlotClass.valid = slots.map (fun i => map.getD i.val .torn) ∧
      slots.Pairwise fun i j => ∀ q r, map[i.val]? = some (.valid q) → map[j.val]? = some (.valid r) →
        (b.record.seq - q.seq).toNat < (b.record.seq - r.seq).toNat ∨
        (b.record.seq - q.seq).toNat = (b.record.seq - r.seq).toNat ∧ i < j := by
  obtain ⟨hpair, hperm⟩ := sortedSlots_from b.record.seq (acc := []) (keptSlots_pairwise b map) List.Pairwise.nil (by simp)
  rw [List.nil_append] at hperm
  have hmem (x : Fin 16 × Record) : x ∈ sortedSlots b.record.seq (keptSlots b map) ↔ x ∈ keptSlots b map := hperm.mem_iff
  refine ⟨(sortedSlots b.record.seq (keptSlots b map)).map Prod.fst, ?_, fun i => ?_, ?_, ?_⟩
  · refine (hperm.map Prod.fst).nodup_iff.2 ?_
    exact List.pairwise_map.2 ((keptSlots_pairwise b map).imp fun hlt => Fin.ne_of_lt hlt)
  · rw [List.mem_map]
    constructor
    · rintro ⟨⟨i, r⟩, hx, rfl⟩
      exact ⟨r, (mem_keptSlots i r).1 ((hmem _).1 hx)⟩
    · rintro ⟨r, hr⟩
      exact ⟨(i, r), (hmem _).2 ((mem_keptSlots i r).2 hr), rfl⟩
  · have hhistory : scannedHistory map = (sortedSlots b.record.seq (keptSlots b map)).map Prod.snd := by
      rw [sortedSlots_records, scannedHistory, h]
      rfl
    rw [hhistory, List.map_map, List.map_map]
    refine List.map_congr_left fun x hx => ?_
    have hslot := ((mem_keptSlots x.1 x.2).1 ((hmem x).1 hx)).1
    rw [Function.comp_apply, Function.comp_apply, List.getD_eq_getElem?_getD, hslot, Option.getD_some]
  · refine List.pairwise_map.2 (hpair.imp_of_mem fun {x y} hx hy hxy q r hq hr => ?_)
    have hxq := ((mem_keptSlots x.1 x.2).1 ((hmem x).1 hx)).1.symm.trans hq
    have hyr := ((mem_keptSlots y.1 y.2).1 ((hmem y).1 hy)).1.symm.trans hr
    obtain rfl := SlotClass.valid.inj (Option.some.inj hxq)
    obtain rfl := SlotClass.valid.inj (Option.some.inj hyr)
    exact hxy

end Sys2Proof.Machine
end

section
/-! The end of the scan: the conclusions and hand-offs of both pockets, and the erases that are asked for (R105, R109 to
R112, R115). -/

namespace Sys2Proof.Machine

/-! ### Asked erases (R83) -/

/-- Erases asked for one after another. -/
def Dev.askErases (l : List (Pocket × Fin 16)) (d : Dev) : Dev := l.foldl (fun d x => d.askErase x.1 x.2) d

theorem Dev.askErases_append (l l' : List (Pocket × Fin 16)) (d : Dev) :
    d.askErases (l ++ l') = (d.askErases l).askErases l' := List.foldl_append

@[simp] theorem Dev.askErases_frame (l : List (Pocket × Fin 16)) (d : Dev) :
    (d.askErases l).ring = d.ring ∧ (d.askErases l).journal = d.journal ∧ (d.askErases l).psq = d.psq ∧
    (d.askErases l).link = d.link := by
  induction l generalizing d with
  | nil => exact ⟨rfl, rfl, rfl, rfl⟩
  | cons x l ih =>
    obtain ⟨hring, hjournal, hpsq, hlink⟩ := ih (d.askErase x.1 x.2)
    exact ⟨hring.trans (by simp), hjournal.trans (by simp), hpsq.trans (by simp), hlink.trans (by simp)⟩

theorem Dev.askErases_engine (l : List (Pocket × Fin 16)) (d : Dev) :
    (d.askErases l).engine = { d.engine with
      queue := (d.askErases l).engine.queue, nextAge := (d.askErases l).engine.nextAge } := by
  induction l generalizing d with
  | nil => rfl
  | cons x l ih =>
    have hcons : d.askErases (x :: l) = (d.askErase x.1 x.2).askErases l := rfl
    rw [hcons, ih, d.askErase_engine x.1 x.2]

section Asked
variable (l : List (Pocket × Fin 16)) (d : Dev)

/-- The entries that one asked erase leaves. -/
theorem Dev.askErase_queue (p : Pocket) (slot : Fin 16) (d : Dev) :
    (∀ e, e ∈ d.engine.queue → e ∈ (d.askErase p slot).engine.queue) ∧
    (∀ e, e ∈ (d.askErase p slot).engine.queue → e ∈ d.engine.queue ∨
      e.work = .erase p slot ∧ (d.ring.get p).blank[slot] = false) ∧
    d.countEntries Work.isErase ≤ (d.askErase p slot).countEntries Work.isErase ∧
    (d.askErase p slot).countEntries Work.isErase ≤ d.countEntries Work.isErase + 1 := by
  rcases d.askErase_cases p slot with ⟨_, heq⟩ | ⟨hblank, _, _, heq⟩ <;> rw [heq]
  · exact ⟨fun _ he => he, fun _ he => .inl he, Nat.le_refl _, Nat.le_succ _⟩
  · refine ⟨fun e he => List.mem_append_left _ he, fun e he => ?_, ?_, ?_⟩
    · rcases List.mem_append.1 he with he | he
      · exact .inl he
      · exact .inr ⟨by rw [List.mem_singleton.1 he], hblank⟩
    · simp [Dev.countEntries, Dev.enqueue]
    · simp [Dev.countEntries, Dev.enqueue, Work.isErase]

/-- The entries that asked erases leave. -/
theorem Dev.askErases_queue :
    (∀ e, e ∈ d.engine.queue → e ∈ (d.askErases l).engine.queue) ∧
    (∀ e, e ∈ (d.askErases l).engine.queue → e ∈ d.engine.queue ∨
      ∃ p i, (p, i) ∈ l ∧ e.work = .erase p i ∧ (d.ring.get p).blank[i] = false) ∧
    d.countEntries Work.isErase ≤ (d.askErases l).countEntries Work.isErase ∧
    (d.askErases l).countEntries Work.isErase ≤ d.countEntries Work.isErase + l.length := by
  induction l generalizing d with
  | nil => exact ⟨fun _ he => he, fun _ he => .inl he, Nat.le_refl _, Nat.le_refl _⟩
  | cons x l ih =>
    obtain ⟨hstay, hfrom, hlow, hhigh⟩ := d.askErase_queue x.1 x.2
    obtain ⟨hstay', hfrom', hlow', hhigh'⟩ := ih (d.askErase x.1 x.2)
    have hring : (d.askErase x.1 x.2).ring = d.ring := by simp
    rw [hring] at hfrom'
    refine ⟨fun e he => hstay' e (hstay e he), fun e he => ?_, Nat.le_trans hlow hlow', ?_⟩
    · rcases hfrom' e he with he | ⟨p, i, hp, hwork, hblank⟩
      · rcases hfrom e he with he | ⟨hwork, hblank⟩
        · exact .inl he
        · exact .inr ⟨x.1, x.2, List.mem_cons_self, hwork, hblank⟩
      · exact .inr ⟨p, i, List.mem_cons_of_mem _ hp, hwork, hblank⟩
    · rw [List.length_cons]
      exact Nat.le_trans hhigh' (by omega)

variable {l d} {p : Pocket} {i : Fin 16}

theorem Dev.askErases_stays (h : d.anyEntry (fun w => w == .erase p i) = true) :
    (d.askErases l).anyEntry (fun w => w == .erase p i) = true := by
  obtain ⟨e, he, hwork⟩ := List.any_eq_true.1 h
  exact List.any_eq_true.2 ⟨e, (d.askErases_queue l).1 e he, hwork⟩

theorem Dev.askErases_from (h : (d.askErases l).anyEntry (fun w => w == .erase p i) = true) :
    d.anyEntry (fun w => w == .erase p i) = true ∨ (p, i) ∈ l ∧ (d.ring.get p).blank[i] = false := by
  obtain ⟨e, he, hwork⟩ := List.any_eq_true.1 h
  rcases (d.askErases_queue l).2.1 e he with he | ⟨q, j, hq, hwork', hblank⟩
  · exact .inl (List.any_eq_true.2 ⟨e, he, hwork⟩)
  · obtain ⟨rfl, rfl⟩ := Work.erase.inj (hwork'.symm.trans (beq_iff_eq.1 hwork))
    exact .inr ⟨hq, hblank⟩

/-- A slot that is not blank gets its entry where there is room when its turn comes. -/
theorem Dev.askErases_asks {l₁ l₂ : List (Pocket × Fin 16)} (hblank : (d.ring.get p).blank[i] = false)
    (hroom : (d.askErases l₁).countEntries Work.isErase < 4) :
    (d.askErases (l₁ ++ (p, i) :: l₂)).anyEntry (fun w => w == .erase p i) = true := by
  rw [Dev.askErases_append]
  refine Dev.askErases_stays (d := (d.askErases l₁).askErase p i) (Dev.askErase_asks ?_ hroom)
  rw [(d.askErases_frame l₁).1]
  exact hblank

end Asked

/-! ### The conclusions and hand-offs (R105, R111) -/

/-- A pocket's faults after its ring was concluded from this map. -/
def Sequencer.concluded (map : List SlotClass) (q : Sequencer) : Sequencer :=
  let q1 := if ringCorrupt map then q.put .ringCorrupt true else q
  if (tornTail map).isSome then q1.put .tornTail true else q1

theorem Sequencer.concluded_spec (map : List SlotClass) (q : Sequencer) :
    ((q.concluded map).blocking.ringCorrupt = true ↔ q.blocking.ringCorrupt = true ∨ ringCorrupt map = true) ∧
    ((tornTail map).isSome = true → (q.concluded map).advisory.tornTail = true) ∧
    ((tornTail map).isSome = false → (q.concluded map).advisory = q.advisory) ∧
    q.concluded map = { q with
      advisory := { q.advisory with tornTail := (q.concluded map).advisory.tornTail }
      blocking := { q.blocking with ringCorrupt := (q.concluded map).blocking.ringCorrupt } } := by
  cases hring : ringCorrupt map <;> cases htorn : (tornTail map).isSome <;>
    simp [Sequencer.concluded, hring, htorn, Sequencer.put]

section Conclude
variable (p : Pocket) (d : Dev)

/-- A fault raised where a check finds it. -/
def Dev.raiseIf (c : Bool) (f : PocketFault) : Dev := if c then d.raiseFault p f else d

theorem Dev.raiseIf_parts (c : Bool) (f : PocketFault) :
    (d.raiseIf p c f).journal = d.journal ∧
    (d.raiseIf p c f).psq = d.psq.set p (if c then (d.psq.get p).put f true else d.psq.get p) ∧
    (d.raiseIf p c f).link = { d.link with attention := { d.link.attention with
      fault := (d.raiseIf p c f).link.attention.fault } } := by
  cases c
  · exact ⟨rfl, (Per.set_get_same d.psq p).symm, rfl⟩
  · exact ⟨by simp [Dev.raiseIf], Dev.raiseFault_psq p f d, (Dev.raiseFault_attention p f d).1⟩

theorem Dev.concludeRing_parts :
    (d.concludeRing p).journal = d.journal.set p { d.journal.get p with
      basis := selectBasis (d.journal.get p).map, history := scannedHistory (d.journal.get p).map } ∧
    (d.concludeRing p).psq = d.psq.set p ((d.psq.get p).concluded (d.journal.get p).map) ∧
    (d.concludeRing p).link = { d.link with attention := { d.link.attention with
      fault := (d.concludeRing p).link.attention.fault } } := by
  have heq : d.concludeRing p = ((d.setJournal p { d.journal.get p with
      basis := selectBasis (d.journal.get p).map, history := scannedHistory (d.journal.get p).map }).raiseIf p
        (ringCorrupt (d.journal.get p).map) .ringCorrupt).raiseIf p (tornTail (d.journal.get p).map).isSome .tornTail := rfl
  obtain ⟨hjournal, hpsq, hlink⟩ := Dev.raiseIf_parts p (d.setJournal p { d.journal.get p with
      basis := selectBasis (d.journal.get p).map, history := scannedHistory (d.journal.get p).map })
    (ringCorrupt (d.journal.get p).map) .ringCorrupt
  obtain ⟨hjournal', hpsq', hlink'⟩ := Dev.raiseIf_parts p ((d.setJournal p { d.journal.get p with
      basis := selectBasis (d.journal.get p).map, history := scannedHistory (d.journal.get p).map }).raiseIf p
    (ringCorrupt (d.journal.get p).map) .ringCorrupt) (tornTail (d.journal.get p).map).isSome .tornTail
  refine ⟨?_, ?_, ?_⟩
  · rw [heq, hjournal', hjournal]
    rfl
  · rw [heq, hpsq', hpsq, Per.set_get_self, Per.set_set]
    rfl
  · rw [heq, hlink', hlink]
    rfl

/-- The part with both rings concluded and handed off. -/
def Dev.scanConcluded : Dev := (((d.concludeRing .a).concludeRing .b).handOffRing .a).handOffRing .b

theorem Dev.scanConcluded_get :
    d.scanConcluded.journal.get p = { d.journal.get p with
      basis := selectBasis (d.journal.get p).map, history := scannedHistory (d.journal.get p).map } ∧
    d.scanConcluded.psq.get p = (d.psq.get p).concluded (d.journal.get p).map ∧
    d.scanConcluded.ring.get p = handedRing (d.journal.get p).map := by
  obtain ⟨hjournal, hpsq, _⟩ := d.concludeRing_parts .a
  obtain ⟨hjournal', hpsq', _⟩ := (d.concludeRing .a).concludeRing_parts .b
  have hmap : (d.concludeRing .a).journal.get .b = d.journal.get .b := by rw [hjournal]; rfl
  have hfaults : (d.concludeRing .a).psq.get .b = d.psq.get .b := by rw [hpsq]; rfl
  have hkept : ((d.concludeRing .a).concludeRing .b).journal.get .a = (d.concludeRing .a).journal.get .a := by
    rw [hjournal']; rfl
  rw [hmap] at hjournal' hpsq'
  rw [hfaults] at hpsq'
  cases p
  · refine ⟨?_, ?_, ?_⟩
    · simp [Dev.scanConcluded, hjournal', hjournal]
    · simp [Dev.scanConcluded, hpsq', hpsq]
    · simp [Dev.scanConcluded, Dev.handOffRing, hjournal', hjournal]
  · refine ⟨?_, ?_, ?_⟩
    · simp [Dev.scanConcluded, hjournal']
    · simp [Dev.scanConcluded, hpsq']
    · simp [Dev.scanConcluded, Dev.handOffRing, hjournal']

theorem Dev.scanConcluded_link : d.scanConcluded.link = { d.link with attention := { d.link.attention with
      fault := d.scanConcluded.link.attention.fault } } := by
  have hlink : d.scanConcluded.link = ((d.concludeRing .a).concludeRing .b).link := by simp [Dev.scanConcluded]
  rw [hlink, ((d.concludeRing .a).concludeRing_parts .b).2.2, (d.concludeRing_parts .a).2.2]

end Conclude

/-- The slots of a pocket whose erase is asked for at the end of the scan, in order (R112). -/
def scanErases (p : Pocket) (map : List SlotClass) : List (Pocket × Fin 16) :=
  (p, writePosition map) :: (p, writePosition map + 1) :: (tornTail map).toList.map (Prod.mk p)

theorem Dev.endScan_eq (d : Dev) : d.endScan = (d.scanConcluded.askErases
    (scanErases .a (d.journal.get .a).map ++ scanErases .b (d.journal.get .b).map)).setScan ⟨.done, 0⟩ := by
  have hask (p : Pocket) (e : Dev) : e.askScanErases p = e.askErases (scanErases p (e.journal.get p).map) := by
    cases h : tornTail (e.journal.get p).map <;> simp [Dev.askScanErases, Dev.askErases, scanErases, h]
  have hmap (p : Pocket) : (d.scanConcluded.journal.get p).map = (d.journal.get p).map := by
    rw [(d.scanConcluded_get p).1]
  have hkept : ((d.scanConcluded.askScanErases .a).journal.get .b).map = (d.journal.get .b).map := by
    simpa using hmap .b
  rw [Dev.askErases_append, ← hmap .a, ← hask, ← hkept, ← hask]
  rfl

/-- The items of a pocket, and the link, at the end of the scan. -/
theorem Dev.endScan_get (d : Dev) (p : Pocket) :
    d.endScan.journal.get p = { d.journal.get p with
      basis := selectBasis (d.journal.get p).map, history := scannedHistory (d.journal.get p).map } ∧
    d.endScan.psq.get p = (d.psq.get p).concluded (d.journal.get p).map ∧
    d.endScan.ring.get p = handedRing (d.journal.get p).map := by
  rw [Dev.endScan_eq]
  simpa using d.scanConcluded_get p

theorem Dev.endScan_parts (d : Dev) :
    d.endScan.scan = ⟨.done, 0⟩ ∧
    d.endScan.link = { d.link with attention := { d.link.attention with fault := d.endScan.link.attention.fault } } ∧
    d.endScan.engine = { d.engine with queue := d.endScan.engine.queue, nextAge := d.endScan.engine.nextAge } ∧
    d.endScan = { d with
      psq := d.endScan.psq, engine := d.endScan.engine, ring := d.endScan.ring, scan := d.endScan.scan
      journal := d.endScan.journal, link := d.endScan.link } := by
  have hlink := d.scanConcluded_link
  have hengine : d.scanConcluded.engine = d.engine := by simp [Dev.scanConcluded]
  refine ⟨by rw [Dev.endScan_eq]; rfl, ?_, ?_, by apply Dev.ext <;> simp⟩
  · have heq : d.endScan.link = d.scanConcluded.link := by simp [Dev.endScan_eq]
    rw [heq]
    exact hlink
  · have heq : d.endScan.engine = (d.scanConcluded.askErases
        (scanErases .a (d.journal.get .a).map ++ scanErases .b (d.journal.get .b).map)).engine := by simp [Dev.endScan_eq]
    rw [heq, ← hengine, Dev.askErases_engine]

/-! ### A pocket's ring as handed off (R110, R111) -/

section Handed
variable {map : List SlotClass} (hlength : map.length = 16)

include hlength in
theorem handedRing_blank (i : Fin 16) : (handedRing map).blank[i] = true ↔ map[i.val]? = some .blank := by
  rw [← slotClass_eq_iff hlength i .blank]
  simp [handedRing]

theorem handedRing_of_no_basis (h : selectBasis map = none) :
    (handedRing map).writePos = 0 ∧ (handedRing map).lastSeq = 0 ∧ (handedRing map).newest = none ∧
    (handedRing map).lastCycle = 0 ∧ scannedHistory map = [] := by
  simp [handedRing, writePosition, scannedHistory, h]

theorem handedRing_of_basis {b : Basis} (h : selectBasis map = some b) :
    (handedRing map).lastSeq = b.record.seq ∧ (handedRing map).newest = some b.record.seq ∧
    (handedRing map).lastCycle = b.record.cycle := by
  simp [handedRing, h]

end Handed

end Sys2Proof.Machine
end

section
/-! The erases at the end of the scan, and the last page of the scan (R105, R106, R112). -/

namespace Sys2Proof.Machine

/-! ### Room for an asked erase (R83) -/

section Room
variable {d : Dev} {l₁ l₂ : List (Pocket × Fin 16)} {p : Pocket} {i : Fin 16}

theorem Dev.askErases_countEntries_le (l l' : List (Pocket × Fin 16)) (d : Dev) :
    (d.askErases l).countEntries Work.isErase ≤ (d.askErases (l ++ l')).countEntries Work.isErase := by
  rw [Dev.askErases_append]
  exact (Dev.askErases_queue l' _).2.2.1

/-- There is room where the entries before it cannot be four. -/
theorem Dev.askErases_asks_of_few (hblank : (d.ring.get p).blank[i] = false)
    (hfew : d.countEntries Work.isErase + l₁.length < 4) :
    (d.askErases (l₁ ++ (p, i) :: l₂)).anyEntry (fun w => w == .erase p i) = true :=
  Dev.askErases_asks hblank (Nat.lt_of_le_of_lt (Dev.askErases_queue l₁ d).2.2.2 hfew)

/-- There is room where fewer than four are queued in the end. -/
theorem Dev.askErases_asks_of_room (hblank : (d.ring.get p).blank[i] = false)
    (hroom : (d.askErases (l₁ ++ (p, i) :: l₂)).countEntries Work.isErase < 4) :
    (d.askErases (l₁ ++ (p, i) :: l₂)).anyEntry (fun w => w == .erase p i) = true :=
  Dev.askErases_asks hblank (Nat.lt_of_le_of_lt (Dev.askErases_countEntries_le l₁ _ d) hroom)

/-- An entry that comes with the last slot asked for had room, and so had the slots before it. -/
theorem Dev.askErases_room_of_last (h : (d.askErases (l₁ ++ [(p, i)])).anyEntry (fun w => w == .erase p i) = true)
    (hbefore : d.anyEntry (fun w => w == .erase p i) = false) (hnot : (p, i) ∉ l₁) :
    (d.askErases l₁).countEntries Work.isErase < 4 := by
  have hno : (d.askErases l₁).anyEntry (fun w => w == .erase p i) = false := by
    rw [Bool.eq_false_iff]
    intro hyes
    rcases Dev.askErases_from hyes with hyes | ⟨hmem, _⟩
    · rw [hbefore] at hyes
      exact Bool.false_ne_true hyes
    · exact hnot hmem
  rw [Dev.askErases_append] at h
  rcases (d.askErases l₁).askErase_cases p i with ⟨_, heq⟩ | ⟨_, _, hroom, _⟩
  · have hsame : (d.askErases l₁).askErases [(p, i)] = d.askErases l₁ := heq
    rw [hsame, hno] at h
    exact absurd h Bool.false_ne_true
  · exact hroom

end Room

/-! ### The erases of the scan (R112) -/

theorem mem_scanErases {p q : Pocket} {i : Fin 16} {map : List SlotClass} : (p, i) ∈ scanErases q map ↔
    p = q ∧ (i = writePosition map ∨ i = writePosition map + 1 ∨ tornTail map = some i) := by
  cases h : tornTail map <;> simp [scanErases, h, eq_comm, ← and_or_left]

theorem scanErases_length (p : Pocket) (map : List SlotClass) : (scanErases p map).length ≤ 3 := by
  cases h : tornTail map <;> simp [scanErases, h]

/-- The slots of a pocket's list, apart. -/
theorem scanErases_of_tornTail {map : List SlotClass} {t : Fin 16} (h : tornTail map = some t) (p : Pocket) :
    scanErases p map = [(p, writePosition map), (p, writePosition map + 1), (p, t)] ∧
    t ≠ writePosition map ∧ t ≠ writePosition map + 1 := by
  refine ⟨by simp [scanErases, h], ?_⟩
  cases hb : selectBasis map with
  | none => simp [tornTail, hb] at h
  | some b =>
    have htorn : slotClass map (b.slot + 1) = .torn ∧ b.slot + 1 = t := by simpa [tornTail_eq hb] using h
    rw [writePosition_eq hb, if_pos htorn.1, ← htorn.2]
    have hapart : ∀ s : Fin 16, s + 1 ≠ s + 2 ∧ s + 1 ≠ s + 2 + 1 := by decide
    exact hapart b.slot

section Erases
variable (d : Dev)

/-- The map of a pocket. -/
abbrev Dev.scanMap (p : Pocket) : List SlotClass := (d.journal.get p).map

theorem Dev.endScan_engine : d.endScan.engine =
    (d.scanConcluded.askErases (scanErases .a (d.scanMap .a) ++ scanErases .b (d.scanMap .b))).engine := by
  simp [Dev.endScan_eq, Dev.scanMap]

theorem Dev.endScan_anyEntry (f : Work → Bool) : d.endScan.anyEntry f =
    (d.scanConcluded.askErases (scanErases .a (d.scanMap .a) ++ scanErases .b (d.scanMap .b))).anyEntry f := by
  rw [Dev.anyEntry, Dev.endScan_engine, Dev.anyEntry]

theorem Dev.endScan_countEntries (f : Work → Bool) : d.endScan.countEntries f =
    (d.scanConcluded.askErases (scanErases .a (d.scanMap .a) ++ scanErases .b (d.scanMap .b))).countEntries f := by
  rw [Dev.countEntries, Dev.endScan_engine, Dev.countEntries]

theorem Dev.scanConcluded_engine : d.scanConcluded.engine = d.engine := by simp [Dev.scanConcluded]

variable {d}

/-- An ERASE entry after the scan was there before, or is one of R112's for a slot that is not blank. -/
theorem Dev.endScan_erase_from {p : Pocket} {i : Fin 16} (h : d.endScan.anyEntry (fun w => w == .erase p i) = true) :
    d.anyEntry (fun w => w == .erase p i) = true ∨ (handedRing (d.scanMap p)).blank[i] = false ∧
      (i = writePosition (d.scanMap p) ∨ i = writePosition (d.scanMap p) + 1 ∨ tornTail (d.scanMap p) = some i) := by
  rw [Dev.endScan_anyEntry] at h
  rcases Dev.askErases_from h with h | ⟨hmem, hblank⟩
  · rw [Dev.anyEntry, Dev.scanConcluded_engine] at h
    exact .inl h
  · rw [(d.scanConcluded_get p).2.2] at hblank
    refine .inr ⟨hblank, ?_⟩
    rcases List.mem_append.1 hmem with hmem | hmem <;> obtain ⟨rfl, hi⟩ := mem_scanErases.1 hmem <;> exact hi

variable (hempty : d.engine.queue = [])
include hempty

theorem Dev.scanConcluded_empty : d.scanConcluded.countEntries Work.isErase = 0 ∧
    ∀ f, d.scanConcluded.anyEntry f = false := by
  simp [Dev.countEntries, Dev.anyEntry, Dev.scanConcluded_engine, hempty]

theorem Dev.endScan_onlyErases (e : Entry) (he : e ∈ d.endScan.engine.queue) : e.work.isErase = true := by
  rw [Dev.endScan_engine] at he
  rcases (Dev.askErases_queue _ d.scanConcluded).2.1 e he with he | ⟨p, i, _, hwork, _⟩
  · rw [Dev.scanConcluded_engine, hempty] at he
    exact absurd he List.not_mem_nil
  · rw [hwork]
    rfl

/-- A slot before whose turn at most three others come gets its ERASE. -/
theorem Dev.endScan_asks_of_few {p : Pocket} {i : Fin 16} {l₁ l₂ : List (Pocket × Fin 16)}
    (hlist : scanErases .a (d.scanMap .a) ++ scanErases .b (d.scanMap .b) = l₁ ++ (p, i) :: l₂) (hfew : l₁.length < 4)
    (hblank : (handedRing (d.scanMap p)).blank[i] = false) : d.endScan.anyEntry (fun w => w == .erase p i) = true := by
  rw [Dev.endScan_anyEntry, hlist]
  refine Dev.askErases_asks_of_few ?_ (by rw [(Dev.scanConcluded_empty hempty).1]; omega)
  rw [(d.scanConcluded_get p).2.2]
  exact hblank

/-- Pocket A's three slots come first, and then pocket B's write position. -/
theorem Dev.endScan_asks_first :
    ((handedRing (d.scanMap .a)).blank[writePosition (d.scanMap .a)] = false →
      d.endScan.anyEntry (fun w => w == .erase .a (writePosition (d.scanMap .a))) = true) ∧
    ((handedRing (d.scanMap .a)).blank[writePosition (d.scanMap .a) + 1] = false →
      d.endScan.anyEntry (fun w => w == .erase .a (writePosition (d.scanMap .a) + 1)) = true) ∧
    (∀ t, tornTail (d.scanMap .a) = some t → (handedRing (d.scanMap .a)).blank[t] = false →
      d.endScan.anyEntry (fun w => w == .erase .a t) = true) ∧
    ((handedRing (d.scanMap .b)).blank[writePosition (d.scanMap .b)] = false →
      d.endScan.anyEntry (fun w => w == .erase .b (writePosition (d.scanMap .b))) = true) := by
  refine ⟨fun h => Dev.endScan_asks_of_few hempty (l₁ := []) rfl (by simp) h,
    fun h => Dev.endScan_asks_of_few hempty (l₁ := [_]) rfl (by simp) h, fun t ht h => ?_, fun h => ?_⟩
  · exact Dev.endScan_asks_of_few hempty (l₁ := [_, _]) (by rw [(scanErases_of_tornTail ht .a).1]; rfl) (by simp) h
  · exact Dev.endScan_asks_of_few hempty (l₁ := scanErases .a (d.scanMap .a)) rfl
      (Nat.lt_succ_of_le (scanErases_length _ _)) h

omit hempty in
/-- A slot gets its ERASE where fewer than four are queued in the end. -/
theorem Dev.endScan_asks_of_room {p : Pocket} {i : Fin 16} {l₁ l₂ : List (Pocket × Fin 16)}
    (hlist : scanErases .a (d.scanMap .a) ++ scanErases .b (d.scanMap .b) = l₁ ++ (p, i) :: l₂)
    (hblank : (handedRing (d.scanMap p)).blank[i] = false) (hroom : d.endScan.countEntries Work.isErase < 4) :
    d.endScan.anyEntry (fun w => w == .erase p i) = true := by
  rw [Dev.endScan_countEntries, hlist] at hroom
  rw [Dev.endScan_anyEntry, hlist]
  refine Dev.askErases_asks_of_room ?_ hroom
  rw [(d.scanConcluded_get p).2.2]
  exact hblank

/-- Pocket B's next two slots come last, the torn slot after the other. -/
theorem Dev.endScan_asks_last :
    ((handedRing (d.scanMap .b)).blank[writePosition (d.scanMap .b) + 1] = false →
      d.endScan.countEntries Work.isErase < 4 →
      d.endScan.anyEntry (fun w => w == .erase .b (writePosition (d.scanMap .b) + 1)) = true) ∧
    (∀ t, tornTail (d.scanMap .b) = some t →
      ((handedRing (d.scanMap .b)).blank[t] = false → d.endScan.countEntries Work.isErase < 4 →
        d.endScan.anyEntry (fun w => w == .erase .b t) = true) ∧
      (d.endScan.anyEntry (fun w => w == .erase .b t) = true →
        (handedRing (d.scanMap .b)).blank[writePosition (d.scanMap .b) + 1] = false →
        d.endScan.anyEntry (fun w => w == .erase .b (writePosition (d.scanMap .b) + 1)) = true)) := by
  have hsecond : scanErases .a (d.scanMap .a) ++ scanErases .b (d.scanMap .b) =
      (scanErases .a (d.scanMap .a) ++ [(.b, writePosition (d.scanMap .b))]) ++
        (.b, writePosition (d.scanMap .b) + 1) :: (tornTail (d.scanMap .b)).toList.map (Prod.mk .b) := by
    rw [List.append_assoc]
    rfl
  refine ⟨fun h hroom => Dev.endScan_asks_of_room hsecond h hroom, fun t ht => ?_⟩
  obtain ⟨hlist, hne, hne'⟩ := scanErases_of_tornTail ht .b
  have hthird : scanErases .a (d.scanMap .a) ++ scanErases .b (d.scanMap .b) =
      (scanErases .a (d.scanMap .a) ++ [(.b, writePosition (d.scanMap .b)), (.b, writePosition (d.scanMap .b) + 1)]) ++
        [(.b, t)] := by
    rw [hlist, List.append_assoc]
    rfl
  refine ⟨fun h hroom => Dev.endScan_asks_of_room hthird h hroom, fun htorn hblank => ?_⟩
  rw [Dev.endScan_anyEntry, hthird] at htorn
  have hroom := Dev.askErases_room_of_last htorn ((Dev.scanConcluded_empty hempty).2 _) (by
    simp [mem_scanErases, hne, hne'])
  rw [Dev.endScan_anyEntry, hsecond]
  refine Dev.askErases_asks ?_ (Nat.lt_of_le_of_lt ?_ hroom)
  · rw [(d.scanConcluded_get .b).2.2]
    exact hblank
  · have hle := Dev.askErases_countEntries_le (scanErases .a (d.scanMap .a) ++ [(.b, writePosition (d.scanMap .b))])
      [(.b, writePosition (d.scanMap .b) + 1)] d.scanConcluded
    rwa [List.append_assoc] at hle

end Erases

end Sys2Proof.Machine
end

section
/-! The last page of the scan: what it leaves of each pocket (R105, R106, R108 to R112, R115). -/

namespace Sys2Proof.Machine

/-! ### The last page (R105, R106) -/

section LastPage
variable {s : State} {misread : List Host.Cell} {c : SlotClass}
  (hmapA : (s.dev.journal.get .a).map.length = 16) (hmapB : (s.dev.journal.get .b).map.length = 15)
include hmapA hmapB

/-- The last page, by a good read or by its third bad one. -/
theorem exec_scanPageRead_last (hrun : s.dev.run = .startup) (hhold : s.dev.link.resetHold = false)
    (hscan : s.dev.scan.state = .scanning)
    (hclass : classify .b (overlay (s.array.page 31) misread) = .good c ∨
      classify .b (overlay (s.array.page 31) misread) = .bad ∧ 2 ≤ s.dev.scan.badReads ∧ c = .torn) :
    exec (.scanPageRead misread) s = .next { s with dev := (s.dev.pageClassed .b c).endScan.endStartup } := by
  have hpage : s.dev.scanPage = 31 := by rw [Dev.scanPage, hmapA, hmapB]
  have hpocket : s.dev.scanPocket = .b := if_neg (by omega)
  have hlast : 16 ≤ ((s.dev.pageClassed .b c).journal.get .b).map.length := by simp [Dev.pageClassed] at hmapB ⊢; omega
  obtain ⟨hgood, hbad⟩ := exec_scanPageRead (misread := misread) rfl hrun hhold hscan hpocket
  rw [hpage] at hgood hbad
  rw [← Dev.classPage_of_last c hlast]
  rcases hclass with h | ⟨h, hreads, rfl⟩
  · exact hgood c h
  · rw [hbad h, Dev.readAgain, if_neg (by omega)]

theorem Dev.pageClassed_last (p : Pocket) :
    (s.dev.pageClassed .b c).scanMap p =
      (⟨(s.dev.journal.get .a).map, (s.dev.journal.get .b).map ++ [c]⟩ : Per (List SlotClass)).get p ∧
    ((s.dev.pageClassed .b c).scanMap p).length = 16 := by
  have hmap : (s.dev.pageClassed .b c).scanMap p =
      (⟨(s.dev.journal.get .a).map, (s.dev.journal.get .b).map ++ [c]⟩ : Per (List SlotClass)).get p := by
    cases p <;> rfl
  refine ⟨hmap, ?_⟩
  rw [hmap]
  cases p
  · exact hmapA
  · simpa using hmapB

end LastPage

/-- A slot that is not blank, as the handed map says it. -/
theorem handedRing_not_blank {map : List SlotClass} (hlength : map.length = 16) {i : Fin 16} :
    (handedRing map).blank[i] = false ↔ map[i.val]? ≠ some .blank :=
  Bool.eq_false_iff.trans (not_congr (handedRing_blank hlength i))

end Sys2Proof.Machine

namespace Sys2Proof.Proofs
open Sys2Proof.Machine

/-- Settles O22: each pocket's items are those of its finished map, and the erases come in the order of R112. -/
theorem scanEnds : Obligations.ScanEnds := by
  intro s misread c maps hrun hhold hscan hmapA hmapB hsampling hclass hmaps
  obtain ⟨d, hd⟩ : ∃ d, d = s.dev.pageClassed .b c := ⟨_, rfl⟩
  have hmap (p : Pocket) : maps.get p = d.scanMap p ∧ (d.scanMap p).length = 16 := by
    rw [hmaps, hd, ← (Dev.pageClassed_last (c := c) hmapA hmapB p).1]
    exact ⟨rfl, (Dev.pageClassed_last hmapA hmapB p).2⟩
  have hwaits : ∃ p, (d.endScan.sns.get p).sampling ≠ .none := by
    rw [Dev.endScan_frame .. |>.2.2.2.2.2.2.2.1, hd]
    exact hsampling.elim (fun h => ⟨.a, h⟩) fun h => ⟨.b, h⟩
  have hexec : exec (.scanPageRead misread) s = .next { s with dev := d.endScan } := by
    rw [exec_scanPageRead_last hmapA hmapB hrun hhold hscan hclass, ← hd, Dev.endStartup_of_waiting (.inr hwaits)]
  obtain ⟨hdone, hlink, hengine, hframe⟩ := d.endScan_parts
  have hitems : d.engine = s.dev.engine ∧ d.link = s.dev.link ∧ d.psq = s.dev.psq := by
    rw [hd]
    exact ⟨rfl, rfl, rfl⟩
  obtain ⟨hengine', hlink', hpsq'⟩ := hitems
  refine ⟨_, hexec, hdone, fun p => ?_, fun hempty => ?_, by rw [hengine, hengine'], by rw [hlink, hlink'], by
    apply Dev.ext <;> simp [hd, Dev.pageClassed]⟩
  · obtain ⟨hmaps, hlength⟩ := hmap p
    obtain ⟨hjournal, hpsq, hring⟩ := d.endScan_get p
    rw [hpsq'] at hpsq
    obtain ⟨hcorrupt, htorn, hnot, hkept⟩ := (s.dev.psq.get p).concluded_spec (d.scanMap p)
    rw [hmaps, hjournal, hring, hpsq]
    refine ⟨rfl, rfl, fun i => handedRing_blank hlength i, rfl, rfl, fun hnone => ?_, fun b hb => ?_, hkept, fun i hi => ?_⟩
    · obtain ⟨hwrite, hseq, hnewest, hcycle, hhistory⟩ := handedRing_of_no_basis hnone
      exact ⟨hwrite, hseq, hnewest, hcycle, hhistory, by rw [← ringCorrupt_of_no_basis hnone]; exact hcorrupt⟩
    · obtain ⟨hseq, hnewest, hcycle⟩ := handedRing_of_basis hb
      have hclass := slotClass_eq_iff hlength (b.slot + 1) .torn
      have hposition : (handedRing (d.scanMap p)).writePos = writePosition (d.scanMap p) := rfl
      rw [writePosition_eq hb] at hposition
      have htail := tornTail_eq hb
      refine ⟨hseq, hnewest, hcycle, fun h => ?_, fun h => ?_, by rw [← ringCorrupt_of_basis hb]; exact hcorrupt,
        scannedHistory_slots hb⟩
      · rw [if_pos (hclass.2 h)] at hposition htail
        exact ⟨hposition, htorn (by rw [htail]; rfl)⟩
      · rw [if_neg (fun heq => h (hclass.1 heq))] at hposition htail
        exact ⟨hposition, hnot (by rw [htail]; rfl)⟩
    · rcases Dev.endScan_erase_from hi with h | ⟨hblank, h⟩
      · exact .inl (by rwa [Dev.anyEntry, hengine'] at h)
      · exact .inr ⟨(handedRing_not_blank hlength).1 hblank, h.imp_right (Or.imp_right (tornTail_iff hlength i).1)⟩
  · rw [← hengine'] at hempty
    obtain ⟨hmapA', hlengthA⟩ := hmap .a
    obtain ⟨hmapB', hlengthB⟩ := hmap .b
    obtain ⟨hwrite, hnext, htorn, hwriteB⟩ := Dev.endScan_asks_first hempty
    obtain ⟨hnextB, htornB⟩ := Dev.endScan_asks_last hempty
    have hblankA {i : Fin 16} := (handedRing_not_blank (i := i) hlengthA).2
    have hblankB {i : Fin 16} := (handedRing_not_blank (i := i) hlengthB).2
    have hnotBlank {map : List SlotClass} {n : Nat} (h : map[n]? = some .torn) : map[n]? ≠ some .blank := by
      rw [h]
      decide
    rw [hmapA', hmapB', (d.endScan_get .a).2.2, (d.endScan_get .b).2.2]
    refine ⟨fun h => hwrite (hblankA h), fun h => hnext (hblankA h), fun b hb h => ?_, fun h => hwriteB (hblankB h),
      fun h hroom => hnextB (hblankB h) hroom, fun b hb h => ?_, Dev.endScan_onlyErases hempty⟩
    · exact htorn _ ((tornTail_iff hlengthA _).2 ⟨b, hb, rfl, h⟩) (hblankA (hnotBlank h))
    · obtain ⟨hroom, hbefore⟩ := htornB _ ((tornTail_iff hlengthB _).2 ⟨b, hb, rfl, h⟩)
      exact ⟨hroom (hblankB (hnotBlank h)), fun hany hne => hbefore hany (hblankB hne)⟩

end Sys2Proof.Proofs
end

section
/-! The state that a pocket takes at the end of STARTUP from the scan and its plan (R26, R42, R43, R121, R122). -/

namespace Sys2Proof.Machine

/-! ### The start-up plan (R121, R122) -/

section Plan
variable (p : Pocket) (r : Record) (d : Dev)

/-- Whether the basis is stale: suspended, and no SUSPEND record. -/
def Dev.staleAt : Bool := staleBasis r (d.bkd.facts.get p)

theorem Dev.staleAt_iff : d.staleAt p r = true ↔ (d.bkd.facts.get p).suspended = true ∧ r.kind ≠ some .suspend := by
  simp [Dev.staleAt, staleBasis]

/-- The advisory set that the plan is made with. -/
def Dev.startupAdvisory : Advisory :=
  if d.staleAt p r then { (d.psq.get p).advisory with staleBasis := true } else (d.psq.get p).advisory

/-- The plan of a live basis, from the inputs as they stand. -/
def Dev.plannedAt : Plan :=
  decidePlan d.link.params { d.psq.get p with advisory := d.startupAdvisory p r } (d.bkd.facts.get p) (d.tNow p) r

theorem Dev.startupPlan_parts :
    (d.startupPlan p r).psq = d.psq.set p { d.psq.get p with advisory := d.startupAdvisory p r } ∧
    (d.startupPlan p r).plan = d.plan.set p (some (d.plannedAt p r)) ∧
    d.link.Answers (d.startupPlan p r).link ∧
    (d.staleAt p r = true → (d.psq.get p).advisory.staleBasis = false →
      (d.startupPlan p r).link.attention.fault = true) := by
  have hplan (e : Dev) (hpsq : e.psq.get p = { d.psq.get p with advisory := d.startupAdvisory p r })
      (hparams : e.link.params = d.link.params) (hfacts : e.bkd.facts = d.bkd.facts) (hsns : e.sns = d.sns) :
      e.computePlan p r = d.plannedAt p r := by
    have hnow : e.tNow p = d.tNow p := by rw [Dev.tNow, Dev.tNow, hpsq, hsns]
    rw [Dev.computePlan, Dev.plannedAt, hnow, hparams, hpsq, hfacts]
  cases hstale : d.staleAt p r with
  | true =>
    have hadvisory : d.startupAdvisory p r = { (d.psq.get p).advisory with staleBasis := true } := if_pos hstale
    have heq : d.startupPlan p r = (d.raiseFault p .staleBasis).setPlan p
        (some ((d.raiseFault p .staleBasis).computePlan p r)) := by
      rw [Dev.startupPlan, show staleBasis r (d.bkd.facts.get p) = true from hstale]
      rfl
    have hpsq := Dev.raiseFault_psq p .staleBasis d
    have hlink := Dev.raiseFault_attention p .staleBasis d
    have hp : (d.raiseFault p .staleBasis).psq.get p = { d.psq.get p with advisory := d.startupAdvisory p r } := by
      rw [hpsq, hadvisory, Per.set_get_self]
      rfl
    rw [heq, hplan _ hp (by rw [hlink.1]) (by simp) (by simp)]
    refine ⟨?_, by simp, Dev.raiseFault_answers p d .staleBasis, fun _ hnot => hlink.2 hnot⟩
    rw [Dev.setPlan_psq, hpsq, hadvisory]
    rfl
  | false =>
    have hadvisory : d.startupAdvisory p r = (d.psq.get p).advisory := by rw [Dev.startupAdvisory, hstale]; rfl
    have heq : d.startupPlan p r = d.setPlan p (some (d.computePlan p r)) := by
      rw [Dev.startupPlan, show staleBasis r (d.bkd.facts.get p) = false from hstale]
      rfl
    rw [heq, hplan d (by rw [hadvisory]) rfl rfl rfl, hadvisory]
    exact ⟨(Per.set_get_same d.psq p).symm, rfl, .of_eq rfl, fun h => absurd h Bool.false_ne_true⟩

end Plan

/-! ### The state from the plan (R26, R42, R43) -/

/-- A pocket that its plan leaves waiting. -/
def Dev.waitsPlanned (p : Pocket) (d : Dev) : Dev := (d.becomePlanned p).alignStall p

def Dev.waitsGuard (p : Pocket) (pl : Plan) (d : Dev) : Dev := (d.awaitGuard p pl).alignStall p

theorem Facts.startStall_aligned (f : Facts) : f.startStall = f.aligned := by
  cases h : f.stallRunning
  · simp [Facts.startStall, Facts.aligned, h]
  · simp only [Facts.startStall, Facts.aligned, h, if_true]
    rw [← h]

section Waits
variable (p : Pocket) (pl : Plan) (d : Dev)

theorem Dev.waitsPlanned_parts :
    (d.waitsPlanned p).psq = d.psq.set p { d.psq.get p with state := .planned, choice := none } ∧
    (d.waitsPlanned p).bkd = { d.bkd with facts := d.bkd.facts.set p (d.bkd.facts.get p).aligned } ∧
    (d.waitsPlanned p).plan = d.plan ∧ (d.waitsPlanned p).image = d.image ∧
    d.link.Answers (d.waitsPlanned p).link ∧ (d.waitsPlanned p).link.attention.planReady = true := by
  rw [← Facts.startStall_aligned]
  refine ⟨by simp [Dev.waitsPlanned, Dev.becomePlanned], by simp [Dev.waitsPlanned, Dev.alignStall, Dev.setFacts], by
    simp [Dev.waitsPlanned], by simp [Dev.waitsPlanned], ?_, rfl⟩
  exact Dev.raiseCause_answers .planReady (d.setPsq p { d.psq.get p with state := .planned, choice := none })

theorem Dev.waitsGuard_parts :
    (d.waitsGuard p pl).psq = d.psq.set p { d.psq.get p with state := .waitstart, choice := some (choiceOfPlan pl) } ∧
    (d.waitsGuard p pl).bkd = { d.bkd with facts := d.bkd.facts.set p (d.bkd.facts.get p).aligned } ∧
    (d.waitsGuard p pl).plan = d.plan ∧ (d.waitsGuard p pl).image = d.image ∧
    d.link.Answers (d.waitsGuard p pl).link ∧ (d.waitsGuard p pl).link.attention.planReady = true := by
  rw [← Facts.startStall_aligned]
  refine ⟨by simp [Dev.waitsGuard, Dev.awaitGuard], by simp [Dev.waitsGuard, Dev.alignStall, Dev.setFacts], by
    simp [Dev.waitsGuard], by simp [Dev.waitsGuard], ?_, rfl⟩
  exact Dev.raiseCause_answers .planReady
    (d.setPsq p { d.psq.get p with state := .waitstart, choice := some (choiceOfPlan pl) })

/-- The image of a closure decided at the end of STARTUP. -/
def closureImage (r : Record) (losses : Nat) (reason : CloseReason) : Image :=
  (rebuiltImage false r losses).triggered .close (some reason)

theorem closureImage_spec (r : Record) (losses : Nat) (reason : CloseReason) :
    (closureImage r losses reason).cycle = r.cycle ∧ (closureImage r losses reason).closeReason = some reason ∧
    (closureImage r losses reason).body = { r.body with outages := min 255 (r.body.outages + losses) } ∧
    (closureImage r losses reason).commit = .queued .close := by
  simp [closureImage, rebuiltImage, Image.triggered, keepReason, satAdd_eq]

/-- The part with the mark and the rebuilt image, before the trigger. -/
def Dev.closing (p : Pocket) (b : Basis) (reason : CloseReason) (d : Dev) : Dev :=
  (d.setPsq p { d.psq.get p with mark := some reason }).setImage p
    (some (rebuiltImage (d.journalFailed p) b.record (d.bkd.facts.get p).losses))

theorem Dev.startupClosure_parts {b : Basis} (hb : (d.journal.get p).basis = some b) (reason : CloseReason) :
    (d.startupClosure p reason).psq = d.psq.set p { d.psq.get p with mark := some reason } ∧
    (d.startupClosure p reason).bkd = { d.bkd with facts := d.bkd.facts.set p .clear } ∧
    (d.journalFailed p = false → (d.startupClosure p reason).image =
      d.image.set p (some (closureImage b.record (d.bkd.facts.get p).losses reason))) ∧
    (∀ q, q ≠ p → (d.startupClosure p reason).image.get q = d.image.get q) ∧
    d.link.Answers (d.startupClosure p reason).link ∧ (d.startupClosure p reason).link.attention.closed = true := by
  have heq : d.startupClosure p reason = (((d.closing p b reason).trigger p .close (some reason)).releaseFacts p).raiseCause
      .closed := by
    have hrebuilt : (d.setPsq p { d.psq.get p with mark := some reason }).rebuildForClosure p = d.closing p b reason := by
      simp [Dev.rebuildForClosure, hb, Dev.closing, Dev.journalFailed]
    rw [Dev.startupClosure, hrebuilt]
  have hanswers := Dev.raiseCause_answers .closed (((d.closing p b reason).trigger p .close (some reason)).releaseFacts p)
  rw [heq]
  refine ⟨by simp [Dev.closing], by simp [Dev.closing, Dev.releaseFacts, Dev.setFacts], fun hj => ?_, fun q hq => ?_, ?_, rfl⟩
  · have himage : (d.closing p b reason).image.get p = some (rebuiltImage false b.record (d.bkd.facts.get p).losses) := by
      simp [Dev.closing, hj]
    have hj' : (d.closing p b reason).journalFailed p = false := by simpa [Dev.closing, Dev.journalFailed] using hj
    have htrigger := Dev.trigger_image .close (some reason) hj' himage
    have hsame : ((((d.closing p b reason).trigger p .close (some reason)).releaseFacts p).raiseCause .closed).image =
        ((d.closing p b reason).trigger p .close (some reason)).image := by simp [Dev.releaseFacts]
    rw [hsame, htrigger, Dev.closing, Dev.setImage_image, Per.set_set]
    rfl
  · have hother := Dev.trigger_image_other .close (some reason) (d.closing p b reason) hq
    simpa [Dev.releaseFacts, Dev.closing, Per.set_get_of_ne _ _ hq] using hother
  · have hlink : (((d.closing p b reason).trigger p .close (some reason)).releaseFacts p).link = d.link := by
      simp [Dev.closing, Dev.releaseFacts]
    rwa [hlink] at hanswers

end Waits

/-! ### What a pocket has taken -/

/-- The sequencer of a pocket that takes its state from a plan. -/
def Sequencer.taking (pl : Plan) (q : Sequencer) : Sequencer :=
  match pl.outcome with
  | .close => { q with mark := some pl.reason.closeReason }
  | .guard => { q with state := .waitstart, choice := some (choiceOfPlan pl) }
  | .reheat => { q with state := .planned, choice := none }
  | .cool => { q with state := .planned, choice := none }
  | .hold => { q with state := .planned, choice := none }

/-- A pocket with a live basis has taken its state from its plan, from `d` to `e`. -/
structure Dev.TookState (p : Pocket) (r : Record) (d e : Dev) : Prop where
  plan : e.plan.get p = some (d.plannedAt p r)
  psq : e.psq.get p = ({ d.psq.get p with advisory := d.startupAdvisory p r } : Sequencer).taking (d.plannedAt p r)
  facts : e.bkd.facts.get p =
    if (d.plannedAt p r).outcome = .close then .clear else (d.bkd.facts.get p).aligned
  image : (d.plannedAt p r).outcome = .close → (d.psq.get p).blocking.journalFail = false →
    ∃ im, e.image.get p = some im ∧
      (closureImage r (d.bkd.facts.get p).losses (d.plannedAt p r).reason.closeReason).keptOrTaken im
  fault : d.staleAt p r = true → (d.psq.get p).advisory.staleBasis = false → e.link.attention.fault = true
  planReady : (d.plannedAt p r).outcome ≠ .close → e.link.attention.planReady = true
  closed : (d.plannedAt p r).outcome = .close → e.link.attention.closed = true

/-- What leaves the pocket, its plan and the causes leaves the state it took. -/
theorem Dev.TookState.of_leaves {p : Pocket} {r : Record} {d e e' : Dev} (h : d.TookState p r e) (hl : e.LeavesPocket p e')
    (hplan : e'.plan.get p = e.plan.get p) (hgrows : e.link.attention.Grows e'.link.attention) : d.TookState p r e' where
  plan := hplan.trans h.plan
  psq := hl.psq.trans h.psq
  facts := hl.facts.trans h.facts
  image hout hj := by
    obtain ⟨im, him, hkept⟩ := h.image hout hj
    obtain ⟨im', him', hkept'⟩ := hl.image.2 im him
    exact ⟨im', him', hkept.trans hkept'⟩
  fault h1 h2 := hgrows.fault (h.fault h1 h2)
  planReady hout := hgrows.planReady (h.planReady hout)
  closed hout := hgrows.closed (h.closed hout)

/-- A pocket without a live basis is released and no more. -/
def Dev.notLive (d : Dev) (p : Pocket) : Prop :=
  (d.journal.get p).basis = none ∨ ∃ b, (d.journal.get p).basis = some b ∧ b.record.kind = some .close

section TakeState
variable {p : Pocket} {d : Dev}

theorem Dev.takeState_of_notLive (h : d.notLive p) : d.takeState p = d.releaseFacts p := by
  rcases h with h | ⟨b, hb, hk⟩
  · simp only [Dev.takeState, h]
  · simp [Dev.takeState, hb, Record.live, hk]

/-- The branches of the plan. -/
theorem Dev.takeState_of_live {b : Basis} (hb : (d.journal.get p).basis = some b) (hk : b.record.kind ≠ some .close) :
    ((d.plannedAt p b.record).outcome = .close ∧
      d.takeState p = (d.startupPlan p b.record).startupClosure p (d.plannedAt p b.record).reason.closeReason) ∨
    ((d.plannedAt p b.record).outcome = .guard ∧
      d.takeState p = (d.startupPlan p b.record).waitsGuard p (d.plannedAt p b.record)) ∨
    (((d.plannedAt p b.record).outcome = .reheat ∨ (d.plannedAt p b.record).outcome = .cool ∨
        (d.plannedAt p b.record).outcome = .hold) ∧
      d.takeState p = (d.startupPlan p b.record).waitsPlanned p) := by
  have hplan : (d.startupPlan p b.record).plan.get p = some (d.plannedAt p b.record) := by
    rw [(d.startupPlan_parts p b.record).2.1, Per.set_get_self]
  have hlive : b.record.live = true := by simp [Record.live, hk]
  cases hout : (d.plannedAt p b.record).outcome <;>
    simp [Dev.takeState, hb, hlive, hplan, hout, Dev.waitsGuard, Dev.waitsPlanned]

theorem Dev.takeState_tookState {b : Basis} (hb : (d.journal.get p).basis = some b) (hk : b.record.kind ≠ some .close) :
    d.TookState p b.record (d.takeState p) ∧ d.link.Answers (d.takeState p).link ∧ d.FactsOnly (d.takeState p) := by
  obtain ⟨hpsq, hplan, hanswers, hfault⟩ := d.startupPlan_parts p b.record
  have hfacts : (d.startupPlan p b.record).bkd = d.bkd := by simp
  have hget : (d.startupPlan p b.record).psq.get p = { d.psq.get p with advisory := d.startupAdvisory p b.record } := by
    rw [hpsq, Per.set_get_self]
  have hplan' : (d.startupPlan p b.record).plan.get p = some (d.plannedAt p b.record) := by rw [hplan, Per.set_get_self]
  rcases Dev.takeState_of_live hb hk with ⟨hout, heq⟩ | ⟨hout, heq⟩ | ⟨hout, heq⟩ <;> rw [heq]
  · obtain ⟨hq, hbkd, himage, _, hlink, hclosed⟩ := (d.startupPlan p b.record).startupClosure_parts p (b := b) (by simpa using hb)
      (d.plannedAt p b.record).reason.closeReason
    rw [hfacts] at hbkd himage
    refine ⟨⟨by simpa using hplan', ?_, ?_, fun _ hj => ?_, fun h1 h2 => hlink.causes.fault (hfault h1 h2),
      fun h => absurd hout h, fun _ => hclosed⟩, hanswers.trans hlink, by rw [Dev.FactsOnly, hbkd]⟩
    · rw [hq, Per.set_get_self, hget]
      simp only [Sequencer.taking, hout]
    · rw [hbkd, if_pos hout]
      exact Per.set_get_self ..
    · rw [himage (by rw [Dev.journalFailed, hget]; exact hj), Per.set_get_self]
      exact ⟨_, rfl, .inl rfl⟩
  · obtain ⟨hq, hbkd, hplan'', _, hlink, hready⟩ := (d.startupPlan p b.record).waitsGuard_parts p (d.plannedAt p b.record)
    rw [hfacts] at hbkd
    have hnot : (d.plannedAt p b.record).outcome ≠ .close := by simp [hout]
    refine ⟨⟨by rw [hplan'', hplan'], ?_, ?_, fun h => absurd h hnot, fun h1 h2 => hlink.causes.fault (hfault h1 h2),
      fun _ => hready, fun h => absurd h hnot⟩, hanswers.trans hlink, by rw [Dev.FactsOnly, hbkd]⟩
    · rw [hq, Per.set_get_self, hget]
      simp only [Sequencer.taking, hout]
    · rw [hbkd, if_neg hnot]
      exact Per.set_get_self ..
  · obtain ⟨hq, hbkd, hplan'', _, hlink, hready⟩ := (d.startupPlan p b.record).waitsPlanned_parts p
    rw [hfacts] at hbkd
    have hnot : (d.plannedAt p b.record).outcome ≠ .close := by rcases hout with h | h | h <;> simp [h]
    refine ⟨⟨by rw [hplan'', hplan'], ?_, ?_, fun h => absurd h hnot, fun h1 h2 => hlink.causes.fault (hfault h1 h2),
      fun _ => hready, fun h => absurd h hnot⟩, hanswers.trans hlink, by rw [Dev.FactsOnly, hbkd]⟩
    · rw [hq, Per.set_get_self, hget]
      rcases hout with h | h | h <;> simp only [Sequencer.taking, h]
    · rw [hbkd, if_neg hnot]
      exact Per.set_get_self ..

theorem Dev.live_of_not (h : ¬d.notLive p) : ∃ b, (d.journal.get p).basis = some b ∧ b.record.kind ≠ some .close := by
  rw [Dev.notLive, not_or] at h
  obtain ⟨b, hb⟩ := Option.ne_none_iff_exists'.1 h.1
  exact ⟨b, hb, fun hk => h.2 ⟨b, hb, hk⟩⟩

/-- The other pocket is left. -/
theorem Dev.takeState_leaves {q : Pocket} (hq : q ≠ p) : d.LeavesPocket q (d.takeState p) ∧
    (d.takeState p).plan.get q = d.plan.get q := by
  by_cases hlive : d.notLive p
  · rw [Dev.takeState_of_notLive hlive]
    exact ⟨⟨by simp [Dev.releaseFacts], by simp [Dev.releaseFacts, Per.set_get_of_ne _ _ hq], by simp [Dev.releaseFacts],
      imageKept_of_eq (by simp [Dev.releaseFacts])⟩, by simp [Dev.releaseFacts]⟩
  · obtain ⟨b, hb, hk⟩ := Dev.live_of_not hlive
    obtain ⟨hpsq, hplan, _, _⟩ := d.startupPlan_parts p b.record
    have hleaves (e : Dev) {x : Sequencer} {f : Facts} (h1 : e.psq = (d.startupPlan p b.record).psq.set p x)
        (h2 : e.bkd = { (d.startupPlan p b.record).bkd with facts := (d.startupPlan p b.record).bkd.facts.set p f })
        (h3 : e.tmb = (d.startupPlan p b.record).tmb) (h4 : e.image.get q = (d.startupPlan p b.record).image.get q)
        (h5 : e.plan = (d.startupPlan p b.record).plan) : d.LeavesPocket q e ∧ e.plan.get q = d.plan.get q := by
      refine ⟨⟨?_, ?_, by rw [h3]; simp, imageKept_of_eq (by rw [h4]; simp)⟩, by rw [h5, hplan, Per.set_get_of_ne _ _ hq]⟩
      · rw [h1, hpsq, Per.set_get_of_ne _ _ hq, Per.set_get_of_ne _ _ hq]
      · rw [h2]
        simp [Per.set_get_of_ne _ _ hq]
    rcases Dev.takeState_of_live hb hk with ⟨_, heq⟩ | ⟨_, heq⟩ | ⟨_, heq⟩ <;> rw [heq]
    · obtain ⟨h1, h2, _, himage, _, _⟩ := (d.startupPlan p b.record).startupClosure_parts p (b := b) (by simpa using hb)
        (d.plannedAt p b.record).reason.closeReason
      exact hleaves _ h1 h2 (by simp) (himage q hq) (by simp)
    · obtain ⟨h1, h2, h5, himage, _, _⟩ := (d.startupPlan p b.record).waitsGuard_parts p (d.plannedAt p b.record)
      exact hleaves _ h1 h2 (by simp [Dev.waitsGuard]) (by rw [himage]) h5
    · obtain ⟨h1, h2, h5, himage, _, _⟩ := (d.startupPlan p b.record).waitsPlanned_parts p
      exact hleaves _ h1 h2 (by simp [Dev.waitsPlanned]) (by rw [himage]) h5

/-- The link keeps its replies and causes, and the backup domain all but the facts. -/
theorem Dev.takeState_answers (p : Pocket) (d : Dev) : d.link.Answers (d.takeState p).link ∧ d.FactsOnly (d.takeState p) := by
  by_cases hlive : d.notLive p
  · rw [Dev.takeState_of_notLive hlive]
    exact ⟨.of_eq (by simp [Dev.releaseFacts]), by simp [Dev.FactsOnly, Dev.releaseFacts, Dev.setFacts]⟩
  · obtain ⟨b, hb, hk⟩ := Dev.live_of_not hlive
    exact (Dev.takeState_tookState hb hk).2

end TakeState

/-! ### Both pockets -/

/-- Both pockets have taken their states. -/
def Dev.tookStates (d : Dev) : Dev := (d.takeState .a).takeState .b

section Both
variable (d : Dev)

/-- Pocket B's inputs are as they were when pocket A had taken its state. -/
theorem Dev.takeState_inputs (r : Record) :
    (d.takeState .a).plannedAt .b r = d.plannedAt .b r ∧ (d.takeState .a).staleAt .b r = d.staleAt .b r ∧
    (d.takeState .a).startupAdvisory .b r = d.startupAdvisory .b r := by
  have hleaves := (Dev.takeState_leaves (d := d) (p := .a) (q := .b) (by decide)).1
  have hparams : (d.takeState .a).link.params = d.link.params := by rw [(d.takeState_answers .a).1.frame]
  have hstale : (d.takeState .a).staleAt .b r = d.staleAt .b r := by rw [Dev.staleAt, Dev.staleAt, hleaves.facts]
  have hadvisory : (d.takeState .a).startupAdvisory .b r = d.startupAdvisory .b r := by
    rw [Dev.startupAdvisory, Dev.startupAdvisory, hstale, hleaves.psq]
  have hnow : (d.takeState .a).tNow .b = d.tNow .b := by
    rw [Dev.tNow, Dev.tNow, hleaves.psq, Dev.takeState_frame .. |>.2.2.2.2.2.2.1]
  exact ⟨by rw [Dev.plannedAt, Dev.plannedAt, hadvisory, hleaves.psq, hleaves.facts, hparams, hnow], hstale, hadvisory⟩

theorem Dev.tookStates_tookState {p : Pocket} {b : Basis} (hb : (d.journal.get p).basis = some b)
    (hk : b.record.kind ≠ some .close) : d.TookState p b.record d.tookStates := by
  cases p with
  | a =>
    obtain ⟨hleaves, hplan⟩ := Dev.takeState_leaves (d := d.takeState .a) (p := .b) (q := .a) (by decide)
    exact (Dev.takeState_tookState hb hk).1.of_leaves hleaves hplan ((d.takeState .a).takeState_answers .b).1.causes
  | b =>
    have htook := (Dev.takeState_tookState (d := d.takeState .a) (p := .b) (b := b) (by simpa using hb) hk).1
    have hleaves := (Dev.takeState_leaves (d := d) (p := .a) (q := .b) (by decide)).1
    obtain ⟨hplanned, hstale, hadvisory⟩ := d.takeState_inputs b.record
    obtain ⟨plan, psq, facts, image, fault, planReady, closed⟩ := htook
    simp only [hplanned, hstale, hadvisory, hleaves.psq, hleaves.facts] at plan psq facts image fault planReady closed
    exact ⟨plan, psq, facts, image, fault, planReady, closed⟩

theorem Dev.tookStates_of_notLive {p : Pocket} (h : d.notLive p) :
    d.tookStates.psq.get p = d.psq.get p ∧ d.tookStates.bkd.facts.get p = .clear ∧ d.tookStates.plan.get p = d.plan.get p := by
  have hreleased (e : Dev) (q : Pocket) (hq : e.notLive q) : (e.takeState q).psq.get q = e.psq.get q ∧
      (e.takeState q).bkd.facts.get q = .clear ∧ (e.takeState q).plan.get q = e.plan.get q := by
    rw [Dev.takeState_of_notLive hq]
    simp [Dev.releaseFacts]
  cases p with
  | a =>
    obtain ⟨hpsq, hfacts, hplan⟩ := hreleased d .a h
    obtain ⟨hleaves, hplan'⟩ := Dev.takeState_leaves (d := d.takeState .a) (p := .b) (q := .a) (by decide)
    exact ⟨hleaves.psq.trans hpsq, hleaves.facts.trans hfacts, hplan'.trans hplan⟩
  | b =>
    obtain ⟨hpsq, hfacts, hplan⟩ := hreleased (d.takeState .a) .b (by simpa [Dev.notLive] using h)
    obtain ⟨hleaves, hplan'⟩ := Dev.takeState_leaves (d := d) (p := .a) (q := .b) (by decide)
    exact ⟨hpsq.trans hleaves.psq, hfacts, hplan.trans hplan'⟩

theorem Dev.tookStates_answers : d.link.Answers d.tookStates.link ∧ d.FactsOnly d.tookStates :=
  ⟨(d.takeState_answers .a).1.trans ((d.takeState .a).takeState_answers .b).1,
    (d.takeState_answers .a).2.trans ((d.takeState .a).takeState_answers .b).2⟩

end Both

end Sys2Proof.Machine
end

section
/-! The end of STARTUP, as `Dev.startupEnds` spells it out, by a restore sample or by the last page of the scan (R13, R14,
R26, R42, R43, R121, R122). -/

namespace Sys2Proof.Machine

/-! ### Entry to RUN (R14, R75, R85, R139) -/

/-- The part in RUN, with the stagger from 0. -/
def Dev.runBegun (d : Dev) : Dev := (d.setRun .run).setArbiter { d.arbiter with stagger := 0 }

/-- The part in RUN, before the start tests. -/
def Dev.runEntered (d : Dev) : Dev :=
  (if d.reserve.ready then d.runBegun else d.runBegun.raiseDevice .reserveLow).beginSample .a

theorem Dev.enterRun_eq (d : Dev) : d.enterRun = d.runEntered.startTests.select := rfl

section Enter
variable (d : Dev)

@[simp] theorem Dev.runEntered_frame :
    d.runEntered.bkd = d.bkd ∧ d.runEntered.run = .run ∧ d.runEntered.reserve = d.reserve ∧ d.runEntered.psq = d.psq ∧
    d.runEntered.image = d.image ∧ d.runEntered.journal = d.journal ∧ d.runEntered.plan = d.plan ∧
    d.runEntered.arbiter = { d.arbiter with stagger := 0 } ∧ d.runEntered.tmb = d.tmb := by
  simp only [Dev.runEntered]
  split <;> simp [Dev.runBegun]

theorem Dev.runEntered_faults :
    d.link.Answers d.runEntered.link ∧
    (d.reserve.ready = true → d.runEntered.faults = d.faults) ∧
    (d.reserve.ready = false → d.runEntered.faults = { d.faults with reserveLow := true } ∧
      (d.faults.reserveLow = false → d.runEntered.link.attention.fault = true)) := by
  cases hready : d.reserve.ready with
  | true =>
    rw [Dev.runEntered, hready, if_pos rfl]
    exact ⟨.of_eq (by simp [Dev.runBegun]), fun _ => by simp [Dev.runBegun], fun h => absurd h.symm Bool.false_ne_true⟩
  | false =>
    have hfaults := Dev.raiseDevice_faults .reserveLow d.runBegun
    have hanswers := Dev.raiseDevice_answers .reserveLow d.runBegun
    rw [Dev.runEntered, hready, if_neg Bool.false_ne_true]
    refine ⟨by simpa [Dev.runBegun] using hanswers, fun h => absurd h Bool.false_ne_true, fun _ => ⟨?_, fun hnot => ?_⟩⟩
    · simpa [Dev.runBegun, DeviceFaults.put] using hfaults
    · simpa using (Dev.raiseDevice_attention .reserveLow d.runBegun).2 hnot

theorem Dev.runEntered_leaves (q : Pocket) : d.LeavesPocket q d.runEntered :=
  ⟨by simp, by simp, by simp, imageKept_of_eq (by simp)⟩

/-- A pocket that is not in WAITSTART is left by the entry to RUN, but for a write that may start. -/
theorem Dev.enterRun_leaves {q : Pocket} (h : (d.psq.get q).state ≠ .waitstart) : d.LeavesPocket q d.enterRun := by
  rw [Dev.enterRun_eq]
  exact ((d.runEntered_leaves q).trans (Dev.startTests_leaves (by simpa using h))).trans (Dev.select_leaves q _)

theorem Dev.enterRun_answers : d.link.Answers d.enterRun.link := by
  rw [Dev.enterRun_eq]
  exact (d.runEntered_faults.1.trans (Dev.startTests_answers _)).trans (Dev.select_answers _)

theorem Dev.enterRun_sameFaults (q : Pocket) : d.SameFaults q d.enterRun := by
  rw [Dev.enterRun_eq]
  have htests : d.runEntered.SameFaults q d.runEntered.startTests := by
    rw [Dev.startTests]
    cases q with
    | a => exact (Dev.startTest_sameFaults _).trans (.of_eq (Dev.startTest_leaves _ (by decide)).psq)
    | b => exact Dev.SameFaults.trans (.of_eq (Dev.startTest_leaves _ (by decide)).psq) (Dev.startTest_sameFaults _)
  exact (Dev.SameFaults.of_eq (by simp)).trans (htests.trans (.of_eq (by simp)))

/-- Where the conditions of R139 hold, a pocket in WAITSTART with a choice of GUARD leaves. -/
theorem Dev.enterRun_tested (hpresent : d.bkd.monitor.state = .present) (hready : d.reserve.ready = true)
    (hhold : d.link.resetHold = false) (q : Pocket) : d.startTested q d.enterRun := by
  have halike : d.WaitsAlike q d.runEntered := ⟨by simp, by simp, by simp, by simp⟩
  rw [Dev.enterRun_eq]
  refine halike.startTested (Dev.startTests_tested ?_ ?_ ?_ (fun p => Dev.select_leaves p _) q)
  · rw [Dev.runningFree_iff]
    exact ⟨by simp, (d.runEntered_faults.1.resetHold).trans hhold⟩
  · simp [Dev.mainsPresent, hpresent]
  · simpa using hready

/-- Where they do not, every pocket is left. -/
theorem Dev.enterRun_untested
    (h : d.bkd.monitor.state ≠ .present ∨ d.reserve.ready = false ∨ d.link.resetHold = true) (q : Pocket) :
    d.LeavesPocket q d.enterRun := by
  have hnot : d.runEntered.startTests = d.runEntered := by
    refine Dev.startTests_of_not ?_
    rcases h with h | h | h
    · exact .inr (.inl (by simp [Dev.mainsPresent, h]))
    · exact .inr (.inr (by simpa using h))
    · exact .inl (by simp [Dev.runningFree, d.runEntered_faults.1.resetHold, h])
  rw [Dev.enterRun_eq, hnot]
  exact (d.runEntered_leaves q).trans (Dev.select_leaves q _)

theorem Dev.enterRun_factsOnly : d.FactsOnly d.enterRun := by
  rw [Dev.enterRun_eq]
  have hentered : d.FactsOnly d.runEntered := .of_eq (by simp)
  have hselect : d.runEntered.startTests.FactsOnly d.runEntered.startTests.select := .of_eq (by simp)
  exact (hentered.trans d.runEntered.startTests_factsOnly).trans hselect

end Enter

/-! ### A pocket at the end of STARTUP -/

/-- The part at the end of STARTUP. -/
def Dev.startupEnded (d : Dev) : Dev := d.tookStates.enterRun

theorem Sequencer.taking_faults (pl : Plan) (q : Sequencer) :
    (q.taking pl).advisory = q.advisory ∧ (q.taking pl).blocking = q.blocking := by
  cases h : pl.outcome <;> simp [Sequencer.taking, h]

section Ended
variable {d : Dev} {p : Pocket}

theorem Dev.startupEnded_of_notLive (h : d.notLive p) (hvacant : (d.psq.get p).state = .vacant) :
    d.startupEnded.psq.get p = d.psq.get p ∧ d.startupEnded.bkd.facts.get p = .clear ∧
    d.startupEnded.plan.get p = d.plan.get p := by
  obtain ⟨hpsq, hfacts, hplan⟩ := d.tookStates_of_notLive h
  have hleaves := Dev.enterRun_leaves d.tookStates (q := p) (by rw [hpsq, hvacant]; decide)
  exact ⟨hleaves.psq.trans hpsq, hleaves.facts.trans hfacts, by simpa [Dev.startupEnded] using hplan⟩

section Live
variable {r : Record} (htook : d.TookState p r d.tookStates)
include htook

/-- What every plan leaves: its record, the faults and the causes. -/
theorem Dev.startupEnded_faults :
    d.startupEnded.plan.get p = some (d.plannedAt p r) ∧ (d.startupEnded.psq.get p).advisory = d.startupAdvisory p r ∧
    (d.startupEnded.psq.get p).blocking = (d.psq.get p).blocking ∧
    (d.staleAt p r = true → (d.psq.get p).advisory.staleBasis = false → d.startupEnded.link.attention.fault = true) := by
  obtain ⟨hadvisory, hblocking⟩ := d.tookStates.enterRun_sameFaults p
  obtain ⟨htaking, htaking'⟩ := Sequencer.taking_faults (d.plannedAt p r)
    { d.psq.get p with advisory := d.startupAdvisory p r }
  exact ⟨by simpa [Dev.startupEnded] using htook.plan, hadvisory.trans (by rw [htook.psq, htaking]),
    hblocking.trans (by rw [htook.psq, htaking']), fun h1 h2 => d.tookStates.enterRun_answers.causes.fault (htook.fault h1 h2)⟩

theorem Dev.startupEnded_planned
    (hout : (d.plannedAt p r).outcome = .reheat ∨ (d.plannedAt p r).outcome = .cool ∨ (d.plannedAt p r).outcome = .hold) :
    d.startupEnded.psq.get p = { d.psq.get p with state := .planned, choice := none, advisory := d.startupAdvisory p r } ∧
    d.startupEnded.link.attention.planReady = true ∧
    d.startupEnded.bkd.facts.get p = (d.bkd.facts.get p).aligned := by
  have hnot : (d.plannedAt p r).outcome ≠ .close := by rcases hout with h | h | h <;> simp [h]
  have hpsq : d.tookStates.psq.get p =
      { d.psq.get p with state := .planned, choice := none, advisory := d.startupAdvisory p r } := by
    rw [htook.psq]
    rcases hout with h | h | h <;> simp only [Sequencer.taking, h]
  have hleaves := Dev.enterRun_leaves d.tookStates (q := p) (by simp [hpsq])
  exact ⟨hleaves.psq.trans hpsq, d.tookStates.enterRun_answers.causes.planReady (htook.planReady hnot),
    hleaves.facts.trans (htook.facts.trans (if_neg hnot))⟩

theorem Dev.startupEnded_guard (hout : (d.plannedAt p r).outcome = .guard) :
    d.tookStates.psq.get p = { d.psq.get p with
      state := .waitstart
      choice := some ⟨.guard, (d.plannedAt p r).heat, (d.plannedAt p r).cool, (d.plannedAt p r).bursts, (d.plannedAt p r).guard⟩
      advisory := d.startupAdvisory p r } ∧
    d.startupEnded.link.attention.planReady = true ∧
    (d.tookStates.bkd.facts.get p) = (d.bkd.facts.get p).aligned := by
  have hnot : (d.plannedAt p r).outcome ≠ .close := by simp [hout]
  refine ⟨?_, d.tookStates.enterRun_answers.causes.planReady (htook.planReady hnot), htook.facts.trans (if_neg hnot)⟩
  rw [htook.psq]
  simp only [Sequencer.taking, hout, choiceOfPlan]

theorem Dev.startupEnded_closed (hout : (d.plannedAt p r).outcome = .close) (hvacant : (d.psq.get p).state = .vacant) :
    (d.startupEnded.psq.get p).state = .vacant ∧
    (d.startupEnded.psq.get p).mark = some (if (d.plannedAt p r).reason = .door then .door else .expired) ∧
    d.startupEnded.bkd.facts.get p = .clear ∧ d.startupEnded.link.attention.closed = true ∧
    ((d.psq.get p).blocking.journalFail = false → ∃ im, d.startupEnded.image.get p = some im ∧ im.cycle = r.cycle ∧
      im.closeReason = (d.startupEnded.psq.get p).mark ∧
      im.body = { r.body with outages := min 255 (r.body.outages + (d.bkd.facts.get p).losses) } ∧
      (im.commit = .queued .close ∨ im.commit = .inFlight .close)) := by
  have hpsq : d.tookStates.psq.get p = { d.psq.get p with
      advisory := d.startupAdvisory p r, mark := some (d.plannedAt p r).reason.closeReason } := by
    rw [htook.psq]
    simp only [Sequencer.taking, hout]
  have hleaves := Dev.enterRun_leaves d.tookStates (q := p) (by rw [hpsq, hvacant]; decide)
  have hmark : (d.startupEnded.psq.get p).mark = some (d.plannedAt p r).reason.closeReason := by
    rw [Dev.startupEnded, hleaves.psq, hpsq]
  refine ⟨by rw [Dev.startupEnded, hleaves.psq, hpsq]; exact hvacant, by rw [hmark, PlanReason.closeReason_eq],
    hleaves.facts.trans (htook.facts.trans (if_pos hout)),
    d.tookStates.enterRun_answers.causes.closed (htook.closed hout), fun hj => ?_⟩
  obtain ⟨im, him, hkept⟩ := htook.image hout hj
  obtain ⟨im', him', hkept'⟩ := hleaves.image.2 im him
  obtain ⟨hcycle, hreason, hbody, hcommit⟩ := closureImage_spec r (d.bkd.facts.get p).losses (d.plannedAt p r).reason.closeReason
  refine ⟨im', him', ?_⟩
  obtain ⟨hbody', hcycle', _, _, _, hreason'⟩ := Image.keptOrTaken_body (hkept.trans hkept')
  refine ⟨hcycle'.trans hcycle, (hreason'.trans hreason).trans hmark.symm, hbody'.trans hbody, ?_⟩
  rcases hkept.trans hkept' with rfl | ⟨k, hk, rfl⟩
  · exact .inl hcommit
  · rw [CommitStatus.queued.inj (hk.symm.trans hcommit)]
    exact .inr rfl

end Live

end Ended

section Spelled
variable (d : Dev)

@[simp] theorem Dev.tookStates_frame :
    d.tookStates.pins = d.pins ∧ d.tookStates.settle = d.settle ∧ d.tookStates.reserve = d.reserve ∧
    d.tookStates.adc = d.adc ∧ d.tookStates.faults = d.faults ∧ d.tookStates.sns = d.sns ∧ d.tookStates.scan = d.scan ∧
    d.tookStates.journal = d.journal ∧ d.tookStates.arbiter = d.arbiter ∧ d.tookStates.freeCount = d.freeCount := by
  simp [Dev.tookStates]

/-- The items of the device at the end of STARTUP. -/
theorem Dev.startupEnded_device :
    d.startupEnded.run = .run ∧ d.startupEnded.arbiter = { d.arbiter with stagger := 0 } ∧
    (d.reserve.ready = false → d.startupEnded.faults = { d.faults with reserveLow := true } ∧
      (d.faults.reserveLow = false → d.startupEnded.link.attention.fault = true)) ∧
    (d.reserve.ready = true → d.startupEnded.faults = d.faults) ∧
    d.sampleBegins .a d.startupEnded.sns d.startupEnded.adc ∧ d.FactsOnly d.startupEnded := by
  have hkept : d.startupEnded.run = d.tookStates.runEntered.run ∧
      d.startupEnded.arbiter = d.tookStates.runEntered.arbiter ∧
      d.startupEnded.faults = d.tookStates.runEntered.faults := by
    simp [Dev.startupEnded, Dev.enterRun_eq]
  have hcauses : d.tookStates.runEntered.link.Answers d.startupEnded.link :=
    (Dev.startTests_answers _).trans (Dev.select_answers _)
  obtain ⟨hrun, harbiter, hfaults⟩ := hkept
  obtain ⟨_, hready, hlow⟩ := d.tookStates.runEntered_faults
  rw [Dev.tookStates_frame .. |>.2.2.1, Dev.tookStates_frame .. |>.2.2.2.2.1, ← hfaults] at hready hlow
  refine ⟨by rw [hrun]; simp, by rw [harbiter]; simp, fun h => ⟨(hlow h).1, fun hnot => hcauses.causes.fault ((hlow h).2 hnot)⟩,
    hready, ?_, d.tookStates_answers.2.trans d.tookStates.enterRun_factsOnly⟩
  have hbegins := d.tookStates.beginSample_begins .a
  rw [Dev.sampleBegins] at hbegins ⊢
  simpa [Dev.startupEnded] using hbegins

variable {d} {p : Pocket} {b : Basis} (htook : d.TookState p b.record d.tookStates)
  (hout : (d.plannedAt p b.record).outcome = .guard)
include htook hout

/-- A GUARD plan waits where R139 keeps it waiting. -/
theorem Dev.startupEnded_guard_waits
    (h : d.bkd.monitor.state ≠ .present ∨ d.reserve.ready = false ∨ d.link.resetHold = true) :
    d.startupEnded.psq.get p = { d.psq.get p with
      state := .waitstart
      choice := some ⟨.guard, (d.plannedAt p b.record).heat, (d.plannedAt p b.record).cool,
        (d.plannedAt p b.record).bursts, (d.plannedAt p b.record).guard⟩
      advisory := d.startupAdvisory p b.record } ∧
    d.startupEnded.bkd.facts.get p = (d.bkd.facts.get p).aligned := by
  obtain ⟨hpsq, _, hfacts⟩ := Dev.startupEnded_guard htook hout
  obtain ⟨hanswers, hbkd⟩ := d.tookStates_answers
  have hmonitor : d.tookStates.bkd.monitor = d.bkd.monitor := by rw [hbkd]
  have hleaves := d.tookStates.enterRun_untested (by simpa [hanswers.resetHold, hmonitor] using h) p
  exact ⟨hleaves.psq.trans hpsq, hleaves.facts.trans hfacts⟩

/-- A GUARD plan leaves WAITSTART where R139 lets it. -/
theorem Dev.startupEnded_guard_leaves (hb : (d.journal.get p).basis = some b) (hpresent : d.bkd.monitor.state = .present)
    (hready : d.reserve.ready = true) (hhold : d.link.resetHold = false) :
    d.startupEnded.bkd.facts.get p = .clear ∧
    ((d.psq.get p).doorOpen = false →
      (d.startupEnded.psq.get p).state = .anticrease ∧ (d.startupEnded.psq.get p).mark = (d.psq.get p).mark ∧
      (d.startupEnded.psq.get p).choice = none ∧
      d.startupEnded.tmb.get p = ⟨.burst, some (d.plannedAt p b.record).guard, none, (d.plannedAt p b.record).bursts, 0,
        none, .forward⟩) ∧
    ((d.psq.get p).doorOpen = true → (d.psq.get p).blocking.journalFail = false →
      (d.startupEnded.psq.get p).state = .anticrease ∧ (d.startupEnded.psq.get p).mark = some .door ∧
      (d.startupEnded.tmb.get p).state = .idle) := by
  obtain ⟨hpsq, _, _⟩ := Dev.startupEnded_guard htook hout
  obtain ⟨hanswers, hbkd⟩ := d.tookStates_answers
  have htested := d.tookStates.enterRun_tested (by rw [hbkd]; exact hpresent) (by simpa using hready)
    (hanswers.resetHold.trans hhold) p
  obtain ⟨hclear, hgoes, hdoor⟩ := htested.1 ⟨.guard, _, _, _, _⟩ b (by rw [hpsq]) (by rw [hpsq]) (.inr rfl) (by simpa using hb)
  rw [hpsq] at hgoes hdoor
  refine ⟨hclear, fun hclosed => ?_, fun hopen hj => ?_⟩
  · obtain ⟨hleft, htmb, _⟩ := hgoes (.inr hclosed)
    have hstate := congrArg Sequencer.state hleft
    have hmark := congrArg Sequencer.mark hleft
    have hchoice := congrArg Sequencer.choice hleft
    exact ⟨hstate, hmark, hchoice, htmb rfl⟩
  · obtain ⟨hidle, hshut, _⟩ := hdoor rfl hopen
    obtain ⟨hstate, hmark, _⟩ := hshut hj
    exact ⟨hstate, hmark, hidle⟩

end Spelled

/-- The end of STARTUP is the one that `Dev.startupEnds` spells out. -/
theorem Dev.startupEnds_startupEnded {d : Dev} (hvacant : ∀ q, (d.psq.get q).state = .vacant) :
    d.startupEnds d.startupEnded := by
  obtain ⟨hrun, harbiter, hlow, hready, hsample, hbkd⟩ := d.startupEnded_device
  refine ⟨hrun, harbiter, hlow, hready, hsample, fun q h => Dev.startupEnded_of_notLive h (hvacant q), fun q b hb hk => ?_, hbkd, by
    apply Dev.ext <;> simp [Dev.startupEnded]⟩
  have htook := d.tookStates_tookState hb hk
  obtain ⟨hplan, hadvisory, hblocking, hfault⟩ := Dev.startupEnded_faults htook
  exact ⟨d.plannedAt q b.record, d.staleAt q b.record, d.startupAdvisory q b.record, d.staleAt_iff q b.record, rfl, rfl, hplan,
    hadvisory, hblocking, hfault, Dev.startupEnded_planned htook,
    fun hout => ⟨(Dev.startupEnded_guard htook hout).2.1, Dev.startupEnded_guard_waits htook hout,
      Dev.startupEnded_guard_leaves htook hout hb⟩,
    Dev.startupEnded_closed htook⟩

/-- STARTUP ends where nothing more is waited for (R13). -/
theorem Dev.endStartup_eq {d : Dev} (hrun : d.run = .startup) (hscan : d.scan.state = .done)
    (hsampling : ∀ q, (d.sns.get q).sampling = .none) : d.endStartup = d.startupEnded := by
  have ha : d.sns.a.sampling = .none := hsampling .a
  have hb : d.sns.b.sampling = .none := hsampling .b
  rw [Dev.endStartup, if_pos (by simp [hrun, hscan, ha, hb])]
  rfl

/-- A FOREIGN slot makes the ring corrupt (R109), whatever the basis. -/
theorem ringCorrupt_of_foreign {map : List SlotClass} (h : .foreign ∈ map) : ringCorrupt map = true := by
  cases hbasis : selectBasis map with
  | none => exact (ringCorrupt_of_no_basis hbasis).2 h
  | some b => exact (ringCorrupt_of_basis hbasis).2 (.inl h)

/-- A completed sample changes nothing of a pocket's sequencer but its blocking faults. -/
theorem Dev.sampleEnded_psq (p : Pocket) (code streak : Nat) (d : Dev) : (d.sampleEnded p code streak).psq.get p =
    { d.psq.get p with blocking := ((d.sampleEnded p code streak).psq.get p).blocking } := by
  unfold Dev.sampleEnded
  split
  · rw [Dev.inRangeSample_eq]
    split <;> simp [Dev.raiseFault_psq, Sequencer.put]
  · rw [Dev.outOfRangeSample_eq]
    split <;> simp [Dev.raiseFault_psq, Sequencer.put, Dev.setSns]

/-- The last restore sample, with the scan done. -/
theorem endStartup_sampleEnded {d : Dev} {p : Pocket} (code : Nat) (hrun : d.run = .startup) (hscan : d.scan.state = .done)
    (hother : (d.sns.get p.other).sampling = .none) :
    (d.sampleEnded p code 3).endStartup = (d.sampleEnded p code 3).startupEnded := by
  refine Dev.endStartup_eq (by simpa using hrun) (by simpa using hscan) fun q => ?_
  obtain ⟨hspared, htaken, _⟩ := Dev.sampleEnded_other p code 3 d
  by_cases hq : q = p
  · rw [hq]
    exact htaken
  · rw [(hspared q hq).1, show q = p.other by cases p <;> cases q <;> simp_all [Pocket.other]]
    exact hother

/-- The scan's end, with both samples taken. -/
theorem endStartup_endScan {d : Dev} (hrun : d.run = .startup) (hsampling : ∀ q, (d.sns.get q).sampling = .none) :
    d.endScan.endStartup = d.endScan.startupEnded :=
  Dev.endStartup_eq (by simpa using hrun) (by rw [d.endScan_parts.1]) (by simpa using hsampling)

end Sys2Proof.Machine

namespace Sys2Proof.Proofs
open Sys2Proof.Machine

/-- Settles O26: the last event does its own work, and then each pocket takes its state. -/
theorem startupEnds : Obligations.StartupEnds := by
  intro s hrun hhold hvacant
  refine ⟨?sample, ?page⟩
  case sample =>
    rintro p c0 c1 c2 c3 code t rfl rfl hway hscan hother
    have hvacant' (q : Pocket) : ((s.dev.sampleEnded p ((c0 + c1 + c2 + c3) / 4) 3).psq.get q).state = .vacant := by
      by_cases hq : q = p
      · rw [hq, Dev.sampleEnded_psq]
        exact hvacant p
      · rw [((Dev.sampleEnded_other p _ 3 s.dev).1 q hq).2.1]
        exact hvacant q
    refine ⟨_, _, by rw [exec_restoreSampleDone c0 c1 c2 c3 hrun hway, endStartup_sampleEnded _ hrun hscan hother],
      Dev.startupEnds_startupEnded hvacant', fun hin => ?inside, fun hout => ?outside, Dev.sampleEnded_psq ..,
      Dev.sampleEnded_spares _ _ _ _,
      (Dev.sampleEnded_other ..).2.2, by apply Dev.ext <;> simp⟩
    case inside =>
      rw [Dev.sampleEnded_of_inRange _ hin]
      obtain ⟨hhot, hcool, _, _⟩ := Dev.inRangeSample_thermal p ((c0 + c1 + c2 + c3) / 4)
        (s.dev.setAdc (s.dev.adc.endSample p))
      exact ⟨Dev.inRangeSample_sns _ _ _, fun h => (hhot h).1, hcool⟩
    case outside =>
      rw [Dev.sampleEnded_of_outOfRange _ hout]
      obtain ⟨hsensor, _⟩ := (Dev.outOfRangeSample_sensor p ((c0 + c1 + c2 + c3) / 4) 3
        (s.dev.setAdc (s.dev.adc.endSample p))).1 rfl
      exact ⟨by simp, by simp, hsensor⟩
  case page =>
    intro misread c maps hscan hmapA hmapB hsampling hclass hmaps
    obtain ⟨d, hd⟩ : ∃ d, d = s.dev.pageClassed .b c := ⟨_, rfl⟩
    have hmap (p : Pocket) : maps.get p = d.scanMap p := by
      rw [hmaps, hd, ← (Dev.pageClassed_last (c := c) hmapA hmapB p).1]
    have hitems : d.run = s.dev.run ∧ d.sns = s.dev.sns ∧ d.link = s.dev.link ∧ d.psq = s.dev.psq := by
      rw [hd]
      exact ⟨rfl, rfl, rfl, rfl⟩
    obtain ⟨hrun', hsns', hlink', hpsq'⟩ := hitems
    obtain ⟨hdone, hlink, _, _⟩ := d.endScan_parts
    have hget (q : Pocket) : d.endScan.psq.get q = (s.dev.psq.get q).concluded (d.scanMap q) := by
      rw [(d.endScan_get q).2.1, hpsq']
    have hvacant' (q : Pocket) : (d.endScan.psq.get q).state = .vacant := by
      rw [hget, ((s.dev.psq.get q).concluded_spec _).2.2.2]
      exact hvacant q
    refine ⟨_, _, by rw [exec_scanPageRead_last hmapA hmapB hrun hhold hscan hclass, ← hd,
        endStartup_endScan (hrun'.trans hrun) (by rw [hsns']; exact hsampling)],
      Dev.startupEnds_startupEnded hvacant', hdone, fun q => ?_, by rw [hlink, hlink'], by
      apply Dev.ext <;> simp [hd, Dev.pageClassed]⟩
    obtain ⟨hcorrupt, _, _, hkept⟩ := (s.dev.psq.get q).concluded_spec (d.scanMap q)
    rw [hmap, (d.endScan_get q).1, hget]
    refine ⟨rfl, rfl, fun hforeign => hcorrupt.2 (.inr (ringCorrupt_of_foreign hforeign)), hkept⟩

end Sys2Proof.Proofs
end
